-- ==== Sys2Proof/Word.lean ====
section
/-! DEFINITION. The words of the LC32: the small numbers, counts and sets that the manual treats as
bits, the identifiers of lanes, pairs, sessions and nodes, and their plainest arithmetic. -/

namespace Sys2Proof

/-- One byte of a trunk or pair-link frame. -/
abbrev Byte := BitVec 8

/-- A lane. Lane number `n` of the manual (1 to 32) is the value `n - 1`. -/
abbrev LaneId := Fin 32

/-- A lane pair. Pair `p` of the manual (1 to 16) is the value `p - 1`. -/
abbrev PairId := Fin 16

/-- A session record. Session id `n` of the manual (1 to 32) is the value `n - 1`. -/
abbrev SessionId := Fin 32

/-- A node of a pair link. Address `a` of the manual (1 to 7) is the value `a - 1`. -/
abbrev NodeAddr := Fin 7

/-- A standing set: bit `n - 1` stands for pin `n` (section 11.7). -/
abbrev PinSet := BitVec 10

/-- A stamp, 0 to 63, wrapping (R71). -/
abbrev Stamp := BitVec 6

/-- Node time: 16 bits of milliseconds, wrapping (00_scope, Time). -/
abbrev NodeTime := BitVec 16

/-- A cycle number, 0 to 15, wrapping (R82). -/
abbrev CycleNo := BitVec 4

/-- A slot serial, 0 to 7, wrapping (R168). -/
abbrev Serial := BitVec 3

/-- The left or the right lane of a pair. -/
inductive Side where
  | left
  | right
deriving DecidableEq, Repr

/-- The number the manual gives a lane. -/
abbrev laneNumber (l : LaneId) : Nat := l.val + 1

/-- The number the manual gives a pair. -/
abbrev pairNumber (p : PairId) : Nat := p.val + 1

end Sys2Proof
end

