-- ==== Sys2Proof/Syntax.lean ====
section
/-! DEFINITION. The commands of the LC32: one constructor of `Instr` for every row of the opcode
table, with the row's operands, and the types of those operands. Numbers of a request stand as the
trunk frame carries them (they may be out of range: the request's own rule refuses or clamps them).
Commands that the desk does not send name a lane, a pair, a node or a session that exists. -/

namespace Sys2Proof

/-- A resume choice (R59). -/
inductive Resume where
  | clamp
  | replay
deriving DecidableEq, Repr

/-- The resume choice carried by MOVE_SESSION (R22). -/
inductive MoveResume where
  | clamp
  | replay
  | sessionDefault
deriving DecidableEq, Repr

/-- The kind carried by STOP_MACHINE, and the two commands a node can be owed (R99, R115). -/
inductive StopKind where
  | halt
  | park
deriving DecidableEq, Repr

/-- The selector of READ_TARIFF (R148). -/
inductive TariffCopy where
  | active
  | staging
deriving DecidableEq, Repr

/-- The selector of one session-level field of an opening request (R13). -/
inductive Selector (α : Type) where
  | value (v : α)
  | centreDefault
  | keep
  | unlisted (code : Nat)
deriving DecidableEq, Repr

/-- The ten selectors of OPEN_LANE and OPEN_PAIR_PLAY, in the order of the centre default record
(section 1.2). Enumerated values are carried as their codes (section 11.7); the limit is one field,
its kind and its value. -/
structure TermSelectors where
  billing : Selector Nat
  tariffClass : Selector Nat
  limit : Selector (Nat × Nat)
  warning : Selector Nat
  foulDetection : Selector Nat
  reRackAllowed : Selector Nat
  resume : Selector Nat
  basis : Selector Nat
  percent : Selector Nat
  cap : Selector Nat
deriving DecidableEq, Repr

/-- One bowler entry as an opening request or ADD_BOWLER carries it (section 11.7). -/
structure BowlerEntry where
  handle : Nat
  average : Nat
  modeCode : Nat
  fixedValue : Nat
deriving DecidableEq, Repr

/-- The lane part of a SET_LANE_MAP pair entry (R2). -/
structure LaneMapLane where
  enabled : Bool
  profile : Nat
  hasConsole : Bool
deriving DecidableEq, Repr

/-- One pair entry of SET_LANE_MAP (R2, R63). -/
structure LaneMapPair where
  pair : Nat
  left : LaneMapLane
  right : LaneMapLane
  foul : Nat
  pit : Nat
  lift : Nat
  rack : Nat
deriving DecidableEq, Repr

/-- The fourteen parameters of a machine profile (section 5.3), as carried and as held. -/
structure Profile where
  deckDown : Nat
  lift : Nat
  sweep : Nat
  respot : Nat
  newRack : Nat
  home : Nat
  powerUp : Nat
  halt : Nat
  guardDown : Nat
  deckUp : Nat
  powerDown : Nat
  settle : Nat
  readingDeadline : Nat
  retry : Nat
deriving DecidableEq, Repr

/-- One item of SET_FAULT_ACTION (R107): class code, action code (NONE 0, HOLD 1, STOP 2, PARK 3). -/
structure FaultActionItem where
  classCode : Nat
  actionCode : Nat
  credit : Bool
  priority : Nat
deriving DecidableEq, Repr

/-- One item of SET_NOTICE_PRIORITY (R179). -/
structure NoticePriorityItem where
  kind : Nat
  priority : Nat
deriving DecidableEq, Repr

/-- One item of SET_RETURN (R123). -/
structure ReturnItem where
  pair : Nat
  capacity : Nat
  jamSeconds : Nat
deriving DecidableEq, Repr

/-- The centre default record as SET_DEFAULTS carries it (R4), enumerated values as their codes. -/
structure DefaultsFields where
  billing : Nat
  tariffClass : Nat
  limitKind : Nat
  limitValue : Nat
  warning : Nat
  foulDetection : Nat
  reRackAllowed : Nat
  resume : Nat
  basis : Nat
  percent : Nat
  cap : Nat
  expiryWait : Nat
deriving DecidableEq, Repr

/-- The seven calendar fields (section 8.1), as SET_CLOCK carries them and as the clock holds them. -/
structure Calendar where
  second : Nat
  minute : Nat
  hour : Nat
  weekday : Nat
  day : Nat
  month : Nat
  year : Nat
deriving DecidableEq, Repr

/-- A period entry as STAGE_ENTRY carries it (section 8.2); the two sets are still numbers, so that
an unused bit can be refused. -/
structure PeriodFields where
  classSet : Nat
  weekdaySet : Nat
  startMinute : Nat
  endMinute : Nat
  gamePrice : Nat
  hourlyRate : Nat
deriving DecidableEq, Repr

/-- The four fields of a class default (section 8.2). -/
structure ClassDefault where
  gamePrice : Nat
  hourlyRate : Nat
  minimum : Nat
  grace : Nat
deriving DecidableEq, Repr

/-- The commands of the LC32, one per row of the opcode table.

The commands of the desk carry the `tag` of their trunk frame (R176). The other commands are the
events the part meets: a frame on the trunk or on a pair link, an expiry, a tick, or a deferred
operation that falls due. -/
inductive Instr where
  | powerOnReset
  | trunkFrameReceived (bytes : List Byte)
  | unknownRequest (tag : Byte) (code : Byte)
  | transmitComplete
  | setLaneMap (tag : Byte) (entries : List LaneMapPair)
  | setProfile (tag : Byte) (number : Nat) (profile : Profile)
  | setFaultAction (tag : Byte) (items : List FaultActionItem)
  | setNoticePriority (tag : Byte) (items : List NoticePriorityItem)
  | setPollOrder (tag : Byte) (pair : Nat) (addresses : List Nat) (timeout threshold : Nat)
  | setDefaults (tag : Byte) (fields : DefaultsFields)
  | setReturn (tag : Byte) (items : List ReturnItem)
  | setClock (tag : Byte) (fields : Calendar)
  | adjustClock (tag : Byte)
  | stageEntry (tag : Byte) (slot : Nat) (entry : Option PeriodFields)
  | stageClassDefault (tag : Byte) (tariffClass : Nat) (fields : ClassDefault)
  | stageSpecialDay (tag : Byte) (day month : Nat) (weekday : Option Nat)
  | commitTariff (tag : Byte) (count check : Nat)
  | cancelCommit (tag : Byte)
  | passThrough (tag : Byte) (lane : Nat) (payload : List Byte)
  | restartPairLink (tag : Byte) (pair : Nat)
  | trimTrack (tag : Byte) (pair count : Nat)
  | collectCharges (tag : Byte) (maximum : Nat) (unlisted : Bool)
  | resetDevice (tag : Byte) (discard : Bool)
  | goRun (tag : Byte)
  | returnSetup (tag : Byte)
  | readLane (tag : Byte) (lane : Nat)
  | readSession (tag : Byte) (session : Nat)
  | readDevice (tag : Byte)
  | readReturn (tag : Byte) (pair : Nat)
  | readTariff (tag : Byte) (copy : TariffCopy)
  | readNoticeStatus (tag : Byte)
  | openLane (tag : Byte) (lane : Nat) (terms : TermSelectors) (bowlers : List BowlerEntry)
  | openPairPlay (tag : Byte) (pair : Nat) (terms : TermSelectors)
      (team1 team2 : List BowlerEntry)
  | addBowler (tag : Byte) (session : Nat) (bowler : BowlerEntry)
  | withdrawBowler (tag : Byte) (session slot : Nat)
  | closeLane (tag : Byte) (lane : Nat) (session : Option Nat)
  | moveSession (tag : Byte) (session target : Nat) (resume : MoveResume)
  | startMachine (tag : Byte) (lane : Nat) (resume : Option Resume)
  | stopMachine (tag : Byte) (lane : Nat) (kind : StopKind)
  | reRack (tag : Byte) (lane : Nat)
  | enterManual (tag : Byte) (lane : Nat)
  | leaveManual (tag : Byte) (lane : Nat)
  | manualCommand (tag : Byte) (lane : Nat) (body : List Byte)
  | enterBall (tag : Byte) (lane session : Nat) (pins : List Nat)
  | correctBall (tag : Byte) (session slot game frame ball pinfall : Nat)
  | extendLimit (tag : Byte) (session value : Nat)
  | resyncReader (tag : Byte) (lane : Nat)
  | clearFault (tag : Byte) (lane classCode : Nat) (serviceDone : Bool) (resume : Option Nat)
  | answerReceived (pair : PairId) (frame : List Byte)
  | wrongAddressAnswer (pair : PairId)
  | damagedAnswer (pair : PairId)
  | abandonedAnswer (pair : PairId)
  | answerTimeout (pair : PairId)
  | slotCommandPlace (pair : PairId) (address : NodeAddr)
  | owedCommandPlace (lane : LaneId)
  | stepWatchExpiry (lane : LaneId)
  | jamWatchExpiry (pair : PairId)
  | settleExpiry (lane : LaneId)
  | retryExpiry (lane : LaneId)
  | readingDeadlineExpiry (lane : LaneId)
  | heldResultApply (lane : LaneId)
  | owedCycleRun (lane : LaneId)
  | followOnPark (lane : LaneId)
  | followOnStart (lane : LaneId)
  | pendingResumeApply (session : SessionId)
  | secondTick
  | expiryWaitEnd (session : SessionId)
  | minuteBoundary
  | closeSequence (session : SessionId)
  | moveComplete (lane : LaneId)
deriving DecidableEq, Repr

end Sys2Proof
end

