-- ==== Sys2Proof/Decode.lean ====
section
/-! DEFINITION. The decoder of the opcode table's words. The table gives no row any bits (its rows
carry no fields), so no word spells a command. The desk's requests are read from their frames in
`Machine/Wire.lean`. -/

namespace Sys2Proof

/-- The command a word of the opcode table spells: none, because the table gives its rows no bits. -/
def decodeTableWord (nbits w : Nat) : Option Instr :=
  match nbits, w with
  | _, _ => none

end Sys2Proof
end

