-- ==== Sys2Proof/Machine/Records.lean ====
section
/-! DEFINITION. The records the LC32 keeps, block by block: plain data, each type citing the rule
that gives its fields. `Machine/State.lean` gathers them into the machine's state. -/

namespace Sys2Proof.Machine

open Sys2Proof

/-! ## The lane table, terms and sessions (chapter 1) -/

/-- The device state (R180). -/
inductive DeviceState where
  | setup
  | run
deriving DecidableEq, Repr

/-- Lane state (section 1.1). -/
inductive LaneState where
  | disabled
  | closed
  | opened
  | pairPlay
  | manual
deriving DecidableEq, Repr

/-- Billing mode (section 1.4). -/
inductive Billing where
  | game
  | time
deriving DecidableEq, Repr

/-- The limit kind and value of a session, one field (R13). -/
inductive Limit where
  | none
  | games (value : Nat)
  | minutes (value : Nat)
deriving DecidableEq, Repr

/-- The ten session-level fields of a session (section 1.4). -/
structure Terms where
  billing : Billing
  tariffClass : Fin 8
  limit : Limit
  warning : Nat
  foulDetection : Bool
  reRackAllowed : Bool
  resume : Resume
  basis : Nat
  percent : Nat
  cap : Nat
deriving DecidableEq, Repr

/-- The names of the ten session-level fields and the expiry wait, used in a response to name the
clamped fields (R4, R13), with the bowler fields R13 clamps. -/
inductive ClampedField where
  | limitValue
  | warning
  | foulDetection
  | reRackAllowed
  | resume
  | basis
  | percent
  | cap
  | expiryWait
  | average (team slot : Nat)
  | fixedHandicap (team slot : Nat)
deriving DecidableEq, Repr

/-- The centre default record (section 1.2). -/
structure CentreDefaults where
  terms : Terms
  expiryWait : Nat
deriving DecidableEq, Repr

/-- A pending move (section 1.1): target lane and resume choice. -/
structure MovePending where
  target : LaneId
  resume : MoveResume
deriving DecidableEq, Repr

/-- One entry of the lane table (section 1.1). -/
structure LaneEntry where
  enabled : Bool
  profile : Fin 4
  hasConsole : Bool
  state : LaneState
  holder : Option SessionId
  waiting : Option SessionId
  movePending : Option MovePending
  memory : Option Terms
deriving DecidableEq, Repr

/-- Session state; CLOSED appears only in SESSION_STATE (R10). -/
inductive SessionState where
  | opened
  | moving
  | expired
  | exhausted
  | closing
  | closed
deriving DecidableEq, Repr

/-- The mode of a session with its team (section 1.4): team 1 opened on the left lane, team 2 on
the right (R15). -/
inductive Mode where
  | single
  | pairPlay (team : Side)
deriving DecidableEq, Repr

/-! ## Scoring (chapter 2) -/

/-- The rack a ball faces (section 2.1). -/
inductive Faced where
  | full
  | leave
deriving DecidableEq, Repr

/-- Where a recorded ball came from (section 2.1). -/
inductive BallSource where
  | readGood
  | readPoor
  | entered
  | clamped
deriving DecidableEq, Repr

/-- A ball record (section 2.1). -/
structure Ball where
  pinfall : Nat
  faced : Faced
  before : PinSet
  after : PinSet
  foul : Bool
  split : Bool
  source : BallSource
  corrected : Bool
  stamp : Stamp
deriving DecidableEq, Repr

/-- Frame status (section 2.1). -/
inductive FrameStatus where
  | notBowled
  | inProgress
  | awaitingBonus
  | scored
deriving DecidableEq, Repr

/-- A frame record (section 2.1). -/
structure Frame where
  status : FrameStatus
  balls : List Ball
  score : Option Nat
  running : Option Nat
deriving DecidableEq, Repr

/-- Game status (R26). -/
inductive GameStatus where
  | notStarted
  | inProgress
  | complete
  | skipped
  | withdrawn
deriving DecidableEq, Repr

/-- A game record: ten frames, frame `n` at position `n - 1` (section 2.1). -/
structure Game where
  number : Nat
  status : GameStatus
  handicap : Nat
  charged : Bool
  frames : List Frame
deriving DecidableEq, Repr

/-- How a game in the totals list ended (R11). -/
inductive Ending where
  | complete
  | withdrawn
deriving DecidableEq, Repr

/-- An entry of a bowler's game totals list (R11). -/
structure GameTotal where
  game : Nat
  scratch : Nat
  handicap : Nat
  total : Nat
  ending : Ending
deriving DecidableEq, Repr

/-- A bowler's handicap mode (section 1.5). -/
inductive HandicapMode where
  | none
  | fixed (value : Nat)
  | basis
deriving DecidableEq, Repr

/-- A bowler record with its current game record (section 1.5). -/
structure Bowler where
  handle : Nat
  member : Bool
  joinsNext : Bool
  withdrawalPending : Bool
  average : Nat
  handicapMode : HandicapMode
  game : Game
  gamesCompleted : Nat
  totals : List GameTotal
deriving DecidableEq, Repr

/-- The next-ball record (section 2.1). -/
structure NextBall where
  slot : Nat
  frame : Nat
  index : Nat
  faced : Faced
  before : PinSet
  expected : Option Nat
deriving DecidableEq, Repr

/-- A ball result (section 2.2). -/
structure BallResult where
  after : PinSet
  foul : Bool
  source : BallSource
  stamp : Stamp
deriving DecidableEq, Repr

/-- A cycle need (R36). -/
inductive Need where
  | first
  | full
  | fullThenPark
deriving DecidableEq, Repr

/-! ## Billing (chapter 9) -/

/-- The state of a session billing record (section 9.1). -/
inductive BillingState where
  | gameMode
  | running
  | crediting
  | stopped
deriving DecidableEq, Repr

/-- A session billing record (section 9.1). -/
structure BillingRecord where
  state : BillingState
  chargeable : Nat
  secondsInMinute : Nat
  carry : Nat
  chargedMinutes : Nat
  credited : Nat
  elapsed : Nat
  gamesCharged : Nat
  timeTotal : Nat
  saturated : Bool
  warned : Bool
  expiryWait : Nat
  expiryCount : Option Nat
deriving DecidableEq, Repr

/-- A session record in use, with its score context (section 2.1) and its billing record. -/
structure Session where
  state : SessionState
  mode : Mode
  lane : LaneId
  terms : Terms
  expiryDue : Bool
  game : Nat
  frame : Nat
  slot : Option Nat
  bowlers : List Bowler
  takingPart : List Nat
  nextBall : NextBall
  held : Option BallResult
  pendingResume : Option Resume
  billing : BillingRecord
deriving DecidableEq, Repr

/-- The open time line of a lane meter (R153). -/
structure OpenLine where
  session : SessionId
  reference : Nat
  version : BitVec 8
  minutes : Nat
  amount : Nat
  start : Calendar
deriving DecidableEq, Repr

/-- The kind of a charge line (R161). -/
inductive ChargeKind where
  | time
  | game
  | minimum
  | downtimeNote
deriving DecidableEq, Repr

/-- A charge line (R161); slot and game number for GAME lines only. -/
structure ChargeLine where
  lane : LaneId
  session : SessionId
  kind : ChargeKind
  reference : Nat
  version : BitVec 8
  quantity : Nat
  amount : Nat
  stamp : Calendar
  slotGame : Option (Nat × Nat)
deriving DecidableEq, Repr

/-- A lane's unlisted total (R161). -/
structure Unlisted where
  amount : Nat
  saturated : Bool
  lines : Nat
deriving DecidableEq, Repr

/-- A lane meter (R153, R154), with the lane's unlisted total beside it. -/
structure Meter where
  openLine : Option OpenLine
  chargedTotal : Nat
  saturated : Bool
  unlisted : Unlisted
deriving DecidableEq, Repr

/-! ## The ball tracker (chapter 4) -/

/-- Play state (section 4.3). -/
inductive PlayState where
  | notArmed
  | armed
  | settling
  | reading
  | awaitingEntry
  | resolved
deriving DecidableEq, Repr

/-- The ball-in-play record (R70). -/
structure BallInPlay where
  stamp : NodeTime
  taken : Nat
  foul : Bool
  reads : Nat
deriving DecidableEq, Repr

/-- Resync state (R70, R80). -/
inductive Resync where
  | none
  | sent
  | done
  | lost
deriving DecidableEq, Repr

/-- A Ball Tracker (R70). A timer holds its deadline in device time, or is stopped. `readWaiting`:
a READ waits for the slot to empty (R75). `countWaiting`: a SET_COUNT does (R80, R168). Both are the
model's own fields (log entry 43). -/
structure Tracker where
  play : PlayState
  pitCount : BitVec 16
  foulPending : Option NodeTime
  ball : Option BallInPlay
  settleTimer : Option Nat
  retryTimer : Option Nat
  deadlineTimer : Option Nat
  resync : Resync
  readWaiting : Bool
  countWaiting : Bool
  strays : Nat
  ignoredFouls : Nat
  staleReadings : Nat
  anomalousReadings : Nat
  lateReadings : Nat
deriving DecidableEq, Repr

/-! ## The machine supervisor (chapter 5) -/

/-- Machine state (section 5.1). -/
inductive MachineState where
  | off
  | starting
  | ready
  | cycling
  | halted
  | parking
  | parked
  | outOfService
  | manual
deriving DecidableEq, Repr

/-- A pinsetter step, in the order of the profile table (section 5.3). -/
inductive Step where
  | deckDown
  | lift
  | sweep
  | respot
  | newRack
  | home
  | powerUp
  | halt
  | guardDown
  | deckUp
  | powerDown
deriving DecidableEq, Repr

/-- A pinsetter sequence (section 5.2). -/
inductive Sequence where
  | start
  | firstCycle
  | fullCycle
  | reRack
  | halt
  | park
deriving DecidableEq, Repr

/-- The report a sequence awaits (R81): its steps still to come, or SEQUENCE_DONE. -/
inductive Expected where
  | step (next : Step) (later : List Step)
  | sequenceDone
deriving DecidableEq, Repr

/-- A restart mark with the resume choice it holds, or none (R98, R118). -/
structure RestartMark where
  resume : Option Resume
deriving DecidableEq, Repr

/-- A cycle record (R81). -/
structure CycleRecord where
  kind : Sequence
  number : CycleNo
  expected : Expected
  acknowledged : Bool
  watch : Option Nat
  restart : Option RestartMark
deriving DecidableEq, Repr

/-- A follow-on (R81). A START set by CLEAR_FAULT keeps the resume choice of that request (R118);
a START set for a new holder keeps none (R96). -/
inductive FollowOn where
  | none
  | park
  | start
  | restart (resume : Option Resume)
deriving DecidableEq, Repr

/-- One report of a pinsetter answer (section 11.7). -/
inductive Report where
  | stepDone (number : CycleNo) (stepCode : Nat)
  | sequenceDone (number : CycleNo)
  | jam
  | deck
  | overload
  | supplyLow
  | supplyOk
  | unknown (code : Nat)
deriving DecidableEq, Repr

/-- What MACHINE_REPORT passes up (R103). -/
inductive MachineReport where
  | acked
  | dropped
  | report (first second : Byte)
deriving DecidableEq, Repr

/-- A Machine Supervisor (R81). `deferredNeed` is the cycle need of a withdrawal that waits for the
sequence in progress to end (R42). -/
structure Supervisor where
  machine : MachineState
  cycle : CycleNo
  record : Option CycleRecord
  superseded : Option CycleNo
  awaiting : Option StopKind
  owed : Option Need
  followOn : FollowOn
  deferredNeed : Option Need
  discardedSuperseded : Nat
  discardedIdle : Nat
  lastReport : Option MachineReport
deriving DecidableEq, Repr

/-! ## Faults (chapter 6) -/

/-- The fifteen fault classes, in the order of the table of R106. -/
inductive FaultClass where
  | machineJam
  | deckFault
  | pinSupplyLow
  | motorOverload
  | stepOverdue
  | cycleMismatch
  | sequenceFault
  | startFailed
  | readingOverdue
  | machineNodeLost
  | sensorNodeLost
  | commandLost
  | returnJam
  | detectorBlocked
  | parkFailed
deriving DecidableEq, Repr

/-- A fault action, in rising order of severity (R106). -/
inductive Action where
  | none
  | hold
  | stop
  | park
  | outOfService
deriving DecidableEq, Repr

/-- One entry of the fault action table (R106). -/
structure FaultAction where
  action : Action
  credit : Bool
  priority : Nat
deriving DecidableEq, Repr

/-- One entry of an active fault set (R108). -/
structure FaultEntry where
  cls : FaultClass
  action : Action
  credit : Bool
  present : Bool
  latched : Bool
  raises : Nat
  firstRaised : Nat
  lastRaised : Nat
deriving DecidableEq, Repr

/-- The cause of a FAULT_CLEARED (R120). -/
inductive ClearCause where
  | conditionEnded
  | desk
  | entry
  | close
  | serviceDone
deriving DecidableEq, Repr

/-- Everything the part keeps for one lane. -/
structure Lane where
  entry : LaneEntry
  tracker : Tracker
  supervisor : Supervisor
  faults : List FaultEntry
  meter : Meter
deriving DecidableEq, Repr

/-! ## The detector filter (chapter 4) -/

/-- The six detectors of a pair (section 4.1), in the order of the level byte (section 11.7). -/
inductive Detector where
  | foulLeft
  | pitLeft
  | foulRight
  | pitRight
  | lift
  | rack
deriving DecidableEq, Repr

/-- The filter state of a detector (R64). -/
inductive FilterState where
  | clear
  | pressWait
  | dark
  | releaseWait
deriving DecidableEq, Repr

/-- What the filter holds for one detector (R64). -/
structure DetectorState where
  state : FilterState
  darkEdge : NodeTime
  releaseEdge : NodeTime
  darkSince : NodeTime
  blocked : Bool
  passages : Nat
  glitches : Nat
deriving DecidableEq, Repr

/-- The debounce values of a pair, in milliseconds (R63). -/
structure Debounce where
  foul : Nat
  pit : Nat
  lift : Nat
  rack : Nat
deriving DecidableEq, Repr

/-- A Detector Filter (R63, R64). -/
structure Filter where
  debounce : Debounce
  foulLeft : DetectorState
  pitLeft : DetectorState
  foulRight : DetectorState
  pitRight : DetectorState
  lift : DetectorState
  rack : DetectorState
  lastNodeTime : NodeTime
  initialised : Bool
  reinits : Nat
  mismatches : Nat
  discarded : Nat
deriving DecidableEq, Repr

/-- One raw transition of a lane I/O answer (R66); the detector number may name none. -/
structure Transition where
  detector : Option Detector
  dark : Bool
  time : NodeTime
deriving DecidableEq, Repr

/-! ## Pair links (chapter 10) -/

/-- Node state (section 10.3). -/
inductive NodeState where
  | absent
  | alive
  | lost
deriving DecidableEq, Repr

/-- The role of a node address (00_scope, Lanes, pairs and equipment nodes). -/
inductive Role where
  | pinsetter (side : Side)
  | reader (side : Side)
  | laneIo
  | console (side : Side)
deriving DecidableEq, Repr

/-- A command for a node (R168). -/
inductive Command where
  | cycle (kind : Sequence) (number : CycleNo)
  | halt (number : CycleNo)
  | park (number : CycleNo)
  | manual (body : List Byte)
  | read (stamp : Stamp)
  | setCount (stamp : Stamp)
  | setOutputs (liftOn : Bool)
  | display (payload : List Byte)
deriving DecidableEq, Repr

/-- A command in a slot, with its serial and its tries (section 10.1). -/
structure SlotEntry where
  command : Command
  serial : Serial
  tries : Option Nat
deriving DecidableEq, Repr

/-- A node record (section 10.1). -/
structure Node where
  state : NodeState
  misses : Nat
  slot : Option SlotEntry
  nextSerial : Serial
  owed : Option StopKind
  totalMisses : Nat
  commandsDropped : Nat
  framesDropped : Nat
  framesDiscarded : Nat
deriving DecidableEq, Repr

/-- A poll on the line (R165): the address polled, the command it carries with its serial, the
device time at which the answer timeout ends, and whether a restart has abandoned it (R173). -/
structure Poll where
  address : NodeAddr
  carried : Option (Command × Serial)
  deadline : Nat
  abandoned : Bool
deriving DecidableEq, Repr

/-- A display frame in the pass-through queue (R172). -/
structure DisplayFrame where
  side : Side
  payload : List Byte
deriving DecidableEq, Repr

/-- A Link Poller (R163). `current` counts slots from 0. -/
structure Poller where
  order : List NodeAddr
  pendingOrder : Option (List NodeAddr)
  current : Nat
  timeout : Nat
  threshold : Nat
  nodes : Vector Node 7
  queue : List DisplayFrame
  poll : Option Poll
  pollsSent : Nat
  wrongAddress : Nat
  damaged : Nat
  abandoned : Nat
deriving DecidableEq, Repr

/-- The command field of an answer (R169). -/
inductive CommandResult where
  | none
  | ack (serial : Serial)
  | checkError (serial : Serial)
deriving DecidableEq, Repr

/-- A pin reading (R76). -/
structure Reading where
  stamp : Stamp
  settled : Bool
  poor : Bool
  standing : PinSet
deriving DecidableEq, Repr

/-- A console keystroke (R170, section 11.7). -/
inductive Keystroke where
  | reRack
  | callDesk
  | unknown (code : Nat)
deriving DecidableEq, Repr

/-- The contents of an answer by role (R170). -/
inductive AnswerContents where
  | pinsetter (reports : List (Report × Byte × Byte))
  | reader (reading : Option Reading)
  | laneIo (nodeNow : NodeTime) (levels : Byte) (transitions : List Transition)
  | console (key : Option Keystroke)
deriving DecidableEq, Repr

/-- An answer frame, read (section 11.7). -/
structure Answer where
  address : NodeAddr
  result : CommandResult
  contents : AnswerContents
deriving DecidableEq, Repr

/-! ## Ball returns (chapter 7) -/

/-- An entry of a track list (R122). -/
structure TrackEntry where
  origin : LaneId
  entered : Nat
deriving DecidableEq, Repr

/-- The jam watch (R122). -/
inductive JamWatch where
  | running (base deadline : Nat)
  | suspended
  | stopped
deriving DecidableEq, Repr

/-- A Return Supervisor (R122). -/
structure BallReturn where
  track : List TrackEntry
  capacity : Nat
  jamSeconds : Nat
  liftOn : Bool
  rackFull : Bool
  inUse : Bool
  watch : JamWatch
  watchExpired : Bool
  overflow : Bool
  atCapacity : Bool
  phantoms : Nat
  overflows : Nat
  expiries : Nat
deriving DecidableEq, Repr

/-- Everything the part keeps for one pair. -/
structure Pair where
  filter : Filter
  poller : Poller
  ballReturn : BallReturn
  faults : List FaultEntry
deriving DecidableEq, Repr

/-! ## Clock and tariffs (chapter 8) -/

/-- The Calendar Clock (R135). The sub-second phase is held in milliseconds. `boundaryDue`: a tick
has produced a minute boundary that the Tariff Unit has not yet taken (R137). -/
structure Clock where
  calendar : Calendar
  valid : Bool
  phase : Nat
  boundaryDue : Bool
deriving DecidableEq, Repr

/-- A period entry (section 8.2). Bit `n` of the class set stands for class `n`, bit `n - 1` of the
weekday set for weekday `n`. -/
structure Period where
  classes : BitVec 8
  weekdays : BitVec 7
  startMinute : Nat
  endMinute : Nat
  gamePrice : Nat
  hourlyRate : Nat
deriving DecidableEq, Repr

/-- A special day (section 8.2). -/
structure SpecialDay where
  day : Nat
  month : Nat
  weekday : Nat
deriving DecidableEq, Repr

/-- The calendar minute of a commit stamp (R140). -/
structure MinuteStamp where
  year : Nat
  month : Nat
  day : Nat
  hour : Nat
  minute : Nat
deriving DecidableEq, Repr

/-- A pending commit: its count and its stamp (R140). -/
structure PendingCommit where
  count : Nat
  stamp : MinuteStamp
deriving DecidableEq, Repr

/-- The Tariff Unit (R140). The special days of each copy are kept in ascending order of month and
day, so that equal collections are equal data. -/
structure Tariff where
  activeTable : List Period
  activeDefaults : Vector ClassDefault 8
  activeDays : List SpecialDay
  slots : Vector (Option Period) 24
  stagedDefaults : Vector ClassDefault 8
  stagedDays : List SpecialDay
  version : BitVec 8
  committedOnce : Bool
  pending : Option PendingCommit
deriving DecidableEq, Repr

/-- What a price lookup answers (R141). -/
structure Lookup where
  gamePrice : Nat
  hourlyRate : Nat
  reference : Nat
  version : BitVec 8
  minimum : Nat
  grace : Nat
deriving DecidableEq, Repr

/-- The Charge List (R161): lines oldest first, and the full flag. -/
structure ChargeList where
  lines : List ChargeLine
  full : Bool
deriving DecidableEq, Repr

/-! ## Notices (chapter 11) -/

/-- The twenty notice kinds, numbered as the table of R179. -/
inductive NoticeKind where
  | ballScored
  | gameDone
  | turnChanged
  | sessionState
  | limitWarning
  | limitReached
  | faultRaised
  | faultCleared
  | machineState
  | clockSet
  | machineReport
  | readingAnomaly
  | strayBall
  | returnState
  | nodeState
  | consoleCall
  | reRackRefused
  | chargeListFull
  | tariffSwapped
  | requestDropped
deriving DecidableEq, Repr

/-- A frame as BALL_SCORED reports it (R45, R62). -/
structure FrameReport where
  frame : Nat
  status : FrameStatus
  score : Option Nat
  running : Option Nat
deriving DecidableEq, Repr

/-- The cause of a BALL_SCORED with its ball fields (R62). -/
inductive ScoreCause where
  | ball (ball : Ball)
  | correction (ball : Ball)
  | resume (choice : Resume) (removed : Nat)
deriving DecidableEq, Repr

/-- The payload of BALL_SCORED (R45, R62). -/
structure BallScored where
  session : SessionId
  slot : Nat
  handle : Nat
  game : Nat
  frame : Nat
  index : Nat
  cause : ScoreCause
  status : FrameStatus
  frames : List FrameReport
  handicapRunning : Option Nat
  nextBall : NextBall
deriving DecidableEq, Repr

/-- The payload of GAME_DONE (R46). -/
structure GameDone where
  session : SessionId
  slot : Nat
  handle : Nat
  total : GameTotal
  gamesCompleted : Nat
deriving DecidableEq, Repr

/-- The payload of TURN_CHANGED (R50). -/
structure TurnChanged where
  pair : PairId
  lane : LaneId
  session : SessionId
  team : Option Side
  game : Nat
  frame : Nat
  slot : Option Nat
  handle : Option Nat
  otherWaiting : Option SessionId
deriving DecidableEq, Repr

/-- The payload of SESSION_STATE (R10). -/
structure SessionReport where
  session : SessionId
  state : SessionState
  lane : LaneId
  expiryDue : Bool
  moveTarget : Option LaneId
  previousLane : Option LaneId
deriving DecidableEq, Repr

/-- The payload of LIMIT_WARNING and LIMIT_REACHED (R156). -/
structure LimitReport where
  session : SessionId
  lane : LaneId
  limit : Limit
  charged : Nat
  remaining : Nat
  expiryWait : Option Nat
deriving DecidableEq, Repr

/-- What a fault notice tells of one lane (R119, R120). -/
structure LaneFaults where
  lane : LaneId
  classes : List (FaultClass × Bool × Bool)
  effective : Action
  credit : Bool
deriving DecidableEq, Repr

/-- The payload of FAULT_RAISED (R119): one lane for a lane raise, both lanes of the pair for a pair
raise, each with its machine state. -/
structure FaultRaised where
  cls : FaultClass
  created : Bool
  action : Action
  credit : Bool
  raises : Nat
  lanes : List LaneFaults
  machines : List MachineState
deriving DecidableEq, Repr

/-- The payload of FAULT_CLEARED (R120). -/
structure FaultCleared where
  cls : FaultClass
  cause : ClearCause
  lanes : List LaneFaults
deriving DecidableEq, Repr

/-- The payload of MACHINE_STATE (R81). -/
structure MachineStatus where
  lane : LaneId
  machine : MachineState
  sequence : Option (Sequence × CycleNo × Expected)
  owed : Option Need
  followOn : FollowOn
deriving DecidableEq, Repr

/-- The payload of CLOCK_SET (R138, R139); a SET also tells the valid flag held before. -/
structure ClockSet where
  validBefore : Option Bool
  now : Calendar
  before : Calendar
deriving DecidableEq, Repr

/-- The payload of READING_ANOMALY (R76, R77). -/
structure Anomaly where
  lane : LaneId
  skew : Bool
  returned : Bool
  poor : Bool
  received : Stamp
  expected : Stamp
  dropped : PinSet
  standing : PinSet
deriving DecidableEq, Repr

/-- The payload of STRAY_BALL (R74). -/
structure StrayBall where
  lane : LaneId
  play : PlayState
  pitCount : BitVec 16
  stamp : NodeTime
deriving DecidableEq, Repr

/-- The payload of RETURN_STATE (R133). -/
structure ReturnStatus where
  pair : PairId
  length : Nat
  capacity : Nat
  liftOn : Bool
  rackFull : Bool
  inUse : Bool
  watch : JamWatch
  watchExpired : Bool
  overflow : Bool
  atCapacity : Bool
  oldest : Option TrackEntry
deriving DecidableEq, Repr

/-- The payload of NODE_STATE (R174); no changed node for a pair link restart. -/
structure NodeStatus where
  pair : PairId
  changed : Option (NodeAddr × Role × NodeState)
  nodes : List (NodeState × Nat × Bool)
deriving DecidableEq, Repr

/-- The payload of CONSOLE_CALL (R171). -/
structure ConsoleCall where
  lane : LaneId
  holder : Option SessionId
  slot : Option Nat
  handle : Option Nat
deriving DecidableEq, Repr

/-- Why a console re-rack is refused (R101). -/
inductive ReRackReason where
  | notAllowed
  | notArmed
  | facesLeave
deriving DecidableEq, Repr

/-- The payload of a notice, one constructor per kind (R179). -/
inductive NoticePayload where
  | ballScored (p : BallScored)
  | gameDone (p : GameDone)
  | turnChanged (p : TurnChanged)
  | sessionState (p : SessionReport)
  | limitWarning (p : LimitReport)
  | limitReached (p : LimitReport)
  | faultRaised (p : FaultRaised)
  | faultCleared (p : FaultCleared)
  | machineState (p : MachineStatus)
  | clockSet (p : ClockSet)
  | machineReport (lane : LaneId) (report : MachineReport)
  | readingAnomaly (p : Anomaly)
  | strayBall (p : StrayBall)
  | returnState (p : ReturnStatus)
  | nodeState (p : NodeStatus)
  | consoleCall (p : ConsoleCall)
  | reRackRefused (lane : LaneId) (holder : Option SessionId) (reason : ReRackReason)
  | chargeListFull (count : Nat) (unlisted : List LaneId)
  | tariffSwapped (version : BitVec 8) (entries days : Nat) (time : Calendar)
  | requestDropped (tag code : Byte) (dropped : Nat)
deriving DecidableEq, Repr

/-- An entry of the pending notice set (R178). -/
structure Notice where
  source : Nat
  payload : NoticePayload
  priority : Nat
  merges : Nat
deriving DecidableEq, Repr

/-! ## Responses (R176) -/

/-- The response codes (R176). -/
inductive Code where
  | ok
  | busy
  | badState
  | noLane
  | notFound
  | range
  | structureFails
  | full
  | check
  | condition
  | notRunning
deriving DecidableEq, Repr

/-- The parameters of a machine profile, to name a clamped one (R83). -/
inductive ProfileField where
  | watch (step : Step)
  | settle
  | readingDeadline
  | retry
deriving DecidableEq, Repr

/-- The debounce values and return settings, to name a clamped one with its pair (R63, R123). -/
inductive PairField where
  | foul
  | pit
  | lift
  | rack
  | capacity
  | jamSeconds
deriving DecidableEq, Repr

/-- The first failing field a tariff staging request names (R142, R143). -/
inductive TariffField where
  | classSet
  | weekdaySet
  | startMinute
  | endMinute
  | gamePrice
  | hourlyRate
  | tariffClass
  | minimum
  | grace
deriving DecidableEq, Repr

/-- The condition that GO_RUN names when it refuses (R180). -/
inductive RunCondition where
  | laneMap
  | clock
  | tariff
deriving DecidableEq, Repr

/-- The restart outcome of CLEAR_FAULT (R118). -/
inductive RestartOutcome where
  | begun
  | followOn
  | none
deriving DecidableEq, Repr

/-- The lane table entry as READ_LANE returns it. R5: lane memory is read only through the KEEP
selector, so it is no part of the reading (log entry 49). -/
structure EntryReading where
  enabled : Bool
  profile : Fin 4
  hasConsole : Bool
  state : LaneState
  holder : Option SessionId
  waiting : Option SessionId
  movePending : Option MovePending
deriving DecidableEq, Repr

/-- What READ_LANE returns (R182). -/
structure LaneReading where
  entry : EntryReading
  play : PlayState
  pitCount : BitVec 16
  ball : Option BallInPlay
  resync : Resync
  trackerCounters : List Nat
  machine : MachineState
  record : Option CycleRecord
  owed : Option Need
  followOn : FollowOn
  superseded : Option CycleNo
  supervisorCounters : List Nat
  lastReport : Option MachineReport
  laneFaults : List FaultEntry
  pairFaults : List FaultEntry
  effective : Action
  credit : Bool
  meter : Meter
  filter : Filter
  order : List NodeAddr
  pendingOrder : Option (List NodeAddr)
  timeout : Nat
  threshold : Nat
  nodes : Vector Node 7
  pollerCounters : List Nat
deriving DecidableEq, Repr

/-- What READ_DEVICE returns (R182). -/
structure DeviceReading where
  device : DeviceState
  laneMapLoaded : Bool
  calendar : Calendar
  valid : Bool
  version : BitVec 8
  committedOnce : Bool
  commitPending : Bool
  lines : Nat
  full : Bool
  unlistedLanes : Nat
  trunkCounters : List Nat
  notices : Nat
deriving DecidableEq, Repr

/-- What READ_TARIFF returns of the copy asked for (R148). -/
inductive TariffReading where
  | active (table : List Period) (defaults : Vector ClassDefault 8) (days : List SpecialDay)
  | staging (slots : Vector (Option Period) 24) (defaults : Vector ClassDefault 8)
      (days : List SpecialDay) (crc : BitVec 16)
deriving DecidableEq, Repr

/-- An entry of the response to READ_NOTICE_STATUS (R178). -/
structure NoticeReading where
  source : Nat
  kind : NoticeKind
  priority : Nat
  merges : Nat
  payloadLength : Nat
deriving DecidableEq, Repr

/-- The data a response carries beside its code, as the request's rule gives (R176). -/
inductive ReplyData where
  | nothing
  | clampedFields (fields : List ClampedField)
  | clampedPairFields (fields : List (Nat × PairField))
  | clampedProfile (fields : List ProfileField)
  | clampedPoll (timeout threshold : Bool)
  | missingAddress (address : NodeAddr)
  | opened (session : SessionId) (clamped : List ClampedField)
  | openedPair (team1 team2 : SessionId) (clamped : List ClampedField)
  | slot (slot : Nat) (clamped : List ClampedField)
  | clock (now : Calendar)
  | tariffField (field : TariffField)
  | emptySlot (slot : Nat)
  | dayCount (count : Nat)
  | computedCrc (crc : BitVec 16)
  | version (version : BitVec 8)
  | pendingVersion (version : BitVec 8)
  | trimmed (removed length : Nat)
  | charges (lines : List ChargeLine) (unlisted : List (LaneId × Unlisted)) (left : Nat)
  | resetDone (requests : Nat) (discarded : Option (Nat × Nat))
  | runCondition (condition : RunCondition)
  | limit (limit : Limit) (remaining : Nat)
  | droppedPins (pins : List Nat)
  | corrected (status : FrameStatus) (score : Option Nat) (running : Option Nat)
  | cleared (removed left : List FaultClass) (effective : Action) (credit : Bool)
      (restart : RestartOutcome)
  | lane (reading : LaneReading)
  | session (id : SessionId) (session : Session)
  | device (reading : DeviceReading)
  | ballReturn (reading : BallReturn) (age : Option Nat) (now : Nat)
  | tariff (reading : TariffReading) (version : BitVec 8) (committedOnce : Bool)
      (pending : Option PendingCommit)
  | noticeStatus (entries : List NoticeReading)
deriving DecidableEq, Repr

/-- A request's outcome: its code and data. -/
structure Reply where
  code : Code
  data : ReplyData
deriving DecidableEq, Repr

/-- A response in the slot: the echoed tag and request code, and the reply (R176). -/
structure Response where
  tag : Byte
  requestCode : Byte
  reply : Reply
deriving DecidableEq, Repr

/-- A frame on the upstream line (R177). -/
inductive TxFrame where
  | response (r : Response)
  | notice (n : Notice)
deriving DecidableEq, Repr

/-- The Trunk Interface (R175 to R177). `received` holds the bytes collected and not yet resolved;
`requests` the request queue, oldest first; `transmitting` the frame on the line. -/
structure Trunk where
  received : List Byte
  requests : List Instr
  response : Option Response
  transmitting : Option TxFrame
  lengthErrors : Nat
  crcErrors : Nat
  kindErrors : Nat
  dropped : Nat
deriving DecidableEq, Repr

end Sys2Proof.Machine
end

