-- ==== Sys2Proof/Config.lean ====
section
/-! DEFINITION. The values the manual leaves open. Each is a constant without a body: nothing can
evaluate it, and a claim that holds, holds whatever it is. -/

namespace Sys2Proof

open Sys2Proof.Machine

/-- Free value (log entry 26). The manual bounds the second counts of a billing record at
4,294,967,295 (section 9.1) and does not say what one more second makes of a count at that bound.
The argument is the count before the second and which of the three counts it is. -/
opaque Config.secondsPastTop (count which : Nat) : BitVec 32

/-- Free value (log entry 26). The minute count of an open time line is 0 to 65,535 (R153); the
manual does not say what one more minute makes of 65,535. -/
opaque Config.openMinutesPastTop : BitVec 16

/-- Free value (log entry 9). The bytes of the data that a response carries behind its two codes: the
manual lists the data and does not give their byte layout, but for the tariff records of READ_TARIFF. The
arguments are the request code and the data. A response payload takes at most 511 of them (section
11.7). -/
opaque Config.responseFields (code : Byte) (d : ReplyData) : List Byte

/-- Free value (log entry 9). The bytes that the response of READ_TARIFF carries before its tariff record
number `place`, counted from 0, and behind the last one: list counts, EMPTY marks, and the fields that
are no record, for which the manual gives no byte layout. -/
opaque Config.tariffFields (d : ReplyData) (place : Nat) : List Byte

/-- Free value (log entry 9). The bytes of the fields of a notice behind its first four: the manual
lists the fields and does not give their byte layout. A notice payload takes at most 509 of them
(section 11.7). -/
opaque Config.noticeFields (p : NoticePayload) : List Byte

/-- Free value (log entry 9). The command body that carries a command to a node: the manual bounds it
at 64 bytes (section 11.7) and does not lay it out. -/
opaque Config.commandFields (c : Command) : List Byte

/-- Free value (log entry 27). A bowler added during a game has a game record at NOT_STARTED (R16,
R25); its handicap is fixed at a game start only (R43), and the manual states none before. The
arguments are the session, the slot and the game number. -/
opaque Config.joiningHandicap (session slot game : Nat) : Fin 301

end Sys2Proof
end

