-- ==== Sys2Proof/Machine/Initial.lean ====
section
/-! DEFINITION. The power-on value of every block, each citing the rule that gives it. -/

namespace Sys2Proof.Machine.Initial

open Sys2Proof Sys2Proof.Machine

/-- R1: power-on entry of the lane table. -/
def laneEntry : LaneEntry where
  enabled := false
  profile := 0
  hasConsole := false
  state := .disabled
  holder := none
  waiting := none
  movePending := none
  memory := none

/-- R70: a Ball Tracker at power-on. -/
def tracker : Tracker where
  play := .notArmed
  pitCount := 0
  foulPending := none
  ball := none
  settleTimer := none
  retryTimer := none
  deadlineTimer := none
  resync := .none
  readWaiting := false
  countWaiting := false
  strays := 0
  ignoredFouls := 0
  staleReadings := 0
  anomalousReadings := 0
  lateReadings := 0

/-- R81: a Machine Supervisor at power-on; R103: there is no last report. -/
def supervisor : Supervisor where
  machine := .off
  cycle := 0
  record := none
  superseded := none
  awaiting := none
  owed := none
  followOn := .none
  deferredNeed := none
  discardedSuperseded := 0
  discardedIdle := 0
  lastReport := none

/-- R161: an unlisted total of 0. -/
def unlisted : Unlisted where
  amount := 0
  saturated := false
  lines := 0

/-- R153, R154: a lane meter at power-on. -/
def meter : Meter where
  openLine := none
  chargedTotal := 0
  saturated := false
  unlisted := unlisted

/-- Everything of one lane at power-on; R108: its fault set is empty. -/
def lane : Lane where
  entry := laneEntry
  tracker := tracker
  supervisor := supervisor
  faults := []
  meter := meter

/-- R64: a detector at power-on. Its three node times are 0 (log entry 2). -/
def detector : DetectorState where
  state := .clear
  darkEdge := 0
  releaseEdge := 0
  darkSince := 0
  blocked := false
  passages := 0
  glitches := 0

/-- R63, R64: a Detector Filter at power-on: uninitialised, with the power-on debounce values. The last
node time, for which R64 gives no value, is 0 (log entry 2). -/
def filter : Filter where
  debounce := ⟨10, 20, 20, 500⟩
  foulLeft := detector
  pitLeft := detector
  foulRight := detector
  pitRight := detector
  lift := detector
  rack := detector
  lastNodeTime := 0
  initialised := false
  reinits := 0
  mismatches := 0
  discarded := 0

/-- R163: a node record at power-on. -/
def node : Node where
  state := .absent
  misses := 0
  slot := none
  nextSerial := 0
  owed := none
  totalMisses := 0
  commandsDropped := 0
  framesDropped := 0
  framesDiscarded := 0

/-- R163: the default poll order 1, 2, 5, 3, 4, 5, 6, 7. -/
def pollOrder : List NodeAddr := [0, 1, 4, 2, 3, 4, 5, 6]

/-- R163: a Link Poller at power-on. No poll has been sent yet (log entry 6). -/
def poller : Poller where
  order := pollOrder
  pendingOrder := none
  current := 0
  timeout := 6
  threshold := 4
  nodes := Vector.replicate 7 node
  queue := []
  poll := none
  pollsSent := 0
  wrongAddress := 0
  damaged := 0
  abandoned := 0

/-- R122: a Return Supervisor at power-on. -/
def ballReturn : BallReturn where
  track := []
  capacity := 8
  jamSeconds := 15
  liftOn := false
  rackFull := false
  inUse := false
  watch := .suspended
  watchExpired := false
  overflow := false
  atCapacity := false
  phantoms := 0
  overflows := 0
  expiries := 0

/-- Everything of one pair at power-on; R108: its fault set is empty. -/
def pair : Pair where
  filter := filter
  poller := poller
  ballReturn := ballReturn
  faults := []

/-- Section 1.2: the power-on values of the ten session-level fields. -/
def terms : Terms where
  billing := .game
  tariffClass := 0
  limit := .none
  warning := 0
  foulDetection := true
  reRackAllowed := false
  resume := .clamp
  basis := 200
  percent := 80
  cap := 300

/-- Section 1.2 and R4: the centre default record at power-on. -/
def defaults : CentreDefaults where
  terms := terms
  expiryWait := 5

/-- Section 5.3 and R83: profile 0 at power-on, which all four profiles take. -/
def profile : Profile where
  deckDown := 20
  lift := 20
  sweep := 30
  respot := 25
  newRack := 40
  home := 20
  powerUp := 15
  halt := 15
  guardDown := 20
  deckUp := 30
  powerDown := 30
  settle := 1500
  readingDeadline := 2000
  retry := 250

/-- R106: the fault action table at power-on, in the order of the classes. -/
def faultTable : Vector FaultAction 15 := #v[
  ⟨.park, true, 12⟩, ⟨.park, true, 12⟩, ⟨.hold, true, 8⟩, ⟨.stop, true, 13⟩,
  ⟨.park, true, 11⟩, ⟨.park, true, 11⟩, ⟨.park, true, 11⟩, ⟨.park, true, 10⟩,
  ⟨.hold, false, 9⟩, ⟨.stop, true, 13⟩, ⟨.hold, true, 11⟩, ⟨.stop, true, 11⟩,
  ⟨.hold, true, 10⟩, ⟨.hold, false, 9⟩, ⟨.outOfService, true, 15⟩]

/-- R179: the notice priority table at power-on, kind `n` at position `n - 1`. FAULT_RAISED has no
entry of its own (its priority is the class's); its place is never read and holds 0. -/
def priorities : Vector Nat 20 :=
  #v[4, 5, 4, 6, 6, 8, 0, 7, 3, 2, 3, 5, 4, 5, 7, 9, 4, 10, 6, 10]

/-- R135: 1 January 2000, 00:00:00, weekday 6, not valid, phase 0. -/
def clock : Clock where
  calendar := ⟨0, 0, 0, 6, 1, 1, 2000⟩
  valid := false
  phase := 0
  boundaryDue := false

/-- R140: a class default at power-on. -/
def classDefault : ClassDefault := ⟨0, 0, 0, 0⟩

/-- R140: the Tariff Unit at power-on. -/
def tariff : Tariff where
  activeTable := []
  activeDefaults := Vector.replicate 8 classDefault
  activeDays := []
  slots := Vector.replicate 24 none
  stagedDefaults := Vector.replicate 8 classDefault
  stagedDays := []
  version := 0
  committedOnce := false
  pending := none

/-- R175, R176, R181: the Trunk Interface at power-on. That its transmitter is free, a frame on the line
being cut off, is log entry 63. -/
def trunk : Trunk where
  received := []
  requests := []
  response := none
  transmitting := none
  lengthErrors := 0
  crcErrors := 0
  kindErrors := 0
  dropped := 0

end Sys2Proof.Machine.Initial
end

