-- ==== Sys2Proof/Machine/State.lean ====
section
/-! DEFINITION. The machine's state, the reasons a step can stop, and the state after reset. -/

namespace Sys2Proof.Machine

open Sys2Proof

/-- The whole state of one LC32, with the queue of the commands that are waiting.

`pending` is the model's own (the block's input, first in first out); every other field is the
manual's. `deviceTime` is the millisecond count of device time (00_scope, Time). -/
structure State where
  pending : List Instr
  deviceTime : Nat
  device : DeviceState
  laneMapLoaded : Bool
  trunk : Trunk
  notices : List Notice
  priorities : Vector Nat 20
  lanes : Vector Lane 32
  pairs : Vector Pair 16
  sessions : Vector (Option Session) 32
  defaults : CentreDefaults
  profiles : Vector Profile 4
  faultTable : Vector FaultAction 15
  clock : Clock
  tariff : Tariff
  charges : ChargeList
deriving DecidableEq, Repr

/-- The reasons a step can stop with a fault. There is none: every command of the LC32 is answered,
counted, ignored or acted on, and the manual gives the part no state in which it stops. -/
inductive Fault where
deriving DecidableEq, Repr

/-- The reasons a command can be refused by the model itself (a request that the LC32 refuses is no
refusal of the model: it is answered with a response code). -/
inductive Refusal where
  /-- A command whose meaning is not modelled yet; raised by `exec` only. Safe: nothing follows from
  a command that is refused. -/
  | notModelled (mnemonic : String)
deriving DecidableEq, Repr

/-- The machine after a power-on reset (R181): every block at its power-on value, the device in
SETUP, the lane map loaded flag clear, every session record free (R6), nothing waiting. Device time
starts at 0 (log entry 2). -/
def State.reset : State where
  pending := []
  deviceTime := 0
  device := .setup
  laneMapLoaded := false
  trunk := Initial.trunk
  notices := []
  priorities := Initial.priorities
  lanes := Vector.replicate 32 Initial.lane
  pairs := Vector.replicate 16 Initial.pair
  sessions := Vector.replicate 32 none
  defaults := Initial.defaults
  profiles := Vector.replicate 4 Initial.profile
  faultTable := Initial.faultTable
  clock := Initial.clock
  tariff := Initial.tariff
  charges := ⟨[], false⟩

end Sys2Proof.Machine
end

