-- ==== Sys2Proof/Machine/Ops.lean ====
section
/-! DEFINITION. The named operations on the state: reading and replacing one lane, pair, node or
session, saturating counts, pin sets, list positions and the device's CRC-16. -/

namespace Sys2Proof.Machine

open Sys2Proof

/-! ## Capacities and fixed times -/

/-- R176: the request queue holds 8 requests. -/
abbrev requestCapacity : Nat := 8

/-- R161: the Charge List holds 256 lines. -/
abbrev chargeCapacity : Nat := 256

/-- R122: a track list holds 16 entries. -/
abbrev trackCapacity : Nat := 16

/-- R172: a pass-through queue holds 4 frames. -/
abbrev displayCapacity : Nat := 4

/-- R11: a session holds at most eight bowler records. -/
abbrev bowlerCapacity : Nat := 8

/-- R11: a game totals list holds 12 entries. -/
abbrev totalsCapacity : Nat := 12

/-- R144: 16 special days. -/
abbrev specialDayCapacity : Nat := 16

/-- R73: the foul window, in milliseconds. -/
abbrev foulWindow : Nat := 8000

/-- R65, R66: the gap of node time, in milliseconds, beyond which the filter re-initialises. -/
abbrev reinitGap : Nat := 30000

/-! ## Counts and clamps -/

/-- The top of a 16-bit saturating count. -/
abbrev top16 : Nat := 65535

/-- The top of a 32-bit saturating amount. -/
abbrev top32 : Nat := 4294967295

/-- `n + k`, saturating at `top` (00_scope, Money and numbers). -/
def satAdd (top n k : Nat) : Nat := min top (n + k)

/-- One more on a counter that saturates at 65,535. -/
def bump (n : Nat) : Nat := satAdd top16 n 1

/-- A value clamped to a range (00_scope, Refusal, clamping and saturation). -/
def clampTo (low high n : Nat) : Nat := min high (max low n)

/-- A clamped value differs from the value supplied. -/
def clamps (low high n : Nat) : Bool := clampTo low high n != n

/-! ## Lists by position -/

/-- The list with `f` applied at position `n`. -/
def modifyNth {α : Type} (f : α → α) : Nat → List α → List α
  | _, [] => []
  | 0, x :: xs => f x :: xs
  | n + 1, x :: xs => x :: modifyNth f n xs

/-- The element at position `n` of a list whose positions count from 1. -/
def nth1 {α : Type} (xs : List α) (n : Nat) : Option α :=
  if n = 0 then none else xs[n - 1]?

/-! ## Numbers of requests -/

/-- The lane a request names by its number 1 to 32. -/
def laneOf? (n : Nat) : Option LaneId :=
  if h : 1 ≤ n ∧ n ≤ 32 then some ⟨n - 1, by omega⟩ else none

/-- The pair a request names by its number 1 to 16. -/
def pairOf? (n : Nat) : Option PairId :=
  if h : 1 ≤ n ∧ n ≤ 16 then some ⟨n - 1, by omega⟩ else none

/-- The session a request names by its id 1 to 32. -/
def sessionOf? (n : Nat) : Option SessionId :=
  if h : 1 ≤ n ∧ n ≤ 32 then some ⟨n - 1, by omega⟩ else none

/-- The node address a request names, 1 to 7. -/
def addressOf? (n : Nat) : Option NodeAddr :=
  if h : 1 ≤ n ∧ n ≤ 7 then some ⟨n - 1, by omega⟩ else none

/-! ## Lanes and pairs (00_scope, Lanes, pairs and equipment nodes) -/

/-- The pair of a lane. -/
def pairOf (l : LaneId) : PairId := ⟨l.val / 2, by omega⟩

/-- The side of a lane in its pair: an odd lane number is a left lane. -/
def sideOf (l : LaneId) : Side := if l.val % 2 = 0 then .left else .right

/-- The lane of a pair on a side: lane 2p - 1 or lane 2p. -/
def laneAt (p : PairId) : Side → LaneId
  | .left => ⟨2 * p.val, by omega⟩
  | .right => ⟨2 * p.val + 1, by omega⟩

/-- The other side. -/
def otherSide : Side → Side
  | .left => .right
  | .right => .left

/-- The pair's other lane. -/
def otherLane (l : LaneId) : LaneId := laneAt (pairOf l) (otherSide (sideOf l))

/-- The source number of a lane (00_scope, Source numbers). -/
def laneSource (l : LaneId) : Nat := l.val + 1

/-- The source number of a pair. -/
def pairSource (p : PairId) : Nat := p.val + 33

/-- All lanes, lowest number first. -/
def allLanes : List LaneId := List.finRange 32

/-- All pairs, lowest number first. -/
def allPairs : List PairId := List.finRange 16

/-- All session ids, lowest first. -/
def allSessions : List SessionId := List.finRange 32

/-- All node addresses, lowest first. -/
def allAddresses : List NodeAddr := List.finRange 7

/-! ## Reading and replacing parts of the state -/

namespace State

/-- The records of one lane. -/
def lane (s : State) (l : LaneId) : Lane := s.lanes[l]

/-- The records of one pair. -/
def pair (s : State) (p : PairId) : Pair := s.pairs[p]

/-- A session record, or none while it is free. -/
def session (s : State) (i : SessionId) : Option Session := s.sessions[i]

/-- The state with the records of one lane replaced. -/
def setLane (s : State) (l : LaneId) (x : Lane) : State := { s with lanes := s.lanes.set l x }

/-- The state with the records of one pair replaced. -/
def setPair (s : State) (p : PairId) (x : Pair) : State := { s with pairs := s.pairs.set p x }

/-- The state with a session record replaced, or made free. -/
def setSession (s : State) (i : SessionId) (x : Option Session) : State :=
  { s with sessions := s.sessions.set i x }

/-- The lane table entry of a lane. -/
def entry (s : State) (l : LaneId) : LaneEntry := (s.lane l).entry

/-- The Ball Tracker of a lane. -/
def tracker (s : State) (l : LaneId) : Tracker := (s.lane l).tracker

/-- The Machine Supervisor of a lane. -/
def supervisor (s : State) (l : LaneId) : Supervisor := (s.lane l).supervisor

/-- The lane meter of a lane. -/
def meter (s : State) (l : LaneId) : Meter := (s.lane l).meter

/-- The Detector Filter of a pair. -/
def filter (s : State) (p : PairId) : Filter := (s.pair p).filter

/-- The Link Poller of a pair. -/
def poller (s : State) (p : PairId) : Poller := (s.pair p).poller

/-- The Return Supervisor of a pair. -/
def ballReturn (s : State) (p : PairId) : BallReturn := (s.pair p).ballReturn

/-- The node record of an address on a pair link. -/
def node (s : State) (p : PairId) (a : NodeAddr) : Node := (s.poller p).nodes[a]

/-- The state with a lane table entry changed. -/
def modEntry (s : State) (l : LaneId) (f : LaneEntry → LaneEntry) : State :=
  s.setLane l { s.lane l with entry := f (s.entry l) }

/-- The state with a Ball Tracker changed. -/
def modTracker (s : State) (l : LaneId) (f : Tracker → Tracker) : State :=
  s.setLane l { s.lane l with tracker := f (s.tracker l) }

/-- The state with a Machine Supervisor changed. -/
def modSupervisor (s : State) (l : LaneId) (f : Supervisor → Supervisor) : State :=
  s.setLane l { s.lane l with supervisor := f (s.supervisor l) }

/-- The state with a lane's fault set replaced. -/
def setLaneFaults (s : State) (l : LaneId) (fs : List FaultEntry) : State :=
  s.setLane l { s.lane l with faults := fs }

/-- The state with a lane meter changed. -/
def modMeter (s : State) (l : LaneId) (f : Meter → Meter) : State :=
  s.setLane l { s.lane l with meter := f (s.meter l) }

/-- The state with a Detector Filter changed. -/
def modFilter (s : State) (p : PairId) (f : Filter → Filter) : State :=
  s.setPair p { s.pair p with filter := f (s.filter p) }

/-- The state with a Link Poller changed. -/
def modPoller (s : State) (p : PairId) (f : Poller → Poller) : State :=
  s.setPair p { s.pair p with poller := f (s.poller p) }

/-- The state with a Return Supervisor changed. -/
def modReturn (s : State) (p : PairId) (f : BallReturn → BallReturn) : State :=
  s.setPair p { s.pair p with ballReturn := f (s.ballReturn p) }

/-- The state with a pair's fault set replaced. -/
def setPairFaults (s : State) (p : PairId) (fs : List FaultEntry) : State :=
  s.setPair p { s.pair p with faults := fs }

/-- The state with a node record changed. -/
def modNode (s : State) (p : PairId) (a : NodeAddr) (f : Node → Node) : State :=
  s.modPoller p fun q => { q with nodes := q.nodes.set a (f q.nodes[a]) }

/-- The state with a session record changed, where it is in use. -/
def modSession (s : State) (i : SessionId) (f : Session → Session) : State :=
  s.setSession i ((s.session i).map f)

/-- The session id and record of a lane's holder. -/
def holder (s : State) (l : LaneId) : Option (SessionId × Session) :=
  match (s.entry l).holder with
  | none => none
  | some i => (s.session i).map fun x => (i, x)

/-- The machine profile the lane map gives a lane. -/
def profileOf (s : State) (l : LaneId) : Profile := s.profiles[(s.entry l).profile]

end State

/-! ## Node addresses and roles -/

/-- The role of a node address. -/
def roleOf (a : NodeAddr) : Role :=
  match a.val with
  | 0 => .pinsetter .left
  | 1 => .pinsetter .right
  | 2 => .reader .left
  | 3 => .reader .right
  | 4 => .laneIo
  | 5 => .console .left
  | _ => .console .right

/-- The address of a lane's pinsetter. -/
def pinsetterAddr : Side → NodeAddr
  | .left => 0
  | .right => 1

/-- The address of a lane's pin reader. -/
def readerAddr : Side → NodeAddr
  | .left => 2
  | .right => 3

/-- The address of the lane I/O node. -/
def laneIoAddr : NodeAddr := 4

/-- The address of a lane's console. -/
def consoleAddr : Side → NodeAddr
  | .left => 5
  | .right => 6

/-- The pinsetter node of a lane. -/
def State.pinsetter (s : State) (l : LaneId) : Node := s.node (pairOf l) (pinsetterAddr (sideOf l))

/-- The reader node of a lane. -/
def State.reader (s : State) (l : LaneId) : Node := s.node (pairOf l) (readerAddr (sideOf l))

/-- R163: a node is required when the lane map uses it. -/
def State.required (s : State) (p : PairId) (a : NodeAddr) : Bool :=
  match roleOf a with
  | .pinsetter d => (s.entry (laneAt p d)).enabled
  | .reader d => (s.entry (laneAt p d)).enabled
  | .laneIo => (s.entry (laneAt p .left)).enabled || (s.entry (laneAt p .right)).enabled
  | .console d => (s.entry (laneAt p d)).enabled && (s.entry (laneAt p d)).hasConsole

/-! ## Pin sets (00_scope, Pins and standing sets) -/

/-- The full rack: all ten pins. -/
abbrev fullRack : PinSet := 0x3FF#10

/-- Pin `n` stands in the set. -/
def hasPin (a : PinSet) (n : Nat) : Bool := decide (1 ≤ n) && a.getLsbD (n - 1)

/-- The pins of a set, in order. -/
def pinsOf (a : PinSet) : List Nat := (List.range 10).filterMap fun i =>
  if a.getLsbD i then some (i + 1) else none

/-- |S|: the number of pins in a set. -/
def pinCount (a : PinSet) : Nat := (pinsOf a).length

/-- The set of the pins listed; a pin number outside 1 to 10 adds nothing. -/
def pinSetOf (pins : List Nat) : PinSet :=
  pins.foldl (fun a n => if 1 ≤ n ∧ n ≤ 10 then a ||| (1#10 <<< (n - 1)) else a) 0

/-! ## CRC-16 (00_scope, Checksums) -/

/-- One bit of the CRC: the register shifts left, and the polynomial 1021 (hexadecimal) is added
when the bit leaving it differs from the data bit. -/
def crcBit (crc : BitVec 16) (bit : Bool) : BitVec 16 :=
  if crc.msb != bit then (crc <<< 1) ^^^ 0x1021#16 else crc <<< 1

/-- One byte of the CRC, most significant bit first. -/
def crcByte (crc : BitVec 16) (b : Byte) : BitVec 16 :=
  [7, 6, 5, 4, 3, 2, 1, 0].foldl (fun c i => crcBit c (b.getLsbD i)) crc

/-- The device's CRC-16: initial value all ones, no final inversion. -/
def crc16 (bytes : List Byte) : BitVec 16 := bytes.foldl crcByte 0xFFFF#16

/-- A number in two bytes, most significant first (section 11.7). -/
def bytes2 (n : Nat) : List Byte := [BitVec.ofNat 8 (n / 256), BitVec.ofNat 8 n]

/-- A number in one byte. -/
def bytes1 (n : Nat) : List Byte := [BitVec.ofNat 8 n]

/-- The number two bytes stand for, most significant first. -/
def word2 (hi lo : Byte) : Nat := hi.toNat * 256 + lo.toNat

end Sys2Proof.Machine
end

