-- ==== Sys2Proof/Machine/Flags.lean ====
section
/-! DEFINITION. The conditions the blocks derive from the state: the effective action and credit
state of a lane, the arming check, the lane-quiet condition, the pair in use, the jam condition. -/

namespace Sys2Proof.Machine

open Sys2Proof

/-! ## Fault classes and their table -/

/-- The position of a class in the table of R106, from 0. -/
def faultIndex : FaultClass → Fin 15
  | .machineJam => 0
  | .deckFault => 1
  | .pinSupplyLow => 2
  | .motorOverload => 3
  | .stepOverdue => 4
  | .cycleMismatch => 5
  | .sequenceFault => 6
  | .startFailed => 7
  | .readingOverdue => 8
  | .machineNodeLost => 9
  | .sensorNodeLost => 10
  | .commandLost => 11
  | .returnJam => 12
  | .detectorBlocked => 13
  | .parkFailed => 14

/-- The fifteen classes in the order of R106. -/
def faultClasses : List FaultClass :=
  [.machineJam, .deckFault, .pinSupplyLow, .motorOverload, .stepOverdue, .cycleMismatch,
   .sequenceFault, .startFailed, .readingOverdue, .machineNodeLost, .sensorNodeLost, .commandLost,
   .returnJam, .detectorBlocked, .parkFailed]

/-- The class a code 1 to 15 names (section 11.7). -/
def faultClassOf? (code : Nat) : Option FaultClass := nth1 faultClasses code

/-- R105: the classes the Fault Unit removes when their condition ends. -/
def selfClearing : FaultClass → Bool
  | .pinSupplyLow | .machineNodeLost | .sensorNodeLost | .returnJam | .detectorBlocked => true
  | .machineJam | .deckFault | .motorOverload | .stepOverdue | .cycleMismatch | .sequenceFault
  | .startFailed | .readingOverdue | .commandLost | .parkFailed => false

/-- R113: the classes whose condition lasts beyond the raise. -/
def lastingCondition : FaultClass → Bool
  | .machineJam | .deckFault | .motorOverload | .cycleMismatch | .sequenceFault | .commandLost
  | .parkFailed => false
  | .stepOverdue | .startFailed | .pinSupplyLow | .readingOverdue | .machineNodeLost
  | .sensorNodeLost | .returnJam | .detectorBlocked => true

/-- R106: the severity of an action, in rising order. -/
def severity : Action → Nat
  | .none => 0
  | .hold => 1
  | .stop => 2
  | .park => 3
  | .outOfService => 4

/-- The more severe of two actions. -/
def moreSevere (a b : Action) : Action := if severity a < severity b then b else a

/-- The most severe action of a list of entries; NONE when there are none (R111). -/
def worstAction (fs : List FaultEntry) : Action := fs.foldl (fun a f => moreSevere a f.action) .none

/-- The faults on a lane: its own set together with its pair's set (section 6.3). -/
def State.faultsOn (s : State) (l : LaneId) : List FaultEntry :=
  (s.lane l).faults ++ (s.pair (pairOf l)).faults

/-- R111: the effective action of a lane. -/
def State.effective (s : State) (l : LaneId) : Action := worstAction (s.faultsOn l)

/-- R112: the credit state of a lane. -/
def State.credit (s : State) (l : LaneId) : Bool := (s.faultsOn l).any (·.credit)

/-- The effective action is below HOLD. -/
def State.belowHold (s : State) (l : LaneId) : Bool := severity (s.effective l) < severity .hold

/-- The effective action is below STOP. -/
def State.belowStop (s : State) (l : LaneId) : Bool := severity (s.effective l) < severity .stop

/-- What a fault notice tells of a lane (R119, R120). -/
def State.laneFaults (s : State) (l : LaneId) : LaneFaults where
  lane := l
  classes := (s.faultsOn l).map fun f => (f.cls, f.present, f.latched)
  effective := s.effective l
  credit := s.credit l

/-! ## The ball and the machine -/

/-- R17, R18: a lane's Ball Tracker has a ball in flight. -/
def inFlight : PlayState → Bool
  | .settling | .reading | .awaitingEntry | .resolved => true
  | .notArmed | .armed => false

/-- R81: a sequence is in progress exactly while the cycle record is present. -/
def State.sequencing (s : State) (l : LaneId) : Bool := (s.supervisor l).record.isSome

/-- R18: the machine states in which a held owed cycle does not keep a lane from being quiet. -/
def stoppedMachine : MachineState → Bool
  | .halted | .parked | .outOfService | .off => true
  | .starting | .ready | .cycling | .parking | .manual => false

/-- R18: the machine is STARTING, CYCLING or PARKING. -/
def busyMachine : MachineState → Bool
  | .starting | .cycling | .parking => true
  | .off | .ready | .halted | .parked | .outOfService | .manual => false

/-- R18: the lane is quiet. -/
def State.quiet (s : State) (l : LaneId) : Bool :=
  !inFlight (s.tracker l).play && !busyMachine (s.supervisor l).machine &&
    ((s.supervisor l).owed.isNone || stoppedMachine (s.supervisor l).machine)

/-- R90, condition 2: the holder is OPEN with a current bowler. -/
def State.holderPlays (s : State) (l : LaneId) : Bool :=
  match s.holder l with
  | none => false
  | some (_, x) => x.state == .opened && x.slot.isSome

/-- R90: the arming check of a lane passes. -/
def State.armingPasses (s : State) (l : LaneId) : Bool :=
  (s.supervisor l).machine == .ready && s.holderPlays l && s.belowHold l &&
    decide ((s.ballReturn (pairOf l)).track.length < (s.ballReturn (pairOf l)).capacity) &&
    (s.entry l).movePending.isNone && (s.supervisor l).owed.isNone

/-- The machines of R12 order 5 and R22 order 9: OFF, PARKING, PARKED, STARTING or READY. -/
def openableMachine : MachineState → Bool
  | .off | .parking | .parked | .starting | .ready => true
  | .cycling | .halted | .outOfService | .manual => false

/-- R2, R173: the machine is OFF or PARKED. -/
def offOrParked : MachineState → Bool
  | .off | .parked => true
  | .starting | .ready | .cycling | .halted | .parking | .outOfService | .manual => false

/-- R180, R181: the machine is OFF, PARKED or OUT_OF_SERVICE. -/
def atRest : MachineState → Bool
  | .off | .parked | .outOfService => true
  | .starting | .ready | .cycling | .halted | .parking | .manual => false

/-- The lane is CLOSED or DISABLED. -/
def shut : LaneState → Bool
  | .closed | .disabled => true
  | .opened | .pairPlay | .manual => false

/-- R180, R181: every lane is CLOSED or DISABLED and every machine OFF, PARKED or OUT_OF_SERVICE. -/
def State.allAtRest (s : State) : Bool :=
  allLanes.all fun l => shut (s.entry l).state && atRest (s.supervisor l).machine

/-- The lane is the target in another lane's move pending (R12, R22, R102). -/
def State.isMoveTarget (s : State) (l : LaneId) : Bool :=
  allLanes.any fun k => (s.entry k).movePending.any fun m => m.target == l

/-- The lane a request names, where it exists and is not DISABLED (the NO_LANE check). -/
def State.mappedLane? (s : State) (n : Nat) : Option LaneId :=
  match laneOf? n with
  | none => none
  | some l => if (s.entry l).state = .disabled then none else some l

/-- The session record a request names by id, where it is in use (the NOT_FOUND check). An id outside 1
to 32 names none, as a free one (log entry 54). -/
def State.sessionInUse? (s : State) (n : Nat) : Option (SessionId × Session) :=
  match sessionOf? n with
  | none => none
  | some i => (s.session i).map fun x => (i, x)

/-! ## The pair -/

/-- R127: one lane with its machine keeps its pair in use. -/
def State.laneInUse (s : State) (l : LaneId) : Bool :=
  !shut (s.entry l).state || !offOrParked (s.supervisor l).machine

/-- R127: the pair is in use. -/
def State.pairInUse (s : State) (p : PairId) : Bool :=
  s.laneInUse (laneAt p .left) || s.laneInUse (laneAt p .right)

/-- R129: the pair's jam condition. -/
def jamCondition (r : BallReturn) : Bool := r.watchExpired || r.overflow

/-- R128: the jam watch may run. -/
def State.jamWatchMayRun (s : State) (p : PairId) : Bool :=
  !(s.ballReturn p).track.isEmpty && (s.ballReturn p).liftOn && !(s.ballReturn p).rackFull &&
    (s.node p laneIoAddr).state == .alive && !(s.ballReturn p).watchExpired

/-- The pair's other session, where one is in use beside session `i` (R20). -/
def State.partner (s : State) (i : SessionId) (p : PairId) : Option SessionId :=
  allSessions.find? fun j => j != i && (s.session j).any fun y =>
    pairOf y.lane == p && y.mode != .single

end Sys2Proof.Machine
end

