-- ==== Sys2Proof/Machine/Notices.lean ====
section
/-! DEFINITION. The pending notice set: kinds and their numbers, raising and merging, the choice of
the next notice (R177 to R179), and the payloads that are read from the state when they are raised. -/

namespace Sys2Proof.Machine

open Sys2Proof

/-- The position of a kind in the table of R179, from 0. -/
def kindIndex : NoticeKind → Fin 20
  | .ballScored => 0
  | .gameDone => 1
  | .turnChanged => 2
  | .sessionState => 3
  | .limitWarning => 4
  | .limitReached => 5
  | .faultRaised => 6
  | .faultCleared => 7
  | .machineState => 8
  | .clockSet => 9
  | .machineReport => 10
  | .readingAnomaly => 11
  | .strayBall => 12
  | .returnState => 13
  | .nodeState => 14
  | .consoleCall => 15
  | .reRackRefused => 16
  | .chargeListFull => 17
  | .tariffSwapped => 18
  | .requestDropped => 19

/-- The kind number of R179, 1 to 20. -/
def kindNumber (k : NoticeKind) : Nat := (kindIndex k).val + 1

/-- The kind a payload belongs to. -/
def payloadKind : NoticePayload → NoticeKind
  | .ballScored _ => .ballScored
  | .gameDone _ => .gameDone
  | .turnChanged _ => .turnChanged
  | .sessionState _ => .sessionState
  | .limitWarning _ => .limitWarning
  | .limitReached _ => .limitReached
  | .faultRaised _ => .faultRaised
  | .faultCleared _ => .faultCleared
  | .machineState _ => .machineState
  | .clockSet _ => .clockSet
  | .machineReport _ _ => .machineReport
  | .readingAnomaly _ => .readingAnomaly
  | .strayBall _ => .strayBall
  | .returnState _ => .returnState
  | .nodeState _ => .nodeState
  | .consoleCall _ => .consoleCall
  | .reRackRefused _ _ _ => .reRackRefused
  | .chargeListFull _ _ => .chargeListFull
  | .tariffSwapped _ _ _ _ => .tariffSwapped
  | .requestDropped _ _ _ => .requestDropped

/-- The entry of a source and kind. -/
def sameNotice (source : Nat) (p : NoticePayload) (n : Notice) : Bool :=
  n.source == source && payloadKind n.payload == payloadKind p

/-- R178: a pending entry takes a new raise. FAULT_RAISED keeps the greater priority. -/
def mergeNotice (p : NoticePayload) (priority : Nat) (n : Notice) : Notice :=
  { n with
    payload := p
    priority := if payloadKind p = .faultRaised then max n.priority priority else priority
    merges := satAdd 255 n.merges 1 }

/-- R178: a raise into the pending notice set, with the priority the raise carries. -/
def addNotice (source : Nat) (p : NoticePayload) (priority : Nat) : List Notice → List Notice
  | [] => [⟨source, p, priority, 1⟩]
  | n :: ns =>
    if sameNotice source p n then mergeNotice p priority n :: ns
    else n :: addNotice source p priority ns

/-- A notice raised with a given priority. -/
def State.raiseWith (s : State) (source : Nat) (p : NoticePayload) (priority : Nat) : State :=
  { s with notices := addNotice source p priority s.notices }

/-- A notice raised with the priority its kind has in the notice priority table. -/
def State.raise (s : State) (source : Nat) (p : NoticePayload) : State :=
  s.raiseWith source p s.priorities[kindIndex (payloadKind p)]

/-- R177: an entry is eligible when its priority is 1 to 15. -/
def eligible (n : Notice) : Bool := 1 ≤ n.priority

/-- R177: `a` goes before `b`: higher priority, then lower source, then lower kind number. -/
def goesBefore (a b : Notice) : Bool :=
  decide (b.priority < a.priority) ||
    (a.priority == b.priority && (decide (a.source < b.source) ||
      (a.source == b.source &&
        decide (kindNumber (payloadKind a.payload) < kindNumber (payloadKind b.payload)))))

/-- R177: the eligible entry that is sent next. -/
def bestNotice (ns : List Notice) : Option Notice :=
  (ns.filter eligible).foldl (fun best n =>
    match best with
    | none => some n
    | some b => if goesBefore n b then some n else some b) none

/-! ## Notices read from the state -/

/-- MACHINE_STATE for a lane, as the supervisor stands (R81). -/
def State.raiseMachineState (s : State) (l : LaneId) : State :=
  s.raise (laneSource l) (.machineState
    { lane := l
      machine := (s.supervisor l).machine
      sequence := (s.supervisor l).record.map fun r => (r.kind, r.number, r.expected)
      owed := (s.supervisor l).owed
      followOn := (s.supervisor l).followOn })

/-- SESSION_STATE for a session in use, on its lane as it stands (R10). -/
def State.raiseSessionState (s : State) (i : SessionId) (previous : Option LaneId) : State :=
  match s.session i with
  | none => s
  | some x =>
    s.raise (laneSource x.lane) (.sessionState
      { session := i
        state := x.state
        lane := x.lane
        expiryDue := x.expiryDue
        moveTarget := if x.state = .moving then (s.entry x.lane).movePending.map (·.target) else none
        previousLane := previous })

/-- SESSION_STATE with state CLOSED, when the record has returned to free (R10, R20). -/
def State.raiseSessionClosed (s : State) (i : SessionId) (lane : LaneId) : State :=
  s.raise (laneSource lane) (.sessionState
    { session := i, state := .closed, lane := lane, expiryDue := false, moveTarget := none
      previousLane := none })

/-- RETURN_STATE for a pair, as its return stands (R133). -/
def State.raiseReturnState (s : State) (p : PairId) : State :=
  let r := s.ballReturn p
  s.raise (pairSource p) (.returnState
    { pair := p, length := r.track.length, capacity := r.capacity, liftOn := r.liftOn
      rackFull := r.rackFull, inUse := r.inUse, watch := r.watch, watchExpired := r.watchExpired
      overflow := r.overflow, atCapacity := r.atCapacity, oldest := r.track.head? })

/-- NODE_STATE for a pair; no address for a pair link restart (R174). -/
def State.raiseNodeState (s : State) (p : PairId) (a : Option NodeAddr) : State :=
  s.raise (pairSource p) (.nodeState
    { pair := p
      changed := a.map fun b => (b, roleOf b, (s.node p b).state)
      nodes := allAddresses.map fun b => ((s.node p b).state, (s.node p b).misses, s.required p b) })

/-- MACHINE_REPORT for a lane; the report is kept for READ_LANE (R103, R182). The slot outcomes ACKED and
DROPPED are kept like the reports of an answer (DEDUCED, log entry 65). -/
def State.raiseMachineReport (s : State) (l : LaneId) (r : MachineReport) : State :=
  (s.modSupervisor l fun v => { v with lastReport := some r }).raise (laneSource l)
    (.machineReport l r)

/-- The desk handle of a bowler slot of a session (R45). -/
def handleOf (x : Session) (slot : Nat) : Nat := ((nth1 x.bowlers slot).map (·.handle)).getD 0

end Sys2Proof.Machine
end

