-- ==== Sys2Proof/Machine/Slots.lean ====
section
/-! DEFINITION. Operations that several blocks share: placing a command in a node's slot (R168), the
arming check's effect (R90), the jam watch (R128), and the lift (R127). -/

namespace Sys2Proof.Machine

open Sys2Proof

/-! ## Command slots -/

/-- R168: the table of what a new command replaces; every other command is not placed. -/
def replaces (old new : Command) : Bool :=
  match old, new with
  | .cycle _ _, .halt _ => true
  | .cycle _ _, .park _ => true
  | .read _, .read _ => true
  | .setOutputs _, .setOutputs _ => true
  | _, _ => false

/-- R168: a slot takes a command when it is empty or the command replaces the one it holds. -/
def slotTakes (n : Node) (c : Command) : Bool :=
  match n.slot with
  | none => true
  | some e => replaces e.command c

/-- R168: the command enters the slot untried, with the node's next serial. -/
def putCommand (c : Command) (n : Node) : Node :=
  { n with slot := some ⟨c, n.nextSerial, none⟩, nextSerial := n.nextSerial + 1 }

/-- R168: the command is placed where the slot takes it; otherwise nothing changes. -/
def State.place (s : State) (p : PairId) (a : NodeAddr) (c : Command) : State :=
  if slotTakes (s.node p a) c then s.modNode p a (putCommand c) else s

/-- The slot of a node emptied. -/
def State.clearSlot (s : State) (p : PairId) (a : NodeAddr) : State :=
  s.modNode p a fun n => { n with slot := none }

/-! ## The arming check -/

/-- R90: the arming check moves the play state between NOT_ARMED and ARMED and leaves every other
play state as it stands; a lane that leaves ARMED loses its foul pending record. -/
def State.armingCheck (s : State) (l : LaneId) : State :=
  match (s.tracker l).play with
  | .notArmed => if s.armingPasses l then s.modTracker l fun t => { t with play := .armed } else s
  | .armed =>
    if s.armingPasses l then s
    else s.modTracker l fun t => { t with play := .notArmed, foulPending := none }
  | .settling | .reading | .awaitingEntry | .resolved => s

/-- The arming checks of both lanes of a pair. -/
def State.armPair (s : State) (p : PairId) : State :=
  (s.armingCheck (laneAt p .left)).armingCheck (laneAt p .right)

/-! ## The jam watch and the lift -/

/-- R128: a watch one of whose conditions fails while watch expired is no (log entry 14). -/
def pausedWatch : JamWatch → JamWatch
  | .running _ _ | .suspended => .suspended
  | .stopped => .stopped

/-- R128: the watch after the conditions are looked at afresh. `removed`: the oldest entry has just
been removed. -/
def nextWatch (mayRun removed expired : Bool) (now jamSeconds : Nat) (w : JamWatch) : JamWatch :=
  if expired then .stopped
  else if mayRun then
    match w with
    | .running base deadline =>
      if removed then .running now (now + jamSeconds * 1000) else .running base deadline
    | .suspended | .stopped => .running now (now + jamSeconds * 1000)
  else pausedWatch w

/-- R128: the supervisor decides the jam watch. -/
def State.decideWatch (s : State) (p : PairId) (removed : Bool) : State :=
  s.modReturn p fun r =>
    { r with watch := nextWatch (s.jamWatchMayRun p) removed r.watchExpired s.deviceTime
                        r.jamSeconds r.watch }

/-- R127: SET_OUTPUTS is placed where the lane I/O node is ALIVE. -/
def State.placeOutputs (s : State) (p : PairId) : State :=
  if (s.node p laneIoAddr).state = .alive then
    s.place p laneIoAddr (.setOutputs (s.ballReturn p).liftOn)
  else s

/-- R127: pair in use is worked out afresh, and the lift field takes the level wanted. -/
def State.decideLift (s : State) (p : PairId) : State :=
  let used := s.modReturn p fun r => { r with inUse := s.pairInUse p }
  let wanted := s.pairInUse p && !(s.ballReturn p).rackFull
  if wanted = (s.ballReturn p).liftOn then used
  else
    ((((used.modReturn p fun r => { r with liftOn := wanted }).raiseReturnState p).placeOutputs
      p).decideWatch p false)

/-- A lane's state or machine state has changed: the pair's lift and the lane's arming are decided
afresh (R91, R127). -/
def State.laneChanged (s : State) (l : LaneId) : State :=
  (s.decideLift (pairOf l)).armingCheck l

end Sys2Proof.Machine
end

