-- ==== Sys2Proof/Machine/Supervisor.lean ====
section
/-! DEFINITION. The Machine Supervisor's shared operations (chapter 5): beginning a sequence, placing
a HALT or a PARK, owing a command, the owed cycle, the follow-on, holders arriving and sessions
ending. What the Score Engine does at the end of a sequence stands in `Machine/SequenceEnd.lean`. -/

namespace Sys2Proof.Machine

open Sys2Proof

/-! ## Sequences and steps (section 5.2) -/

/-- The first step of a sequence and the steps after it. -/
def sequenceSteps : Sequence → Step × List Step
  | .start => (.powerUp, [.home, .newRack])
  | .firstCycle => (.deckDown, [.lift, .sweep, .respot, .home])
  | .fullCycle => (.sweep, [.newRack, .home])
  | .reRack => (.sweep, [.newRack, .home])
  | .halt => (.halt, [])
  | .park => (.halt, [.guardDown, .deckUp, .powerDown])

/-- The report a new sequence awaits: its first step. -/
def firstExpected (k : Sequence) : Expected := .step (sequenceSteps k).1 (sequenceSteps k).2

/-- The machine state while a sequence runs. -/
def runningState : Sequence → MachineState
  | .start => .starting
  | .firstCycle | .fullCycle | .reRack => .cycling
  | .halt => .halted
  | .park => .parking

/-- The machine state at the end of a sequence. -/
def endState : Sequence → MachineState
  | .start | .firstCycle | .fullCycle | .reRack => .ready
  | .halt => .halted
  | .park => .parked

/-- The command that carries a sequence to the pinsetter (R82). -/
def sequenceCommand (k : Sequence) (n : CycleNo) : Command :=
  match k with
  | .start | .firstCycle | .fullCycle | .reRack => .cycle k n
  | .halt => .halt n
  | .park => .park n

/-- The sequence of a HALT or a PARK. -/
def stopSequence : StopKind → Sequence
  | .halt => .halt
  | .park => .park

/-- R84: the time a profile gives a step, in milliseconds. -/
def stepTime (f : Profile) : Step → Nat
  | .deckDown => f.deckDown * 100
  | .lift => f.lift * 100
  | .sweep => f.sweep * 100
  | .respot => f.respot * 100
  | .newRack => f.newRack * 100
  | .home => f.home * 100
  | .powerUp => f.powerUp * 1000
  | .halt => f.halt * 100
  | .guardDown => f.guardDown * 100
  | .deckUp => f.deckUp * 100
  | .powerDown => f.powerDown * 100

/-- The step code of section 11.7, 1 to 11. -/
def stepCode : Step → Nat
  | .deckDown => 1
  | .lift => 2
  | .sweep => 3
  | .respot => 4
  | .newRack => 5
  | .home => 6
  | .powerUp => 7
  | .halt => 8
  | .guardDown => 9
  | .deckUp => 10
  | .powerDown => 11

/-! ## Beginning and ending -/

/-- R113: STEP_OVERDUE and START_FAILED are present while the sequence whose watch expired is still
in progress, unwatched; it has ended, or is watched again. -/
def endStepCondition (f : FaultEntry) : FaultEntry :=
  if f.cls = .stepOverdue ∨ f.cls = .startFailed then { f with present := false } else f

/-- R87, R113: the lane's sequence has ended or is watched again; the conditions that lasted while it
went on unwatched end. -/
def State.endStepConditions (s : State) (l : LaneId) : State :=
  s.setLaneFaults l ((s.lane l).faults.map endStepCondition)

/-- R85, R87, R88: the sequence in progress ends unfinished, and its number becomes the superseded
number. Nothing changes where no sequence is in progress. -/
def State.endUnfinished (s : State) (l : LaneId) : State :=
  match (s.supervisor l).record with
  | none => s
  | some r =>
    (s.modSupervisor l fun v =>
      { v with record := none, superseded := some r.number }).endStepConditions l

/-- The supervisor after a new sequence of kind `k` is begun (R82, R84). -/
def newSequence (k : Sequence) (mark : Option RestartMark) (v : Supervisor) : Supervisor :=
  { v with
    cycle := v.cycle + 1
    machine := runningState k
    record := some
      { kind := k, number := v.cycle + 1, expected := firstExpected k, acknowledged := false
        watch := none, restart := mark } }

/-- R82, R84: a new sequence is begun, where the pinsetter's slot takes its command: the next cycle
number, the command in the slot, the cycle record, the running machine state, and MACHINE_STATE. -/
def State.beginSequence (s : State) (l : LaneId) (k : Sequence) (mark : Option RestartMark) :
    State :=
  let c := sequenceCommand k ((s.supervisor l).cycle + 1)
  if slotTakes (s.pinsetter l) c then
    (((s.modSupervisor l (newSequence k mark)).place (pairOf l) (pinsetterAddr (sideOf l))
      c).raiseMachineState l).laneChanged l
  else s

/-- R81: a follow-on set or cleared; a change raises MACHINE_STATE. -/
def State.setFollowOn (s : State) (l : LaneId) (f : FollowOn) : State :=
  if (s.supervisor l).followOn = f then s
  else (s.modSupervisor l fun v => { v with followOn := f }).raiseMachineState l

/-- R93: a held owed cycle is discarded; a FULL-then-park sets the follow-on to PARK. -/
def State.discardOwed (s : State) (l : LaneId) : State :=
  match (s.supervisor l).owed with
  | none => s
  | some .fullThenPark =>
    (s.modSupervisor l fun v => { v with owed := none, followOn := .park }).raiseMachineState l
  | some _ => (s.modSupervisor l fun v => { v with owed := none }).raiseMachineState l

/-- A follow-on of START, whoever set it. -/
def isStart : FollowOn → Bool
  | .start | .restart _ => true
  | .none | .park => false

/-- A follow-on of START is cleared (R97, R98, R99). -/
def State.clearStart (s : State) (l : LaneId) : State :=
  if isStart (s.supervisor l).followOn then s.setFollowOn l .none else s

/-- R118: a follow-on of START set by CLEAR_FAULT is cleared. -/
def State.clearRestart (s : State) (l : LaneId) : State :=
  match (s.supervisor l).followOn with
  | .restart _ => s.setFollowOn l .none
  | .none | .park | .start => s

/-! ## HALT and PARK (R85, R94, R95, R115) -/

/-- R115: what a later command makes of an owed command. -/
def mergeOwed (old : Option StopKind) (new : StopKind) : StopKind :=
  match old with
  | some .park => .park
  | some .halt | none => new

/-- R168: an unacknowledged CYCLE leaves the slot when a HALT or PARK becomes owed in its stead. -/
def dropCycle (n : Node) : Node :=
  match n.slot with
  | some ⟨.cycle _ _, _, _⟩ => { n with slot := none }
  | _ => n

/-- R115: a HALT or PARK that cannot be placed is kept as the node's owed command: the sequence in
progress ends unfinished, and the machine is shown HALTED. A HALT or PARK that awaited the slot is
merged into it. MACHINE_STATE is raised each time, also for a machine that was HALTED already (log
entry 60). -/
def State.oweStop (s : State) (l : LaneId) (k : StopKind) : State :=
  let k' := mergeOwed (s.supervisor l).awaiting k
  (((((s.modNode (pairOf l) (pinsetterAddr (sideOf l)) fun n =>
        dropCycle { n with owed := some (mergeOwed n.owed k') }).endUnfinished l).modSupervisor l
      fun v => { v with awaiting := none, machine := .halted }).discardOwed l).raiseMachineState
      l).laneChanged l

/-- R95: what still awaits the slot once a HALT or a PARK has been placed. A PARK is the strongest, so
nothing awaits behind it; a PARK goes on awaiting behind a HALT. -/
def awaitingBehind (k : StopKind) (w : Option StopKind) : Option StopKind :=
  match k with
  | .park => none
  | .halt => w.filter (· = .park)

/-- R85, R94, R95: a HALT or a PARK is placed, superseding the sequence in progress. It becomes the
owed command of a node that is LOST or already owed one (R115), and the command awaiting the slot
where the slot does not take it (R82). A PARK placed stands for the one that awaited the slot: a raise
during PARKING does not interrupt the park. -/
def State.placeStop (s : State) (l : LaneId) (k : StopKind) : State :=
  if (s.pinsetter l).state = .lost ∨ (s.pinsetter l).owed.isSome then s.oweStop l k
  else if slotTakes (s.pinsetter l) (sequenceCommand (stopSequence k) 0) then
    let s' := (s.endUnfinished l).modSupervisor l fun v =>
      { v with awaiting := awaitingBehind k v.awaiting }
    (s'.beginSequence l (stopSequence k) none).discardOwed l
  else s.modSupervisor l fun v => { v with awaiting := some (mergeOwed v.awaiting k) }

/-- R94: what a rise to STOP, or STOP_MACHINE with kind HALT, does to the machine. -/
def State.stopRise (s : State) (l : LaneId) : State :=
  match (s.supervisor l).machine with
  | .starting | .cycling | .ready => s.placeStop l .halt
  | .off | .halted | .parking | .parked | .outOfService | .manual => s

/-- R95: what a rise to PARK, or STOP_MACHINE with kind PARK, does to the machine. -/
def State.parkRise (s : State) (l : LaneId) : State :=
  match (s.supervisor l).machine with
  | .starting | .cycling | .ready | .halted => s.placeStop l .park
  | .off | .parking | .parked | .outOfService | .manual => s

/-! ## The cycle need, the owed cycle and the follow-on -/

/-- The cycle that serves a need (section 5.2). -/
def needSequence : Need → Sequence
  | .first => .firstCycle
  | .full | .fullThenPark => .fullCycle

/-- R92, R93: a need is run: its cycle is begun, and a FULL-then-park sets the follow-on to PARK. -/
def State.runNeed (s : State) (l : LaneId) (n : Need) : State :=
  let s' := s.modSupervisor l fun v =>
    { v with owed := none, followOn := if n = Need.fullThenPark then FollowOn.park else v.followOn }
  s'.beginSequence l (needSequence n) none

/-- R93: the owed cycle is run when the machine is READY with no sequence in progress and the
effective action is below HOLD. -/
def State.runOwed (s : State) (l : LaneId) : State :=
  match (s.supervisor l).owed with
  | none => s
  | some n =>
    if (s.supervisor l).machine = .ready ∧ (s.supervisor l).record = none ∧ s.belowHold l then
      s.runNeed l n
    else s

/-- R97: the machine is at rest for a follow-on of PARK: READY or HALTED, no sequence, no owed
cycle, no need still to come. -/
def State.parkMayFollow (s : State) (l : LaneId) : Bool :=
  ((s.supervisor l).machine == .ready || (s.supervisor l).machine == .halted) &&
    !s.sequencing l && (s.supervisor l).owed.isNone && (s.supervisor l).deferredNeed.isNone &&
    (s.tracker l).play != .resolved

/-- R97: a follow-on of PARK is carried out. -/
def State.followPark (s : State) (l : LaneId) : State :=
  if (s.supervisor l).followOn = .park ∧ s.parkMayFollow l then
    (s.modSupervisor l fun v => { v with followOn := .none }).placeStop l .park
  else s

/-- R118, condition 3: the lane may be restarted: OPEN with a holder in state OPEN or EXPIRED, or
PAIR_PLAY with a holder, if any, in state OPEN. -/
def State.mayRestart (s : State) (l : LaneId) : Bool :=
  match (s.entry l).state with
  | .opened => (s.holder l).any fun h => h.2.state == .opened || h.2.state == .expired
  | .pairPlay => (s.entry l).holder.isNone || (s.holder l).any fun h => h.2.state == .opened
  | .disabled | .closed | .manual => false

/-- R98, R118: the restart mark of a START on a lane, where it has a holder. -/
def State.restartMark (s : State) (l : LaneId) (r : Option Resume) : Option RestartMark :=
  (s.entry l).holder.map fun _ => ⟨r⟩

/-- R96, R118: a follow-on of START is considered when a sequence has ended by SEQUENCE_DONE. -/
def State.followStart (s : State) (l : LaneId) : State :=
  if s.sequencing l ∨ (s.pinsetter l).owed.isSome then s
  else
    match (s.supervisor l).followOn, (s.supervisor l).machine with
    | .start, .parked =>
      let s' := s.setFollowOn l .none
      if s.belowStop l ∧ (s.entry l).holder.isSome then s'.beginSequence l .start none else s'
    | .restart r, .parked | .restart r, .halted =>
      let s' := s.setFollowOn l .none
      if s.belowStop l ∧ s.mayRestart l then s'.beginSequence l .start (s.restartMark l r) else s'
    | _, _ => s

/-- R79: the tracker's RESOLVED state ends when the supervisor takes the cycle need. -/
def State.needTaken (s : State) (l : LaneId) : State :=
  match (s.tracker l).play with
  | .resolved => s.modTracker l fun t => { t with play := .notArmed, ball := none }
  | .notArmed | .armed | .settling | .reading | .awaitingEntry => s

/-- R92: the supervisor takes a cycle need. -/
def State.takeNeed (s : State) (l : LaneId) (n : Need) : State :=
  let s' := match (s.supervisor l).machine with
    | .ready =>
      if s.belowHold l then s.runNeed l n
      else (s.modSupervisor l fun v => { v with owed := some n }).raiseMachineState l
    | .halted => if n = Need.fullThenPark then s.setFollowOn l .park else s
    | .off | .starting | .cycling | .parking | .parked | .outOfService | .manual => s
  ((s'.needTaken l).armingCheck l).followPark l

/-- R42: a cycle need that comes from a withdrawal outside the application of a ball: it replaces an
owed cycle, waits for a sequence in progress to end, and is taken at once otherwise. -/
def State.handNeed (s : State) (l : LaneId) (n : Need) : State :=
  if (s.supervisor l).owed.isSome then
    (s.modSupervisor l fun v => { v with owed := some n }).raiseMachineState l
  else if s.sequencing l then s.modSupervisor l fun v => { v with deferredNeed := some n }
  else s.takeNeed l n

/-! ## Holders arriving and sessions ending -/

/-- A need without its park. -/
def withoutPark : Need → Need
  | .fullThenPark => .full
  | .first => .first
  | .full => .full

/-- R8, R96: a park that a session's leaving has set is taken back: a follow-on of PARK is cancelled,
and a FULL-then-park becomes FULL, owed or deferred (log entry 52). -/
def unparked (v : Supervisor) : Supervisor :=
  { v with
    followOn := if v.followOn = FollowOn.park then FollowOn.none else v.followOn
    owed := v.owed.map withoutPark
    deferredNeed := v.deferredNeed.map withoutPark }

/-- R96, part 1, and R8: the park that was to come is cancelled; a change that MACHINE_STATE shows
raises it. -/
def State.cancelPark (s : State) (l : LaneId) : State :=
  let v := s.supervisor l
  let s' := s.modSupervisor l unparked
  if v.followOn = (unparked v).followOn ∧ v.owed = (unparked v).owed then s'
  else s'.raiseMachineState l

/-- R96: a SINGLE session has become the lane's holder. -/
def State.holderArrives (s : State) (l : LaneId) : State :=
  let s' := s.cancelPark l
  let s'' :=
    if s'.belowStop l then
      match (s'.supervisor l).machine with
      | .off | .parked => s'.beginSequence l .start none
      | .parking => s'.setFollowOn l .start
      | .starting | .ready | .cycling | .halted | .outOfService | .manual => s'
    else s'
  s''.armingCheck l

/-- R97: the session has ended on the lane: a PARK as a normal stop, now or as the follow-on. -/
def State.sessionEnds (s : State) (l : LaneId) : State :=
  let s' := match (s.supervisor l).machine with
    | .ready | .halted | .starting | .cycling =>
      if s.parkMayFollow l then s.placeStop l .park else s.setFollowOn l .park
    | .parking | .parked | .off | .outOfService => s.clearStart l
    | .manual => s
  s'.armingCheck l

end Sys2Proof.Machine
end

