-- ==== Sys2Proof/Machine/SessionOps.lean ====
section
/-! DEFINITION. The Session Store's state changes that other blocks cause: expiry (R8), the start of
a close (R19, R21), and the cancellation of a move (R24). -/

namespace Sys2Proof.Machine

open Sys2Proof

/-- The session holds the lane it names: the lane table shows it as that lane's holder. -/
def State.holdsLane (s : State) (i : SessionId) (l : LaneId) : Bool := (s.entry l).holder == some i

/-- The bowler in a slot, slots counting from 1. -/
def bowlerAt (x : Session) (slot : Nat) : Option Bowler := nth1 x.bowlers slot

/-- The balls of a frame of a game, frames counting from 1. -/
def frameBalls (g : Game) (frame : Nat) : List Ball := ((nth1 g.frames frame).map (·.balls)).getD []

/-- R8: the current bowler's current frame holds no ball. -/
def frameNotBegun (x : Session) : Bool :=
  match x.slot with
  | none => true
  | some k =>
    match bowlerAt x k with
    | none => true
    | some b => (frameBalls b.game x.frame).isEmpty

/-- R17: the session has a ball in flight: it holds a lane whose tracker has one. -/
def State.sessionInFlight (s : State) (i : SessionId) (x : Session) : Bool :=
  s.holdsLane i x.lane && inFlight (s.tracker x.lane).play

/-- R24: the pending move of a lane is cancelled, which releases its target and is reported for the
arming check. -/
def State.cancelMove (s : State) (l : LaneId) : State :=
  match (s.entry l).movePending with
  | none => s
  | some _ => (s.modEntry l fun e => { e with movePending := none }).armingCheck l

/-- R19: a session becomes CLOSING: expiry due is cleared, the expiry count becomes absent (R157),
and a pending move from the lane it holds is cancelled. A ball awaiting entry is dropped by the
caller (`Machine/Closing.lean`). -/
def State.becomeClosing (s : State) (i : SessionId) : State :=
  match s.session i with
  | none => s
  | some x =>
    let s' := s.setSession i (some
      { x with state := .closing, expiryDue := false
               billing := { x.billing with expiryCount := none } })
    let s'' := if s'.holdsLane i x.lane then s'.cancelMove x.lane else s'
    (s''.raiseSessionState i none).armingCheck x.lane

/-- R157: the expiry wait of a session has ended: the count becomes absent and the session becomes
CLOSING (R21). -/
def State.endExpiryWait (s : State) (i : SessionId) : State := s.becomeClosing i

/-- R8: the session becomes EXPIRED; R157: the expiry count starts, or ends at once for a wait of 0. -/
def State.becomeExpired (s : State) (i : SessionId) : State :=
  match s.session i with
  | none => s
  | some x =>
    let count := if x.billing.expiryWait = 0 then none else some (60 * x.billing.expiryWait)
    let s' := ((s.setSession i (some
      { x with state := .expired, expiryDue := false
               billing := { x.billing with expiryCount := count } })).raiseSessionState i
        none).armingCheck x.lane
    if x.billing.expiryWait = 0 then s'.endExpiryWait i else s'

/-- R8: expiry of an OPEN session: at once between frames, or due at the end of the frame. -/
def State.expireOpen (s : State) (i : SessionId) (x : Session) : State :=
  if frameNotBegun x ∧ ¬ s.sessionInFlight i x then s.becomeExpired i
  else (s.modSession i fun y => { y with expiryDue := true }).raiseSessionState i none

/-- R8: the Meter Unit reports limit reached. The machine of a session whose move is cancelled finishes
its cycle and stays READY: a park that the session's leaving had set is taken back (log entry 58). -/
def State.limitReached (s : State) (i : SessionId) : State :=
  match s.session i with
  | none => s
  | some x =>
    match x.state with
    | .opened => s.expireOpen i x
    | .moving =>
      let s' := (s.modSession i fun y => { y with state := .opened }).cancelPark x.lane
      (s'.cancelMove x.lane).expireOpen i { x with state := .opened }
    | .expired | .exhausted | .closing | .closed => s

/-- R8: expiry due falls due, because the current bowler's frame is complete or has ended with a
withdrawal. -/
def State.frameEnded (s : State) (i : SessionId) : State :=
  match s.session i with
  | none => s
  | some x => if x.expiryDue then s.becomeExpired i else s

end Sys2Proof.Machine
end

