-- ==== Sys2Proof/Machine/Tariffs.lean ====
section
/-! DEFINITION. The Calendar Clock (R136) and the Tariff Unit's lookup, swap and CRC (R141, R145,
R146). -/

namespace Sys2Proof.Machine

open Sys2Proof

/-! ## The calendar -/

/-- R136: a year divisible by 4 is a leap year within 2000 to 2099. -/
def isLeap (year : Nat) : Bool := year % 4 == 0

/-- R136: the length of a month. -/
def monthLength (month : Nat) (leap : Bool) : Nat :=
  if month = 2 then (if leap then 29 else 28)
  else if month = 4 ∨ month = 6 ∨ month = 9 ∨ month = 11 then 30
  else 31

/-- R136: carry into the year. -/
def carryYear (c : Calendar) : Calendar :=
  if c.year = 2099 then { c with year := 2000 } else { c with year := c.year + 1 }

/-- R136: carry into the month. -/
def carryMonth (c : Calendar) : Calendar :=
  if c.month = 12 then carryYear { c with month := 1 } else { c with month := c.month + 1 }

/-- R136: carry into the day and the weekday. -/
def carryDay (c : Calendar) : Calendar :=
  let c' := { c with weekday := if c.weekday = 7 then 1 else c.weekday + 1 }
  if c.day = monthLength c.month (isLeap c.year) then carryMonth { c' with day := 1 }
  else { c' with day := c.day + 1 }

/-- R136: carry into the hour. -/
def carryHour (c : Calendar) : Calendar :=
  if c.hour = 23 then carryDay { c with hour := 0 } else { c with hour := c.hour + 1 }

/-- R136: carry into the minute. -/
def carryMinute (c : Calendar) : Calendar :=
  if c.minute = 59 then carryHour { c with minute := 0 } else { c with minute := c.minute + 1 }

/-- R136: one second more. -/
def addSecond (c : Calendar) : Calendar :=
  if c.second = 59 then carryMinute { c with second := 0 } else { c with second := c.second + 1 }

/-- R139: the nearest whole minute. -/
def nearestMinute (c : Calendar) : Calendar :=
  if c.second < 30 then { c with second := 0 } else carryMinute { c with second := 0 }

/-- R138: every field within its range. -/
def calendarInRange (c : Calendar) : Bool :=
  decide (c.second ≤ 59) && decide (c.minute ≤ 59) && decide (c.hour ≤ 23) &&
    decide (1 ≤ c.weekday ∧ c.weekday ≤ 7) && decide (1 ≤ c.month ∧ c.month ≤ 12) &&
    decide (2000 ≤ c.year ∧ c.year ≤ 2099) &&
    decide (1 ≤ c.day ∧ c.day ≤ monthLength c.month (isLeap c.year))

/-- The calendar minute of a calendar time (R140). -/
def minuteStamp (c : Calendar) : MinuteStamp := ⟨c.year, c.month, c.day, c.hour, c.minute⟩

/-! ## Lookup -/

/-- R141, step 1: the effective weekday. -/
def effectiveWeekday (days : List SpecialDay) (c : Calendar) : Nat :=
  match days.find? fun d => d.day == c.day && d.month == c.month with
  | some d => d.weekday
  | none => c.weekday

/-- R141, step 3: an entry matches a class, an effective weekday and a minute of the day. -/
def periodMatches (cls : Fin 8) (weekday minute : Nat) (p : Period) : Bool :=
  p.classes.getLsbD cls.val && decide (1 ≤ weekday) && p.weekdays.getLsbD (weekday - 1) &&
    decide (p.startMinute ≤ minute) && decide (minute < p.endMinute)

/-- R141, step 3: the first entry that matches, with its tariff index, counting from `i`. -/
def firstMatch (cls : Fin 8) (weekday minute : Nat) : Nat → List Period → Option (Nat × Period)
  | _, [] => none
  | i, p :: ps =>
    if periodMatches cls weekday minute p then some (i, p)
    else firstMatch cls weekday minute (i + 1) ps

/-- R141: the answer of the active copy. -/
def lookupIn (t : Tariff) (cls : Fin 8) (c : Calendar) : Lookup :=
  let d := t.activeDefaults[cls]
  match firstMatch cls (effectiveWeekday t.activeDays c) (c.hour * 60 + c.minute) 1
      t.activeTable with
  | some (i, p) => ⟨p.gamePrice, p.hourlyRate, i, t.version, d.minimum, d.grace⟩
  | none => ⟨d.gamePrice, d.hourlyRate, 0, t.version, d.minimum, d.grace⟩

/-! ## The swap -/

/-- The periods in staging slots 1 to `count`, in slot order. An EMPTY slot among them, which a commit
refuses and the CRC of READ_TARIFF may meet, gives none (log entry 55). -/
def stagedPeriods (t : Tariff) (count : Nat) : List Period :=
  (t.slots.toList.take count).filterMap id

/-- R145: staging slots above the commit count become EMPTY. -/
def trimSlots (slots : Vector (Option Period) 24) (count : Nat) : Vector (Option Period) 24 :=
  slots.mapIdx fun i x => if i < count then x else none

/-- R145: the swap, in one step. -/
def swapTariff (t : Tariff) (count : Nat) : Tariff :=
  { t with
    activeTable := stagedPeriods t count
    activeDefaults := t.stagedDefaults
    activeDays := t.stagedDays
    slots := trimSlots t.slots count
    version := t.version + 1
    committedOnce := true
    pending := none }

/-- R145: the swap with its TARIFF_SWAPPED. -/
def State.swap (s : State) (count : Nat) : State :=
  let t := swapTariff s.tariff count
  ({ s with tariff := t }).raise 0
    (.tariffSwapped t.version t.activeTable.length t.activeDays.length s.clock.calendar)

/-- R145: a pending commit is swapped in when a lookup's calendar minute differs from its stamp. -/
def State.swapForLookup (s : State) : State :=
  match s.tariff.pending with
  | none => s
  | some c => if c.stamp = minuteStamp s.clock.calendar then s else s.swap c.count

/-- R145: a pending commit is swapped in when the Tariff Unit takes a minute boundary. -/
def State.takeBoundary (s : State) : State :=
  let s' := { s with clock := { s.clock with boundaryDue := false } }
  match s.tariff.pending with
  | none => s'
  | some c => s'.swap c.count

/-- R141: the answer to a lookup made after `swapForLookup`. -/
def State.lookup (s : State) (cls : Fin 8) : Lookup := lookupIn s.tariff cls s.clock.calendar

/-! ## The CRC of the staged contents -/

/-- The ten bytes of a period entry (section 11.7). -/
def periodBytes (p : Period) : List Byte :=
  [p.classes, p.weekdays.zeroExtend 8] ++ bytes2 p.startMinute ++ bytes2 p.endMinute ++
    bytes2 p.gamePrice ++ bytes2 p.hourlyRate

/-- The seven bytes of a class default (section 11.7). -/
def classDefaultBytes (d : ClassDefault) : List Byte :=
  bytes2 d.gamePrice ++ bytes2 d.hourlyRate ++ bytes2 d.minimum ++ bytes1 d.grace

/-- The three bytes of a special day (section 11.7). -/
def specialDayBytes (d : SpecialDay) : List Byte :=
  bytes1 d.day ++ bytes1 d.month ++ bytes1 d.weekday

/-- R146: the bytes the commit CRC covers, in order. -/
def stagedBytes (t : Tariff) (count : Nat) : List Byte :=
  bytes1 count ++ (stagedPeriods t count).flatMap periodBytes ++
    t.stagedDefaults.toList.flatMap classDefaultBytes ++ bytes1 t.stagedDays.length ++
    t.stagedDays.flatMap specialDayBytes

/-- R146: the CRC of the staged contents for a commit count. -/
def stagedCrc (t : Tariff) (count : Nat) : BitVec 16 := crc16 (stagedBytes t count)

/-- R148: the highest filled staging slot, 0 when every slot is EMPTY. -/
def highestFilled (t : Tariff) : Nat :=
  (t.slots.toList.zipIdx).foldl (fun m x => if x.1.isSome then x.2 + 1 else m) 0

/-! ## Special days, kept in ascending order of month and day -/

/-- The date of a special day comes before another date. -/
def dayBefore (month day : Nat) (d : SpecialDay) : Bool :=
  decide (d.month < month) || (d.month == month && decide (d.day < day))

/-- A special day added, or replaced where its date is held (R144). -/
def insertDay (x : SpecialDay) : List SpecialDay → List SpecialDay
  | [] => [x]
  | d :: ds =>
    if d.day = x.day ∧ d.month = x.month then x :: ds
    else if dayBefore x.month x.day d then d :: insertDay x ds
    else x :: d :: ds

/-- The special days without a date (R144). -/
def removeDay (day month : Nat) (ds : List SpecialDay) : List SpecialDay :=
  ds.filter fun d => !(d.day == day && d.month == month)

/-- The special days hold a date (R144). -/
def holdsDay (day month : Nat) (ds : List SpecialDay) : Bool :=
  ds.any fun d => d.day == day && d.month == month

end Sys2Proof.Machine
end

