-- ==== Sys2Proof/Machine/Meters.lean ====
section
/-! DEFINITION. The Meter Unit and the Charge List (chapter 9): charge lines, the open time line,
minute and game charges, limits, second ticks, the billing close, and moves. -/

namespace Sys2Proof.Machine

open Sys2Proof

/-! ## The Charge List -/

/-- An unlisted total is not 0 (R162). -/
def unlistedHolds (u : Unlisted) : Bool := u.amount != 0 || u.lines != 0

/-- R161: a line folded into its lane's unlisted total. -/
def foldLine (amount : Nat) (u : Unlisted) : Unlisted where
  amount := satAdd top32 u.amount amount
  saturated := u.saturated || decide (top32 ≤ u.amount + amount)
  lines := satAdd top16 u.lines 1

/-- R161, R162: the lanes whose unlisted total is not 0, the lowest first (log entry 34). -/
def State.unlistedLanes (s : State) : List LaneId :=
  allLanes.filter fun l => unlistedHolds (s.meter l).unlisted

/-- R161: a line handed to the Charge List is appended, or folded when the list is full. -/
def State.appendLine (s : State) (x : ChargeLine) : State :=
  if s.charges.lines.length < chargeCapacity then
    let s' := { s with charges := { s.charges with lines := s.charges.lines ++ [x] } }
    if s.charges.lines.length + 1 = chargeCapacity ∧ s.charges.full = false then
      ({ s' with charges := { s'.charges with full := true } }).raise 0
        (.chargeListFull chargeCapacity s.unlistedLanes)
    else s'
  else s.modMeter x.lane fun m => { m with unlisted := foldLine x.amount m.unlisted }

/-- R154: an amount added to a lane's charged total. -/
def State.addCharged (s : State) (l : LaneId) (amount : Nat) : State :=
  s.modMeter l fun m =>
    { m with
      chargedTotal := satAdd top32 m.chargedTotal amount
      saturated := m.saturated || decide (top32 ≤ m.chargedTotal + amount) }

/-- R149: an amount added to a session's time charge total. -/
def addTimeTotal (amount : Nat) (b : BillingRecord) : BillingRecord :=
  { b with
    timeTotal := satAdd top32 b.timeTotal amount
    saturated := b.saturated || decide (top32 ≤ b.timeTotal + amount) }

/-! ## The open time line (R153) -/

/-- R153: the TIME line an open line becomes. -/
def timeLine (l : LaneId) (o : OpenLine) : ChargeLine where
  lane := l
  session := o.session
  kind := .time
  reference := o.reference
  version := o.version
  quantity := o.minutes
  amount := o.amount
  stamp := o.start
  slotGame := none

/-- R153, R159, R160: the open time line of a lane, if there is one, is appended. -/
def State.appendOpenLine (s : State) (l : LaneId) : State :=
  match (s.meter l).openLine with
  | none => s
  | some o => (s.modMeter l fun m => { m with openLine := none }).appendLine (timeLine l o)

/-- R153: a new open line. -/
def newOpenLine (i : SessionId) (k : Lookup) (now : Calendar) : OpenLine where
  session := i
  reference := k.reference
  version := k.version
  minutes := 0
  amount := 0
  start := now

/-- R141: the open line has the same tariff as a lookup. -/
def sameTariff (o : OpenLine) (k : Lookup) : Bool :=
  o.reference == k.reference && o.version == k.version

/-- R153: the open line is settled against a lookup: kept, or appended and started anew. -/
def State.settleLine (s : State) (l : LaneId) (i : SessionId) (k : Lookup) : State :=
  match (s.meter l).openLine with
  | none => s.modMeter l fun m => { m with openLine := some (newOpenLine i k s.clock.calendar) }
  | some o =>
    if sameTariff o k then s
    else
      (s.appendOpenLine l).modMeter l fun m =>
        { m with openLine := some (newOpenLine i k s.clock.calendar) }

/-- One more minute on an open line; past 65,535 the count is a free value (log entry 26). -/
def bumpMinutes (n : Nat) : Nat :=
  if n < top16 then n + 1 else Config.openMinutesPastTop.toNat

/-- R152, stage 4: an amount, and a number of minutes, added to the open line. -/
def addToLine (amount : Nat) (minute : Bool) (o : OpenLine) : OpenLine :=
  { o with
    amount := satAdd top32 o.amount amount
    minutes := if minute then bumpMinutes o.minutes else o.minutes }

/-- R152, stages 2 to 4: a minute is charged to a session on its lane at a looked-up rate. -/
def State.chargeMinute (s : State) (i : SessionId) (k : Lookup) : State :=
  match s.session i with
  | none => s
  | some x =>
    let charge := (k.hourlyRate + x.billing.carry) / 60
    let s' := (s.settleLine x.lane i k).modMeter x.lane fun m =>
      { m with openLine := m.openLine.map (addToLine charge true) }
    (s'.addCharged x.lane charge).modSession i fun y =>
      { y with billing :=
        { addTimeTotal charge y.billing with
          carry := (k.hourlyRate + x.billing.carry) % 60
          chargedMinutes := satAdd top16 y.billing.chargedMinutes 1 } }

/-! ## Limits (R156) -/

/-- R156: the limit value and the count charged toward it; none for a limit kind of NONE. -/
def limitCount (x : Session) : Option (Nat × Nat) :=
  match x.terms.limit with
  | .none => none
  | .games n => some (n, x.billing.gamesCharged)
  | .minutes n => some (n, x.billing.chargedMinutes)

/-- R156: the payload of LIMIT_REACHED and LIMIT_WARNING. -/
def limitReport (i : SessionId) (x : Session) (value charged : Nat) (wait : Bool) : LimitReport where
  session := i
  lane := x.lane
  limit := x.terms.limit
  charged := charged
  remaining := value - charged
  expiryWait :=
    match x.terms.limit with
    | .minutes _ => if wait then some x.billing.expiryWait else none
    | .none | .games _ => none

/-- R156: the warning test. -/
def State.warningTest (s : State) (i : SessionId) : State :=
  match s.session i with
  | none => s
  | some x =>
    match limitCount x with
    | none => s
    | some (value, charged) =>
      if x.billing.warned = false ∧ 0 < x.terms.warning ∧ 0 < value - charged ∧
          value - charged ≤ x.terms.warning then
        (s.modSession i fun y => { y with billing := { y.billing with warned := true } }).raise
          (laneSource x.lane) (.limitWarning (limitReport i x value charged false))
      else s

/-- R156: the limit test. A MINUTES limit reached stops the record and is reported by R8. -/
def State.limitTest (s : State) (i : SessionId) : State :=
  match s.session i with
  | none => s
  | some x =>
    match limitCount x with
    | none => s
    | some (value, charged) =>
      if value - charged = 0 then
        let s' := s.raise (laneSource x.lane) (.limitReached (limitReport i x value charged true))
        match x.terms.limit with
        | .minutes _ =>
          (s'.modSession i fun y =>
            { y with billing :=
              { y.billing with state := .stopped, secondsInMinute := 0 } }).limitReached i
        | .none | .games _ => s'
      else s

/-- R156: the two tests, in order. -/
def State.limitTests (s : State) (i : SessionId) : State := (s.limitTest i).warningTest i

/-! ## Second ticks (R151, R157) -/

/-- One more second on a count bounded at 4,294,967,295; past it the count is a free value
(log entry 26). -/
def bumpSeconds (which n : Nat) : Nat :=
  if n < top32 then n + 1 else (Config.secondsPastTop n which).toNat

/-- R151: a RUNNING record counts one chargeable second. -/
def runningSecond (b : BillingRecord) : BillingRecord :=
  { b with
    chargeable := bumpSeconds 0 b.chargeable
    elapsed := bumpSeconds 2 b.elapsed
    secondsInMinute := b.secondsInMinute + 1 }

/-- R151: a CREDITING record counts one credited second. -/
def creditedSecond (b : BillingRecord) : BillingRecord :=
  { b with credited := bumpSeconds 1 b.credited, elapsed := bumpSeconds 2 b.elapsed }

/-- R152: the sixtieth chargeable second charges a minute. -/
def State.minuteDue (s : State) (i : SessionId) : State :=
  match s.session i with
  | none => s
  | some x =>
    if 60 ≤ x.billing.secondsInMinute then
      let s' := (s.modSession i fun y =>
        { y with billing := { y.billing with secondsInMinute := 0 } }).swapForLookup
      (s'.chargeMinute i (s'.lookup x.terms.tariffClass)).limitTests i
    else s

/-- R157: a STOPPED record counts its expiry count down; at 0 the wait ends. -/
def State.expirySecond (s : State) (i : SessionId) : State :=
  match s.session i with
  | none => s
  | some x =>
    match x.billing.expiryCount with
    | none => s
    | some n =>
      if n ≤ 1 then s.endExpiryWait i
      else s.modSession i fun y => { y with billing := { y.billing with expiryCount := some (n - 1) } }

/-- R151: a session billing record takes a second tick. -/
def State.billingTick (s : State) (i : SessionId) : State :=
  match s.session i with
  | none => s
  | some x =>
    match x.billing.state with
    | .running =>
      (s.modSession i fun y => { y with billing := runningSecond y.billing }).minuteDue i
    | .crediting => s.modSession i fun y => { y with billing := creditedSecond y.billing }
    | .stopped => s.expirySecond i
    | .gameMode => s

/-! ## Credit (R150) -/

/-- R150: a record follows the credit state of its lane. -/
def followCredit (credit : Bool) (b : BillingRecord) : BillingRecord :=
  match b.state with
  | .running => if credit then { b with state := .crediting } else b
  | .crediting => if credit then b else { b with state := .running }
  | .stopped | .gameMode => b

/-- R112, R150: the Fault Unit tells the lane's credit state; the holder's record follows it. -/
def State.tellCredit (s : State) (l : LaneId) : State :=
  match (s.entry l).holder with
  | none => s
  | some i => s.modSession i fun y => { y with billing := followCredit (s.credit l) y.billing }

/-! ## Game charges (R155) -/

/-- R155: a bowler-game is charged on the lane its first ball was bowled on. -/
def State.chargeGame (s : State) (l : LaneId) (i : SessionId) (slot game : Nat) : State :=
  match s.session i with
  | none => s
  | some x =>
    let s' := s.swapForLookup
    let k := s'.lookup x.terms.tariffClass
    let line : ChargeLine :=
      { lane := l, session := i, kind := .game, reference := k.reference, version := k.version
        quantity := 1, amount := k.gamePrice, stamp := s'.clock.calendar
        slotGame := some (slot, game) }
    (((s'.addCharged l k.gamePrice).appendLine line).modSession i fun y =>
      { y with billing :=
        { y.billing with gamesCharged := satAdd top16 y.billing.gamesCharged 1 } }).limitTests i

/-! ## The billing close (R159) -/

/-- R159, stage 2: the partial minute. -/
def State.closePartial (s : State) (i : SessionId) (k : Lookup) : State :=
  match s.session i with
  | none => s
  | some x =>
    let s' := if k.grace < x.billing.secondsInMinute then s.chargeMinute i k else s
    s'.modSession i fun y => { y with billing := { y.billing with secondsInMinute := 0 } }

/-- R159, stage 3: the carry rounding. -/
def State.closeRounding (s : State) (i : SessionId) (k : Lookup) : State :=
  match s.session i with
  | none => s
  | some x =>
    if 30 ≤ x.billing.carry then
      let s' := s.modMeter x.lane fun m =>
        { m with openLine := some (addToLine 1 false
            (m.openLine.getD (newOpenLine i k s.clock.calendar))) }
      (s'.addCharged x.lane 1).modSession i fun y => { y with billing := addTimeTotal 1 y.billing }
    else s

/-- R159, stages 5 and 6: a line of the close with tariff reference 0. -/
def closeLine (l : LaneId) (i : SessionId) (kind : ChargeKind) (k : Lookup) (quantity amount : Nat)
    (now : Calendar) : ChargeLine where
  lane := l
  session := i
  kind := kind
  reference := 0
  version := k.version
  quantity := quantity
  amount := amount
  stamp := now
  slotGame := none

/-- R159, stage 5: the minimum. -/
def State.closeMinimum (s : State) (i : SessionId) (k : Lookup) : State :=
  match s.session i with
  | none => s
  | some x =>
    if x.billing.timeTotal < k.minimum then
      let due := k.minimum - x.billing.timeTotal
      (((s.addCharged x.lane due).modSession i fun y =>
        { y with billing := addTimeTotal due y.billing }).appendLine
          (closeLine x.lane i .minimum k 0 due s.clock.calendar))
    else s

/-- R159, stage 6: the downtime note. -/
def State.closeDowntime (s : State) (i : SessionId) (k : Lookup) : State :=
  match s.session i with
  | none => s
  | some x =>
    if 0 < x.billing.credited then
      s.appendLine (closeLine x.lane i .downtimeNote k x.billing.credited 0 s.clock.calendar)
    else s

/-- R159: the billing close of a session. -/
def State.billingClose (s : State) (i : SessionId) : State :=
  match s.session i with
  | none => s
  | some x =>
    match x.terms.billing with
    | .game => s
    | .time =>
      let s' := s.swapForLookup
      let k := s'.lookup x.terms.tariffClass
      (((((s'.closePartial i k).closeRounding i k).appendOpenLine x.lane).closeMinimum i
        k).closeDowntime i k)

/-! ## New records and moves (R149, R160) -/

/-- R149: the billing record of a new session. -/
def newBilling (billing : Billing) (credit : Bool) (expiryWait : Nat) : BillingRecord where
  state :=
    match billing with
    | .game => .gameMode
    | .time => if credit then .crediting else .running
  chargeable := 0
  secondsInMinute := 0
  carry := 0
  chargedMinutes := 0
  credited := 0
  elapsed := 0
  gamesCharged := 0
  timeTotal := 0
  saturated := false
  warned := false
  expiryWait := expiryWait
  expiryCount := none

/-- R160, step 3: a moved record takes the credit state of its new lane. -/
def State.moveCredit (s : State) (i : SessionId) (target : LaneId) : State :=
  s.modSession i fun y => { y with billing := followCredit (s.credit target) y.billing }

end Sys2Proof.Machine
end

