-- ==== Sys2Proof/Machine/Scoring.lean ====
section
/-! DEFINITION. The Score Engine's arithmetic on the records of one session (chapter 2 and section
3.4): pinfall, splits, frame progression, frame scores, turns, game starts, handicap, resumes. Every
function here is a function of the records; what they set off in other blocks stands in
`Machine/Apply.lean`. -/

namespace Sys2Proof.Machine

open Sys2Proof

/-! ## New records -/

/-- A frame not bowled (section 2.1). -/
def emptyFrame : Frame := ⟨.notBowled, [], none, none⟩

/-- R40, step 3: a new game record. -/
def newGame (number handicap : Nat) : Game :=
  ⟨number, .notStarted, handicap, false, List.replicate 10 emptyFrame⟩

/-- R43: a bowler's handicap at game start. -/
def handicapOf (t : Terms) (b : Bowler) : Nat :=
  match b.handicapMode with
  | .none => 0
  | .fixed n => n
  | .basis =>
    if t.basis ≤ b.average then 0 else min t.cap ((t.basis - b.average) * t.percent / 100)

/-- R33: the record for a first ball of a frame. -/
def firstBallOf (slot frame : Nat) : NextBall := ⟨slot, frame, 1, .full, fullRack, none⟩

/-! ## Changing one bowler -/

/-- The session with the bowler in a slot changed. -/
def modBowler (f : Bowler → Bowler) (slot : Nat) (x : Session) : Session :=
  if slot = 0 then x else { x with bowlers := modifyNth f (slot - 1) x.bowlers }

/-- The session with the current game of the bowler in a slot changed. -/
def modGame (f : Game → Game) (slot : Nat) (x : Session) : Session :=
  modBowler (fun b => { b with game := f b.game }) slot x

/-- The status of the current game of the bowler in a slot. -/
def gameStatus (x : Session) (slot : Nat) : Option GameStatus :=
  (bowlerAt x slot).map (·.game.status)

/-! ## Pinfall and splits (R28, R29) -/

/-- R28: 10 minus the pinfalls recorded from the last ball that faced FULL on; `balls` are the
frame's balls in order. -/
def expectedStanding (balls : List Ball) : Nat :=
  10 - balls.foldl (fun sum b => (if b.faced = .full then 0 else sum) + b.pinfall) 0

/-- R28: the raw count of a ball. -/
def rawCount (before after : PinSet) : Nat := pinCount before - pinCount after

/-- R28: the recorded pinfall of a ball. -/
def pinfallOf (n : NextBall) (r : BallResult) : Nat :=
  if r.foul then 0
  else
    match n.faced with
    | .full => rawCount n.before r.after
    | .leave => min (rawCount n.before r.after) (n.expected.getD 10)

/-- R28: the recorded source: CLAMPED where the expected standing count was the lesser. -/
def sourceOf (n : NextBall) (r : BallResult) : BallSource :=
  if r.foul then r.source
  else
    match n.faced with
    | .full => r.source
    | .leave => if n.expected.getD 10 < rawCount n.before r.after then .clamped else r.source

/-- R29: the neighbours of each pin, pin `n` at position `n - 1`. -/
def neighbourTable : List (List Nat) :=
  [[2, 3], [1, 3, 4, 5], [1, 2, 5, 6], [2, 5, 7, 8], [2, 3, 4, 6, 8, 9], [3, 5, 9, 10], [4, 8],
   [4, 5, 7, 9], [5, 6, 8, 10], [6, 9]]

/-- R29: the neighbours of a pin. -/
def neighbours (pin : Nat) : PinSet := pinSetOf ((nth1 neighbourTable pin).getD [])

/-- R29: one step of reaching: the pins of `a` that a pin of `reached` neighbours, and `reached`. -/
def reachStep (a reached : PinSet) : PinSet :=
  (pinsOf reached).foldl (fun m p => m ||| (neighbours p &&& a)) reached

/-- R29: the pins of `a` reached from `reached` in `n` steps. -/
def reachIn (a : PinSet) : Nat → PinSet → PinSet
  | 0, reached => reached
  | n + 1, reached => reachIn a n (reachStep a reached)

/-- R29: the pins of a set form one connected group. -/
def connected (a : PinSet) : Bool :=
  match pinsOf a with
  | [] => true
  | p :: _ => reachIn a 9 (pinSetOf [p]) == a

/-- R29: the split flag. -/
def isSplit (faced : Faced) (foul : Bool) (after : PinSet) : Bool :=
  faced == .full && !foul && !hasPin after 1 && decide (2 ≤ pinCount after) && !connected after

/-- R30: the ball record appended for a result. -/
def ballRecord (n : NextBall) (r : BallResult) : Ball where
  pinfall := pinfallOf n r
  faced := n.faced
  before := n.before
  after := r.after
  foul := r.foul
  split := isSplit n.faced r.foul r.after
  source := sourceOf n r
  corrected := false
  stamp := r.stamp

/-! ## Frame progression (R31, R32) -/

/-- What follows a ball: the frame is complete, or its next ball faces FULL or a leave. -/
inductive Progress where
  | complete
  | goesOn (faced : Faced) (before : PinSet)
deriving DecidableEq, Repr

/-- A strike on a full rack: pinfall 10, not a foul. -/
def fellsTen (b : Ball) : Bool := b.pinfall == 10 && !b.foul

/-- R31: the progression of frames 1 to 9 after the balls bowled. -/
def progressNormal (balls : List Ball) : Progress :=
  match balls with
  | [] => .goesOn .full fullRack
  | [b] =>
    if fellsTen b then .complete
    else if b.foul then .goesOn .full fullRack
    else .goesOn .leave b.after
  | _ :: _ :: _ => .complete

/-- R32: the progression of frame 10 after the balls bowled. -/
def progressTenth (balls : List Ball) : Progress :=
  match balls with
  | [] => .goesOn .full fullRack
  | [b] => if fellsTen b || b.foul then .goesOn .full fullRack else .goesOn .leave b.after
  | [b1, b2] =>
    match b2.faced with
    | .full =>
      if fellsTen b2 then .goesOn .full fullRack
      else if fellsTen b1 then
        (if b2.foul then .goesOn .full fullRack else .goesOn .leave b2.after)
      else .complete
    | .leave => if b1.pinfall + b2.pinfall = 10 then .goesOn .full fullRack else .complete
  | _ :: _ :: _ :: _ => .complete

/-- R31, R32: the progression of a frame. -/
def progress (frame : Nat) (balls : List Ball) : Progress :=
  if frame = 10 then progressTenth balls else progressNormal balls

/-- R33: the next-ball record after a ball of a frame. -/
def nextBallAfter (slot frame : Nat) (balls : List Ball) : NextBall :=
  match progress frame balls with
  | .complete => firstBallOf slot frame
  | .goesOn faced before =>
    { slot := slot, frame := frame, index := balls.length + 1, faced := faced, before := before
      expected := if faced = .leave then some (expectedStanding balls) else none }

/-! ## Frame scores and running totals (R34, R35) -/

/-- The pinfalls of a frame's balls, summed. -/
def pinSum (balls : List Ball) : Nat := (balls.map (·.pinfall)).sum

/-- The sum of the first `n` pinfalls of a list, where there are that many. -/
def bonus (n : Nat) (balls : List Ball) : Option Nat :=
  if balls.length < n then none else some (pinSum (balls.take n))

/-- R34: how many bonus balls a complete frame of balls takes in frames 1 to 9. -/
def bonusBalls (balls : List Ball) : Nat :=
  match balls with
  | [] => 0
  | [b] => if fellsTen b then 2 else 0
  | b :: c :: _ => if fellsTen b then 2 else if b.pinfall + c.pinfall = 10 then 1 else 0

/-- R34: the frame score of a complete frame, given the balls of the frames after it. -/
def frameScore (frame : Nat) (balls later : List Ball) : Option Nat :=
  if frame = 10 then some (pinSum balls)
  else (bonus (bonusBalls balls) later).map fun n => pinSum balls + n

/-- The frame has been found complete (R30). -/
def frameComplete (f : Frame) : Bool := f.status == .awaitingBonus || f.status == .scored

/-- R34: a complete frame scored afresh: SCORED with its score, or AWAITING_BONUS without one. -/
def rescoreFrame (frame : Nat) (f : Frame) (later : List Ball) : Frame :=
  if frameComplete f then
    match frameScore frame f.balls later with
    | some n => { f with status := .scored, score := some n }
    | none => { f with status := .awaitingBonus, score := none }
  else f

/-- R34: the frames from number `frame` on, each scored afresh. -/
def rescoreFrom : Nat → List Frame → List Frame
  | _, [] => []
  | n, f :: fs => rescoreFrame n f (fs.flatMap (·.balls)) :: rescoreFrom (n + 1) fs

/-- R35: the running totals filled forward; `acc` is the total so far, while every earlier frame is
SCORED. -/
def fillRunning : Option Nat → List Frame → List Frame
  | _, [] => []
  | acc, f :: fs =>
    let now := match acc, f.score with
      | some t, some n => if f.status = .scored then some (t + n) else none
      | _, _ => none
    { f with running := now } :: fillRunning now fs

/-- R34, R35: the frames of a game with scores and running totals brought up to date. -/
def rescore (frames : List Frame) : List Frame := fillRunning (some 0) (rescoreFrom 1 frames)

/-- R30: a ball appended to a frame; the frame leaves IN_PROGRESS when it is found complete (its
score is then fixed by `rescore`). -/
def addBall (frame : Nat) (b : Ball) (f : Frame) : Frame :=
  { f with
    balls := f.balls ++ [b]
    status := if progress frame (f.balls ++ [b]) = .complete then .awaitingBonus else .inProgress }

/-- R30, R34: a game after a ball is recorded in a frame. -/
def recordBall (frame : Nat) (b : Ball) (g : Game) : Game :=
  { g with frames := rescore (modifyNth (addBall frame b) (frame - 1) g.frames) }

/-- The status of a frame of a game. -/
def statusOfFrame (g : Game) (frame : Nat) : FrameStatus :=
  ((nth1 g.frames frame).map (·.status)).getD .notBowled

/-- R35: the last running total present in a game, 0 if none (R42). -/
def lastRunning (g : Game) : Nat :=
  g.frames.foldl (fun t f => f.running.getD t) 0

/-- R35: the latest running total present in a game. -/
def latestRunning (g : Game) : Option Nat :=
  g.frames.foldl (fun t f => match f.running with | some n => some n | none => t) none

/-- A frame as BALL_SCORED reports it (R45). -/
def reportFrame (number : Nat) (f : Frame) : FrameReport := ⟨number, f.status, f.score, f.running⟩

/-- The frames of a game, numbered from 1. -/
def numberedFrames (g : Game) : List (Nat × Frame) := g.frames.zipIdx.map fun x => (x.2 + 1, x.1)

/-- R45: the frames that became SCORED from one record of a game to the next. -/
def newlyScored (before after : Game) : List FrameReport :=
  (numberedFrames after).filterMap fun x =>
    if x.2.status = .scored ∧ statusOfFrame before x.1 ≠ .scored then some (reportFrame x.1 x.2)
    else none

/-- R62: the frames that lost their score from one record of a game to the next. -/
def lostScore (before after : Game) : List FrameReport :=
  (numberedFrames after).filterMap fun x =>
    if statusOfFrame before x.1 = .scored ∧ x.2.status ≠ .scored then some (reportFrame x.1 x.2)
    else none

/-! ## Ending a game (R39, R42) -/

/-- R39, R42: an entry added to a game totals list; the oldest leaves when it is full. -/
def addTotal (e : GameTotal) (totals : List GameTotal) : List GameTotal :=
  (if totals.length < totalsCapacity then totals else totals.drop 1) ++ [e]

/-- R35, R42: the totals entry of a game with a given scratch. -/
def totalEntry (g : Game) (scratch : Nat) (e : Ending) : GameTotal :=
  ⟨g.number, scratch, g.handicap, scratch + g.handicap, e⟩

/-- R39: the bowler's game is COMPLETE. -/
def completeGame (b : Bowler) : Bowler :=
  { b with
    game := { b.game with status := .complete }
    gamesCompleted := satAdd top16 b.gamesCompleted 1
    totals := addTotal (totalEntry b.game (lastRunning b.game) .complete) b.totals }

/-- R42: the bowler's current game when the withdrawal takes effect. -/
def withdrawGame (b : Bowler) : Bowler :=
  match b.game.status with
  | .inProgress =>
    { b with
      game := { b.game with status := .withdrawn }
      totals := addTotal (totalEntry b.game (lastRunning b.game) .withdrawn) b.totals }
  | .notStarted => { b with game := { b.game with status := .withdrawn } }
  | .complete | .skipped | .withdrawn => b

/-- R17, R42: a withdrawal takes effect on a bowler record. -/
def withdrawBowlerRecord (b : Bowler) : Bowler :=
  withdrawGame { b with member := false, joinsNext := false, withdrawalPending := false }

/-! ## Turns (R37, R38, R40, R41) -/

/-- R38: the GAMES limit has been reached. -/
def gamesLimitReached (x : Session) : Bool :=
  match x.terms.limit with
  | .games n => decide (n ≤ x.billing.gamesCharged)
  | .none | .minutes _ => false

/-- R38: the limit check of one bowler whose game is NOT_STARTED. -/
def limitCheck (x : Session) (slot : Nat) : Session :=
  modGame (fun g => { g with status := if gamesLimitReached x then .skipped else .inProgress }) slot x

/-- R37, R38: the turn in frame 1 goes up the slots given: to the first whose game is IN_PROGRESS,
or is NOT_STARTED and passes the limit check; a bowler SKIPPED there is passed over. -/
def findFrameOne (x : Session) : List Nat → Session × Option Nat
  | [] => (x, none)
  | k :: ks =>
    match gameStatus x k with
    | some .inProgress => (x, some k)
    | some .notStarted =>
      if gamesLimitReached x then findFrameOne (limitCheck x k) ks else (limitCheck x k, some k)
    | _ => findFrameOne x ks

/-- R37: the first of the slots given whose game is IN_PROGRESS. -/
def findInProgress (x : Session) (slots : List Nat) : Option Nat :=
  slots.find? fun k => gameStatus x k == some .inProgress

/-- The turn given to a slot in a frame, with the next-ball record of R33. -/
def giveTurn (x : Session) (slot frame : Nat) : Session :=
  { x with slot := some slot, frame := frame, nextBall := firstBallOf slot frame }

/-- The slots of the members of a session, in order (R40, step 2). -/
def memberSlots (x : Session) : List Nat :=
  x.bowlers.zipIdx.filterMap fun b => if b.1.member then some (b.2 + 1) else none

/-- R40, steps 2 and 3: a member takes part in the new game with a new record. -/
def joinGame (x : Session) (b : Bowler) : Bowler :=
  if b.member then { b with joinsNext := false, game := newGame x.game (handicapOf x.terms b) }
  else b

/-- R40, steps 2 to 5: the game numbered by the session starts. The flag: the session is exhausted
(R41). -/
def startGame (x : Session) : Session × Bool :=
  let y := { x with
    takingPart := memberSlots x
    bowlers := x.bowlers.map (joinGame x)
    frame := 1 }
  match findFrameOne y y.takingPart with
  | (z, some k) => (giveTurn z k 1, false)
  | (z, none) => ({ z with slot := none }, true)

/-- R40, step 1: the game number increments, saturating at 255, and the next game starts. -/
def nextGame (x : Session) : Session × Bool := startGame { x with game := satAdd 255 x.game 1 }

/-- What a passing turn brings about: the records, whether the session's frame is complete, and
whether the session is exhausted. -/
structure TurnOutcome where
  session : Session
  frameDone : Bool
  exhausted : Bool
deriving DecidableEq, Repr

/-- R37: no slot above the current one qualifies: the session's frame is complete. -/
def endFrame (x : Session) : TurnOutcome :=
  match if x.frame < 10 then findInProgress x x.takingPart else none with
  | some k => ⟨giveTurn x k (x.frame + 1), true, false⟩
  | none => ⟨(nextGame x).1, true, (nextGame x).2⟩

/-- R37: the turn passes from the slot that held it. -/
def passTurn (x : Session) (from_ : Nat) : TurnOutcome :=
  let above := x.takingPart.filter fun k => decide (from_ < k)
  if x.frame = 1 then
    match findFrameOne x above with
    | (y, some k) => ⟨giveTurn y k 1, false, false⟩
    | (y, none) => endFrame y
  else
    match findInProgress x above with
    | some k => ⟨giveTurn x k x.frame, false, false⟩
    | none => endFrame x

/-! ## The cycle need (R36) -/

/-- R36, order 1: the need that ends in a park. -/
def needsPark (x : Session) : Bool :=
  x.mode == .single && (x.state == .closing || x.state == .moving || x.state == .exhausted)

/-- R36: the cycle need of a ball bowled by a slot in a frame, after the turn has passed. -/
def needOf (x : Session) (slot frame : Nat) : Need :=
  if needsPark x then .fullThenPark
  else if x.nextBall.slot = slot ∧ x.nextBall.frame = frame ∧ x.nextBall.faced = .leave then .first
  else .full

/-- R36, R42: FULL, or FULL-then-park by order 1. -/
def fullNeed (x : Session) : Need := if needsPark x then .fullThenPark else .full

/-! ## Resuming (R60, R61) -/

/-- R60: the next-ball record after a CLAMP. -/
def clampNext (n : NextBall) : NextBall :=
  match n.faced with
  | .leave => { n with before := fullRack }
  | .full => n

/-- R61: a frame emptied by a REPLAY. -/
def replayFrame (f : Frame) : Frame := { f with status := .notBowled, balls := [], score := none }

/-- R61: a game after a REPLAY of a frame. -/
def replayGame (frame : Nat) (g : Game) : Game :=
  { g with frames := rescore (modifyNth replayFrame (frame - 1) g.frames) }

/-- R60, R61: the records after a resume choice is applied to the frame the next-ball record
names. -/
def resumeRecords (r : Resume) (x : Session) : Session :=
  match r with
  | .clamp => { x with nextBall := clampNext x.nextBall }
  | .replay =>
    let n := x.nextBall
    match bowlerAt x n.slot with
    | none => x
    | some b =>
      if (frameBalls b.game n.frame).isEmpty then x
      else { modGame (replayGame n.frame) n.slot x with nextBall := firstBallOf n.slot n.frame }

/-! ## Correcting a ball (R55, R56) -/

/-- The balls of a frame with a new pinfall at an index, counting from 1. -/
def correctedBalls (index pinfall : Nat) (balls : List Ball) : List Ball :=
  modifyNth (fun b => { b with pinfall := pinfall, corrected := true }) (index - 1) balls

/-- The faced value a progression gives the next ball, if the frame goes on. -/
def facedNext : Progress → Option Faced
  | .complete => none
  | .goesOn f _ => some f

/-- R55, condition 1, with the first half of condition 2: the progression after each ball but the
last goes on and gives the next recorded ball its recorded faced value. -/
def facesAgree (frame : Nat) : List Ball → List Ball → Bool
  | _, [] => true
  | done, b :: rest =>
    match done with
    | [] => facesAgree frame [b] rest
    | _ :: _ =>
      facedNext (progress frame done) == some b.faced && facesAgree frame (done ++ [b]) rest

/-- R55, condition 3: from the last ball that faced FULL through each ball that faced LEAVE, the
pinfalls sum to at most 10; `sum` is the sum so far. -/
def leavesFit : Nat → List Ball → Bool
  | _, [] => true
  | sum, b :: rest =>
    match b.faced with
    | .full => leavesFit b.pinfall rest
    | .leave => decide (sum + b.pinfall ≤ 10) && leavesFit (sum + b.pinfall) rest

/-- R55, condition 4: a foul ball has pinfall 0. -/
def foulsZero (balls : List Ball) : Bool := balls.all fun b => !b.foul || b.pinfall == 0

/-- R55, condition 2: completeness is kept, and the next ball of the frame that the next-ball record
names still faces what it faced. -/
def endAgrees (frame : Nat) (complete : Bool) (faced : Option Faced) (balls : List Ball) : Bool :=
  match progress frame balls with
  | .complete => complete
  | .goesOn f _ => !complete && (match faced with | none => true | some g => f == g)

/-- R55: the structural check of a frame's corrected balls. `complete`: the frame was complete.
`faced`: the faced value of the next-ball record, where it names this frame. -/
def structureHolds (frame : Nat) (complete : Bool) (faced : Option Faced) (balls : List Ball) :
    Bool :=
  facesAgree frame [] balls && endAgrees frame complete faced balls && leavesFit 0 balls &&
    foulsZero balls

/-- R56: a game after the correction of one ball. -/
def correctGame (frame index pinfall : Nat) (g : Game) : Game :=
  { g with
    frames := rescore (modifyNth (fun f => { f with balls := correctedBalls index pinfall f.balls })
      (frame - 1) g.frames) }

/-- R56, step 2: the number of balls after frame `n` of a game up to and including ball `index` of
frame `frame`. -/
def ballsBetween (g : Game) (n frame index : Nat) : Nat :=
  (((g.frames.take (frame - 1)).drop n).map (·.balls.length)).sum + index

/-- R56, step 2: the frames a correction recomputes: the frame itself, and each earlier frame whose
bonus includes the ball. -/
def recomputedFrames (g : Game) (frame index : Nat) : List Nat :=
  ((List.range 10).map (· + 1)).filter fun n =>
    n == frame || (decide (n < frame) &&
      (nth1 g.frames n).any fun f =>
        frameComplete f && decide (ballsBetween g n frame index ≤ bonusBalls f.balls))

/-- The frames of a game named, as BALL_SCORED reports them (R62). -/
def reportFrames (g : Game) (numbers : List Nat) : List FrameReport :=
  numbers.filterMap fun n => (nth1 g.frames n).map (reportFrame n)

/-- R56, step 5: the newest totals entry takes the new scratch and total. -/
def correctTotals (g : Game) (totals : List GameTotal) : List GameTotal :=
  match totals.getLast? with
  | none => totals
  | some e =>
    totals.dropLast ++
      [{ e with scratch := lastRunning g, total := lastRunning g + g.handicap }]

end Sys2Proof.Machine
end

