-- ==== Sys2Proof/Machine/Turns.lean ====
section
/-! DEFINITION. The Turn Arbiter (section 3.1), resume instructions (section 3.4), and the notices of
the Score Engine. -/

namespace Sys2Proof.Machine

open Sys2Proof

/-! ## Notices of the Score Engine -/

/-- R45: the handicap running total of the latest frame reported that has a running total: with cause
CORRECTION or RESUME (R62) a later one may have none (log entry 59). -/
def reportHandicap (g : Game) (frames : List FrameReport) : Option Nat :=
  frames.foldl (fun t f => match f.running with | some n => some (n + g.handicap) | none => t) none

/-- BALL_SCORED for a session (R45, R62), raised with a lane as source. `g` is the bowler's game as
it stands. -/
def State.raiseBallScored (s : State) (l : LaneId) (i : SessionId) (x : Session) (g : Game)
    (slot frame index : Nat) (cause : ScoreCause) (frames : List FrameReport) : State :=
  s.raise (laneSource l) (.ballScored
    { session := i, slot := slot, handle := handleOf x slot, game := g.number, frame := frame
      index := index, cause := cause, status := statusOfFrame g frame, frames := frames
      handicapRunning := reportHandicap g frames, nextBall := x.nextBall })

/-- GAME_DONE for the newest entry of a bowler's totals list (R46). -/
def State.raiseGameDone (s : State) (i : SessionId) (slot : Nat) : State :=
  match s.session i with
  | none => s
  | some x =>
    match bowlerAt x slot with
    | none => s
    | some b =>
      match b.totals.getLast? with
      | none => s
      | some e =>
        s.raise (laneSource x.lane) (.gameDone
          { session := i, slot := slot, handle := b.handle, total := e
            gamesCompleted := b.gamesCompleted })

/-! ## The Turn Arbiter -/

/-- The team of a session. -/
def teamOf : Mode → Option Side
  | .single => none
  | .pairPlay t => some t

/-- R50: TURN_CHANGED for a lane granted. -/
def State.raiseTurnChanged (s : State) (l : LaneId) (i : SessionId) : State :=
  match s.session i with
  | none => s
  | some x =>
    s.raise (laneSource l) (.turnChanged
      { pair := pairOf l, lane := l, session := i, team := teamOf x.mode, game := x.game
        frame := x.frame, slot := x.slot, handle := x.slot.map (handleOf x)
        otherWaiting := (s.entry (otherLane l)).waiting })

/-- R47, R48: a lane is granted to a session: holder, the session's lane field, and TURN_CHANGED. -/
def State.grant (s : State) (l : LaneId) (i : SessionId) : State :=
  ((((s.modEntry l fun e => { e with holder := some i, waiting := none }).modSession i fun x =>
    { x with lane := l }).raiseTurnChanged l i).tellCredit l).armingCheck l

/-- R48: a lane is released; a session waiting for it is granted it in the same operation. -/
def State.releaseLane (s : State) (l : LaneId) : State :=
  let s' := s.modEntry l fun e => { e with holder := none }
  match (s.entry l).waiting with
  | some w => s'.grant l w
  | none => s'.armingCheck l

/-- R49: a lane is requested for a session: granted when it has no holder, else waited for. -/
def State.requestLane (s : State) (l : LaneId) (i : SessionId) : State :=
  match (s.entry l).holder with
  | none => s.grant l i
  | some _ =>
    (s.modEntry l fun e => { e with waiting := some i }).modSession i fun x => { x with lane := l }

/-- R48, R49: a pair-play session has completed its frame: its lane is released, then the pair's
other lane is requested. A session that only waits for a lane keeps its place (log entry 17). -/
def State.frameCompleted (s : State) (i : SessionId) : State :=
  match s.session i with
  | none => s
  | some x =>
    if x.mode ≠ .single ∧ x.state = .opened ∧ s.holdsLane i x.lane then
      (s.releaseLane x.lane).requestLane (otherLane x.lane) i
    else s

/-! ## Resuming a frame -/

/-- R60, R61, R62: a resume choice is applied, and reported with cause RESUME. -/
def State.applyResume (s : State) (i : SessionId) (r : Resume) : State :=
  match s.session i with
  | none => s
  | some x =>
    let n := x.nextBall
    let y := { resumeRecords r x with pendingResume := none }
    match bowlerAt x n.slot, bowlerAt y n.slot with
    | some b, some c =>
      let removed := (frameBalls b.game n.frame).length - (frameBalls c.game n.frame).length
      (s.setSession i (some y)).raiseBallScored x.lane i y c.game n.slot n.frame 0
        (.resume r removed) (lostScore b.game c.game)
    | _, _ => s.setSession i (some y)

/-- R59: a ball of the session is unresolved. -/
def State.unresolved (s : State) (i : SessionId) (x : Session) : Bool :=
  x.held.isSome || s.sessionInFlight i x

/-- R59: a resume instruction reaches the Score Engine. -/
def State.resumeInstruction (s : State) (i : SessionId) (r : Resume) : State :=
  match s.session i with
  | none => s
  | some x =>
    if x.slot = none then s
    else if s.unresolved i x then s.modSession i fun y => { y with pendingResume := some r }
    else s.applyResume i r

/-- R59: the pending resume is applied once no ball is unresolved. It is discarded where the ball result
has left the session without a current slot (log entry 53). -/
def State.applyPending (s : State) (i : SessionId) : State :=
  match s.session i with
  | none => s
  | some x =>
    match x.pendingResume with
    | none => s
    | some r =>
      if s.unresolved i x then s
      else if x.slot = none then s.modSession i fun y => { y with pendingResume := none }
      else s.applyResume i r

end Sys2Proof.Machine
end

