-- ==== Sys2Proof/Machine/Closing.lean ====
section
/-! DEFINITION. The close sequence (R20), exhaustion (R9), and the completion of a move (R23), with
the lane-quiet test that starts a close or a move (R18). -/

namespace Sys2Proof.Machine

open Sys2Proof

/-! ## The close sequence -/

/-- R5: the lane whose memory a session writes. -/
def memoryLane (x : Session) : LaneId :=
  match x.mode with
  | .single => x.lane
  | .pairPlay team => laneAt (pairOf x.lane) team

/-- A lane is let go: CLOSED with holder and waiting absent; the pair's lift and the lane's arming
are decided afresh, and the supervisor is told that the session has ended (R20, R97). A need deferred
to the end of a sequence stands: it is handed then (R42), and the PARK follows it (R97). -/
def State.closeLaneEntry (s : State) (l : LaneId) : State :=
  let s' := s.modEntry l fun e => { e with state := .closed, holder := none, waiting := none }
  (s'.laneChanged l).sessionEnds l

/-- R51: a pair-play session leaves the arbiter's slots. -/
def State.leaveSlots (s : State) (i : SessionId) (l : LaneId) : State :=
  if s.holdsLane i l then s.releaseLane l
  else if (s.entry l).waiting = some i then s.modEntry l fun e => { e with waiting := none }
  else s

/-- R20, stage 3: the lane is released. -/
def State.releaseForClose (s : State) (i : SessionId) (x : Session) : State :=
  match x.mode with
  | .single => if s.holdsLane i x.lane then s.closeLaneEntry x.lane else s
  | .pairPlay _ =>
    let s' := s.leaveSlots i x.lane
    match s'.partner i (pairOf x.lane) with
    | some _ => s'
    | none =>
      (s'.closeLaneEntry (laneAt (pairOf x.lane) .left)).closeLaneEntry
        (laneAt (pairOf x.lane) .right)

/-- R20: the close sequence: billing close, lane memory, release, freeing. -/
def State.runClose (s : State) (i : SessionId) : State :=
  match s.session i with
  | none => s
  | some x =>
    let s' := (s.billingClose i).modEntry (memoryLane x) fun e => { e with memory := some x.terms }
    ((s'.releaseForClose i x).setSession i none).raiseSessionClosed i x.lane

/-- R20: the case in which a CLOSING session's close sequence runs: its lane is quiet, or it is a
pair-play session that holds no lane. -/
def State.closeReady (s : State) (i : SessionId) (x : Session) : Bool :=
  x.state == .closing &&
    (if s.holdsLane i x.lane then s.quiet x.lane else x.mode != .single)

/-- R18, R20: the close sequence of a session runs if its case holds. -/
def State.tryClose (s : State) (i : SessionId) : State :=
  match s.session i with
  | none => s
  | some x => if s.closeReady i x then s.runClose i else s

/-! ## Exhaustion (R9) -/

/-- R9: the Score Engine reports that a session is exhausted. -/
def State.exhaust (s : State) (i : SessionId) : State :=
  match s.session i with
  | none => s
  | some x =>
    match x.mode, x.state with
    | .single, .opened =>
      ((s.modSession i fun y => { y with state := .exhausted }).raiseSessionState i none).sessionEnds
        x.lane
    | .single, .moving =>
      (((s.modSession i fun y => { y with state := .exhausted }).cancelMove
        x.lane).raiseSessionState i none).sessionEnds x.lane
    | .pairPlay _, .opened =>
      let s' := (s.modSession i fun y => { y with state := .exhausted }).raiseSessionState i none
      ((s'.becomeClosing i).leaveSlots i x.lane).runClose i
    | _, _ => s

/-! ## Moves (R23) -/

/-- R23, stage 5: the resume choice a move gives the Score Engine. -/
def moveChoice (m : MoveResume) (t : Terms) : Resume :=
  match m with
  | .clamp => .clamp
  | .replay => .replay
  | .sessionDefault => t.resume

/-- R23: the stages of a completed move of session `i` from lane `l`. -/
def State.runMove (s : State) (l : LaneId) (i : SessionId) (x : Session) (m : MovePending) : State :=
  let s1 := (s.appendOpenLine l).discardOwed l
  let s2 := (s1.modEntry l fun e => { e with movePending := none }).closeLaneEntry l
  let s3 := (s2.modSession i fun y => { y with lane := m.target, state := .opened }).modEntry
    m.target fun e => { e with state := .opened, holder := some i }
  let s4 := ((s3.moveCredit i m.target).raiseSessionState i (some l)).decideLift (pairOf m.target)
  (s4.holderArrives m.target).resumeInstruction i (moveChoice m.resume x.terms)

/-- R23: a pending move completes when its source lane is quiet. -/
def State.tryMove (s : State) (l : LaneId) : State :=
  match s.holder l, (s.entry l).movePending with
  | some (i, x), some m => if x.state = .moving ∧ s.quiet l then s.runMove l i x m else s
  | _, _ => s

/-- R18: the Session Store tests a lane for a waiting close or move. -/
def State.settleLane (s : State) (l : LaneId) : State :=
  match (s.entry l).holder with
  | none => s
  | some i => (s.tryClose i).tryMove l

/-- R18: both lanes of a pair are tested. -/
def State.settlePair (s : State) (p : PairId) : State :=
  (s.settleLane (laneAt p .left)).settleLane (laneAt p .right)

end Sys2Proof.Machine
end

