-- ==== Sys2Proof/Machine/FaultSet.lean ====
section
/-! DEFINITION. The Fault Unit's fault sets (sections 6.3 to 6.5): the removal of an entry with what
follows from a fall of the effective action, the end of a condition, and FAULT_CLEARED. What a raise
brings about stands in `Machine/Faults.lean`. -/

namespace Sys2Proof.Machine

open Sys2Proof

/-! ## Scopes and entries -/

/-- R105: the scope of a class: RETURN_JAM is raised into the pair's set, every other class into a
lane's set. -/
def pairScope : FaultClass → Bool
  | .returnJam => true
  | .machineJam | .deckFault | .pinSupplyLow | .motorOverload | .stepOverdue | .cycleMismatch
  | .sequenceFault | .startFailed | .readingOverdue | .machineNodeLost | .sensorNodeLost
  | .commandLost | .detectorBlocked | .parkFailed => false

/-- The entry of a class in a fault set. -/
def findFault (c : FaultClass) (fs : List FaultEntry) : Option FaultEntry :=
  fs.find? fun f => f.cls == c

/-- A fault set without a class. -/
def removeFault (c : FaultClass) (fs : List FaultEntry) : List FaultEntry :=
  fs.filter fun f => f.cls != c

/-! ## Telling the lanes -/

/-- R111, R112: what a fall, or no change, of the effective action brings about on a lane: an owed
cycle is run once the action is below HOLD, the arming check is made, and the credit state is told.
While the machine is MANUAL no action is carried out (section 5.8). -/
def State.tellFall (s : State) (l : LaneId) : State :=
  ((s.runOwed l).armingCheck l).tellCredit l

/-- FAULT_CLEARED for a class of a lane's set (R120). -/
def State.raiseLaneCleared (s : State) (l : LaneId) (c : FaultClass) (cause : ClearCause) : State :=
  s.raise (laneSource l) (.faultCleared { cls := c, cause := cause, lanes := [s.laneFaults l] })

/-- FAULT_CLEARED for a class of a pair's set (R120). -/
def State.raisePairCleared (s : State) (p : PairId) (c : FaultClass) (cause : ClearCause) : State :=
  s.raise (pairSource p) (.faultCleared
    { cls := c, cause := cause
      lanes := [s.laneFaults (laneAt p .left), s.laneFaults (laneAt p .right)] })

/-- An entry of a lane's set is removed (R114, R117, R120). Nothing changes where the class is not in
the set. -/
def State.removeLaneFault (s : State) (l : LaneId) (c : FaultClass) (cause : ClearCause) : State :=
  match findFault c (s.lane l).faults with
  | none => s
  | some _ =>
    ((s.setLaneFaults l (removeFault c (s.lane l).faults)).raiseLaneCleared l c cause).tellFall l

/-- An entry of a pair's set is removed, and so from both lanes (R110, R117). -/
def State.removePairFault (s : State) (p : PairId) (c : FaultClass) (cause : ClearCause) : State :=
  match findFault c (s.pair p).faults with
  | none => s
  | some _ =>
    (((s.setPairFaults p (removeFault c (s.pair p).faults)).raisePairCleared p c cause).tellFall
      (laneAt p .left)).tellFall (laneAt p .right)

/-! ## The end of a condition (R114) -/

/-- R114: an entry recorded with STOP or PARK latches when its condition ends. -/
def latch (c : FaultClass) (f : FaultEntry) : FaultEntry :=
  if f.cls = c then { f with present := false, latched := true } else f

/-- R114: the entry's action keeps it in the set when its condition ends. -/
def latches (a : Action) : Bool :=
  match a with
  | .none | .hold => false
  | .stop | .park | .outOfService => true

/-- R113, R114: the condition of a self-clearing class of a lane's set has ended. -/
def State.laneConditionEnds (s : State) (l : LaneId) (c : FaultClass) : State :=
  match findFault c (s.lane l).faults with
  | none => s
  | some f =>
    if latches f.action then s.setLaneFaults l ((s.lane l).faults.map (latch c))
    else s.removeLaneFault l c .conditionEnded

/-- R113, R114: the condition of a self-clearing class of a pair's set has ended. -/
def State.pairConditionEnds (s : State) (p : PairId) (c : FaultClass) : State :=
  match findFault c (s.pair p).faults with
  | none => s
  | some f =>
    if latches f.action then s.setPairFaults p ((s.pair p).faults.map (latch c))
    else s.removePairFault p c .conditionEnded

/-- R113: the node-lost condition of a lane's sensors: its reader or the lane I/O node is LOST. -/
def State.sensorLost (s : State) (l : LaneId) : Bool :=
  (s.reader l).state == .lost || (s.node (pairOf l) laneIoAddr).state == .lost

/-- R167: the SENSOR_NODE_LOST condition of a lane ends when neither node is still LOST. -/
def State.sensorConditionEnds (s : State) (l : LaneId) : State :=
  if s.sensorLost l then s else s.laneConditionEnds l .sensorNodeLost

end Sys2Proof.Machine
end

