-- ==== Sys2Proof/Machine/Apply.lean ====
section
/-! DEFINITION. The Score Engine's operations that reach other blocks: applying a ball result in the
eight stages of R27, holding and releasing a result, withdrawals (R42), and the drop of an overdue
ball by a close (R19). -/

namespace Sys2Proof.Machine

open Sys2Proof

/-! ## The turn -/

/-- R37, R41: what a passed turn sets off: exhaustion, or the report of the completed session frame
to the Turn Arbiter. -/
def State.turnEffects (s : State) (i : SessionId) (o : TurnOutcome) : State :=
  if o.exhausted then s.exhaust i
  else if o.frameDone then s.frameCompleted i
  else s

/-- R37: the turn passes from a slot. The arming check of the session's lane follows (R91). -/
def State.passTurnFrom (s : State) (i : SessionId) (slot : Nat) : State :=
  match s.session i with
  | none => s
  | some x =>
    let o := passTurn x slot
    ((s.setSession i (some o.session)).armingCheck x.lane).turnEffects i o

/-- R42: a bowler's withdrawal takes effect on the records; a game that had begun raises GAME_DONE. -/
def State.withdrawalEffect (s : State) (i : SessionId) (slot : Nat) : State :=
  match s.session i with
  | none => s
  | some x =>
    let s' := s.setSession i (some (modBowler withdrawBowlerRecord slot x))
    if gameStatus x slot = some .inProgress then s'.raiseGameDone i slot else s'

/-! ## Applying a ball result (R27) -/

/-- R44: the ball triggers the game charge: the first ball of frame 1 under GAME billing, in a game
not yet charged. -/
def chargeDue (x : Session) (g : Game) (frame : Nat) : Bool :=
  x.terms.billing == .game && frame == 1 && (frameBalls g 1).isEmpty && !g.charged

/-- R27, stages 1 to 4, with the game charged mark of R44: the records after a ball is recorded. -/
def ballRecords (x : Session) (b : Bowler) (r : BallResult) : Session :=
  let n := x.nextBall
  let g := recordBall n.frame (ballRecord n r) b.game
  { modGame (fun _ => { g with charged := g.charged || chargeDue x b.game n.frame }) n.slot x with
    nextBall := nextBallAfter n.slot n.frame (frameBalls g n.frame)
    held := none }

/-- R27, stage 7, first part: a completed frame 10 ends the game (R39), and a pending withdrawal
takes effect (R17, R42). -/
def State.ballEnds (s : State) (i : SessionId) (b : Bowler) (n : NextBall) (complete : Bool) :
    State :=
  let s' :=
    if complete ∧ n.frame = 10 then
      (s.modSession i (modBowler completeGame n.slot)).raiseGameDone i n.slot
    else s
  if b.withdrawalPending then s'.withdrawalEffect i n.slot else s'

/-- R27, stage 8: the cycle need of a ball, from the session as it stands after the turn. A ball that
passes the turn, complete or by a withdrawal, needs FULL also where no next turn has rewritten the
next-ball record; so does that of a pair-play session that has closed (R36). -/
def State.needAfter (s : State) (i : SessionId) (n : NextBall) (passes : Bool) : Need :=
  match s.session i with
  | none => .full
  | some y => if passes then fullNeed y else needOf y n.slot n.frame

/-- R27: a ball result is applied to the session that holds a lane. -/
def State.applyResult (s : State) (l : LaneId) (i : SessionId) (r : BallResult) : State :=
  match s.session i with
  | none => s
  | some x =>
    let n := x.nextBall
    match bowlerAt x n.slot with
    | none => s
    | some b =>
      let y := ballRecords x b r
      let g := ((bowlerAt y n.slot).map (·.game)).getD b.game
      let complete := decide (progress n.frame (frameBalls g n.frame) = .complete)
      let s1 := s.setSession i (some y)
      let s2 := if chargeDue x b.game n.frame then s1.chargeGame l i n.slot g.number else s1
      let s3 := s2.raiseBallScored l i y g n.slot n.frame n.index (.ball (ballRecord n r))
        (newlyScored b.game g)
      let s4 := s3.ballEnds i b n complete
      let passes := complete || b.withdrawalPending
      let s5 := if passes then (s4.frameEnded i).passTurnFrom i n.slot else s4
      (s5.takeNeed l (s5.needAfter i n passes)).applyPending i

/-- R27: a ball result handed to the Score Engine is applied at once, or held while a sequence is in
progress on the lane. -/
def State.handResult (s : State) (l : LaneId) (r : BallResult) : State :=
  match (s.entry l).holder with
  | none => s.needTaken l
  | some i =>
    if s.sequencing l then s.modSession i fun x => { x with held := some r }
    else s.applyResult l i r

/-- R27: the held result of a lane's holder is applied. -/
def State.applyHeld (s : State) (l : LaneId) : State :=
  match s.holder l with
  | none => s
  | some (i, x) =>
    match x.held with
    | none => s
    | some r => s.applyResult l i r

/-- R27: a held result is applied once no sequence is in progress. -/
def State.releaseHeld (s : State) (l : LaneId) : State :=
  if s.sequencing l then s else s.applyHeld l

/-- R42: a need deferred to the end of a sequence is handed. -/
def State.handDeferred (s : State) (l : LaneId) : State :=
  match (s.supervisor l).deferredNeed with
  | none => s
  | some n => (s.modSupervisor l fun v => { v with deferredNeed := none }).takeNeed l n

/-- R42: a deferred need is handed when no sequence is in progress. -/
def State.releaseDeferred (s : State) (l : LaneId) : State :=
  if s.sequencing l then s else s.handDeferred l

/-- R87, step 2: the Score Engine is told that no sequence is in progress on the lane. -/
def State.released (s : State) (l : LaneId) : State := (s.releaseHeld l).releaseDeferred l

/-! ## Withdrawals outside the application of a ball (R42) -/

/-- R42: the need that a passed turn leaves on the lane the session held, where its next-ball record
faced LEAVE before the turn passed (log entry 17). Whether it is FULL or FULL-then-park is decided by
the session's state at the withdrawal, although the need may be handed later (log entry 52). -/
def State.withdrawalNeed (s : State) (i : SessionId) (l : LaneId) : State :=
  match s.session i with
  | none => s.handNeed l .full
  | some y => s.handNeed l (fullNeed y)

/-- R17, R42: a withdrawal takes effect outside the application of a ball result. -/
def State.withdrawNow (s : State) (i : SessionId) (slot : Nat) : State :=
  match s.session i with
  | none => s
  | some x =>
    let s1 := s.withdrawalEffect i slot
    if x.slot = some slot then
      let s2 := (s1.frameEnded i).passTurnFrom i slot
      if x.nextBall.faced = .leave ∧ s.holdsLane i x.lane then s2.withdrawalNeed i x.lane else s2
    else s1

/-! ## The ball dropped by a close (R19) -/

/-- R19, R79: the tracker of a dropped ball. -/
def dropBall (t : Tracker) : Tracker :=
  { t with
    play := .notArmed, ball := none, settleTimer := none, retryTimer := none
    deadlineTimer := none, readWaiting := false }

/-- R19: a withdrawal pending for a bowler of a closing session takes effect with the dropped ball. -/
def State.dropWithdrawal (s : State) (i : SessionId) (x : Session) : State :=
  match x.slot with
  | none => s
  | some k =>
    if (bowlerAt x k).any (·.withdrawalPending) then s.withdrawNow i k else s

/-- R19, R59: the ball awaiting entry on the lane of a closing session is dropped. -/
def State.dropOverdue (s : State) (i : SessionId) : State :=
  match s.session i with
  | none => s
  | some x =>
    if s.holdsLane i x.lane ∧ (s.tracker x.lane).play = .awaitingEntry then
      let s' := (((s.modTracker x.lane dropBall).modSession i fun y =>
        { y with pendingResume := none }).removeLaneFault x.lane .readingOverdue .close)
      s'.dropWithdrawal i x
    else s

end Sys2Proof.Machine
end

