-- ==== Sys2Proof/Machine/SequenceEnd.lean ====
section
/-! DEFINITION. How a sequence runs on and ends (sections 5.4 and 5.5): acknowledgments, step watches,
the end by SEQUENCE_DONE with what R87 reports in order, and HALT or PARK carried out for a desk
request or a rise of the effective action. -/

namespace Sys2Proof.Machine

open Sys2Proof

/-! ## The end of a sequence (R87) -/

/-- R87, step 3: a START that carried a restart mark sends its resume instruction (R59). -/
def State.sendResume (s : State) (l : LaneId) (r : CycleRecord) : State :=
  match r.kind, r.restart, s.holder l with
  | .start, some m, some (i, x) => s.resumeInstruction i (m.resume.getD x.terms.resume)
  | _, _, _ => s

/-- R87, step 4: with the machine at rest, an owed cycle is run (R93), the arming check is made, and
the follow-on is considered (R96, R97, R118). -/
def State.considerFollowOn (s : State) (l : LaneId) : State :=
  ((((s.runOwed l).armingCheck l).followPark l).followStart l)

/-- R87: the records of a sequence that ends by SEQUENCE_DONE. The superseded number becomes absent
(R85). -/
def doneSupervisor (k : Sequence) (v : Supervisor) : Supervisor :=
  { v with machine := endState k, record := none, superseded := none }

/-- R87: a sequence ends by its SEQUENCE_DONE. -/
def State.sequenceDone (s : State) (l : LaneId) (r : CycleRecord) : State :=
  let s1 := ((s.modSupervisor l (doneSupervisor r.kind)).endStepConditions l).raiseMachineState l
  let s2 := ((s1.laneChanged l).released l).sendResume l r
  s2.considerFollowOn l

/-- R87: a sequence has ended otherwise: where none is in progress, a held result is applied and a
deferred need taken; the arming check follows, and a follow-on of PARK is carried out where the machine
is at rest (R97). -/
def State.sequenceReleased (s : State) (l : LaneId) : State :=
  if s.sequencing l then s else ((s.released l).armingCheck l).followPark l

/-- R87, R88: a sequence has ended, superseded or with its CYCLE dropped, and a HALT or a PARK has begun
in its stead. The end is reported: a held result is applied and a deferred need handed, which meet the
machine state that the new sequence gives, HALTED or PARKING (log entry 18); the arming check follows,
and a follow-on waits for the new sequence. -/
def State.supersededReleases (s : State) (l : LaneId) : State :=
  (((s.applyHeld l).handDeferred l).armingCheck l).followPark l

/-- R85, R87: what the placing of a HALT or a PARK reports of the sequence that was in progress before
it: the end of one superseded by a new sequence, which has moved the cycle number on (R82); the end of
one that an owed command leaves without successor (R115); and nothing of one that goes on, or where none
was in progress. -/
def State.stopReleases (s : State) (l : LaneId) (before : Supervisor) : State :=
  match before.record, (s.supervisor l).record with
  | _, none => s.sequenceReleased l
  | none, some _ => s
  | some _, some _ => if (s.supervisor l).cycle = before.cycle then s else s.supersededReleases l

/-! ## HALT and PARK (R94, R95) -/

/-- R94, R87: a HALT as a rise to STOP places it, with the end of the sequence it supersedes. -/
def State.halt (s : State) (l : LaneId) : State :=
  (s.stopRise l).stopReleases l (s.supervisor l)

/-- R95, R87: a PARK as a rise to PARK places it, with the end of the sequence it supersedes. -/
def State.park (s : State) (l : LaneId) : State :=
  (s.parkRise l).stopReleases l (s.supervisor l)

/-! ## Acknowledgment and steps (R84, R85) -/

/-- R84: the watch of a step started now. -/
def State.startWatch (s : State) (l : LaneId) (k : Step) : Option Nat :=
  some (s.deviceTime + stepTime (s.profileOf l) k)

/-- R84: the record acknowledged, with the watch of the step it awaits started. -/
def State.ackRecord (s : State) (l : LaneId) (r : CycleRecord) : CycleRecord :=
  match r.expected with
  | .step k _ => { r with acknowledged := true, watch := s.startWatch l k }
  | .sequenceDone => { r with acknowledged := true }

/-- R84: a command has been acknowledged: it starts the first step's watch only for the command of
the current record, not yet acknowledged. -/
def State.acknowledge (s : State) (l : LaneId) (c : Command) : State :=
  match (s.supervisor l).record with
  | none => s
  | some r =>
    if sequenceCommand r.kind r.number = c ∧ r.acknowledged = false then
      s.modSupervisor l fun v => { v with record := some (s.ackRecord l r) }
    else s

/-- R84: a report with the record's number, taken before any ACK, counts as the acknowledgment; the
command still in the slot is removed from it. -/
def State.reportAcknowledges (s : State) (l : LaneId) (r : CycleRecord) : State :=
  if r.acknowledged then s
  else
    let c := sequenceCommand r.kind r.number
    let s' := s.acknowledge l c
    if (s.pinsetter l).slot.any fun e => e.command == c then
      s'.clearSlot (pairOf l) (pinsetterAddr (sideOf l))
    else s'

/-- R85, row 5: the record after its expected step is complete. -/
def State.stepRecord (s : State) (l : LaneId) (later : List Step) (r : CycleRecord) : CycleRecord :=
  match later with
  | [] => { r with expected := .sequenceDone }
  | k :: ks => { r with expected := .step k ks, watch := s.startWatch l k }

/-- R85, row 5: the expected step is complete. Where that starts the next step's watch, the sequence is
watched again, and a condition of STEP_OVERDUE or START_FAILED ends (R113). -/
def State.completeStep (s : State) (l : LaneId) (later : List Step) : State :=
  let s' := s.modSupervisor l fun v => { v with record := v.record.map (s.stepRecord l later) }
  match later with
  | [] => s'
  | _ :: _ => s'.endStepConditions l

end Sys2Proof.Machine
end

