-- ==== Sys2Proof/Machine/Faults.lean ====
section
/-! DEFINITION. The Fault Unit's raises (R109 to R112, R119) with what a rise of the effective action
brings about (R94, R95), and the failures of a sequence: a park that fails (R86) and a command that is
lost (R88). -/

namespace Sys2Proof.Machine

open Sys2Proof

/-! ## Raising a class -/

/-- R109: the entry a raise creates. A class without a lasting condition has its condition ended at
once (R113). -/
def newFault (a : FaultAction) (c : FaultClass) (now : Nat) : FaultEntry where
  cls := c
  action := a.action
  credit := a.credit
  present := lastingCondition c
  latched := false
  raises := 1
  firstRaised := now
  lastRaised := now

/-- R109: a raise refreshes the entry of its class. -/
def refreshFault (c : FaultClass) (now : Nat) (f : FaultEntry) : FaultEntry :=
  if f.cls = c then
    { f with
      raises := satAdd 255 f.raises 1, lastRaised := now, present := lastingCondition c
      latched := false }
  else f

/-- R109: a fault set after a raise. -/
def raiseInto (a : FaultAction) (c : FaultClass) (now : Nat) (fs : List FaultEntry) :
    List FaultEntry :=
  if (findFault c fs).isSome then fs.map (refreshFault c now) else fs ++ [newFault a c now]

/-- R119: the payload of FAULT_RAISED, from the set the class was raised into. -/
def State.faultRaised (s : State) (c : FaultClass) (created : Bool) (set : List FaultEntry)
    (lanes : List LaneId) : NoticePayload :=
  let e := findFault c set
  .faultRaised
    { cls := c, created := created
      action := (e.map (·.action)).getD .none
      credit := (e.map (·.credit)).getD false
      raises := (e.map (·.raises)).getD 0
      lanes := lanes.map s.laneFaults
      machines := lanes.map fun l => (s.supervisor l).machine }

/-- R111: a rise of the effective action is carried out, unless the machine is MANUAL. -/
def State.carryRise (s : State) (l : LaneId) (before : Action) : State :=
  if (s.supervisor l).machine = .manual ∨ severity (s.effective l) ≤ severity before then s
  else
    match s.effective l with
    | .none | .hold => s
    | .stop => (s.clearRestart l).halt l
    | .park => (s.clearRestart l).park l
    | .outOfService => s.clearRestart l

/-- R111, R112: a raise is told to a lane: the rise is carried out, the credit state told, and the
arming check made. -/
def State.tellRise (s : State) (l : LaneId) (before : Action) : State :=
  ((s.tellCredit l).carryRise l before).armingCheck l

/-- R109, R119: a class is raised into a lane's set. -/
def State.raiseLane (s : State) (l : LaneId) (c : FaultClass) : State :=
  let a := s.faultTable[faultIndex c]
  let fs := raiseInto a c s.deviceTime (s.lane l).faults
  let created := (findFault c (s.lane l).faults).isNone
  let s1 := s.setLaneFaults l fs
  let s2 := s1.raiseWith (laneSource l) (s1.faultRaised c created fs [l]) a.priority
  s2.tellRise l (s.effective l)

/-- R109, R110, R119: a class of pair scope is raised into a pair's set, and acts on both lanes. -/
def State.raisePair (s : State) (p : PairId) (c : FaultClass) : State :=
  let a := s.faultTable[faultIndex c]
  let fs := raiseInto a c s.deviceTime (s.pair p).faults
  let created := (findFault c (s.pair p).faults).isNone
  let s1 := s.setPairFaults p fs
  let s2 := s1.raiseWith (pairSource p)
    (s1.faultRaised c created fs [laneAt p .left, laneAt p .right]) a.priority
  (s2.tellRise (laneAt p .left) (s.effective (laneAt p .left))).tellRise (laneAt p .right)
    (s.effective (laneAt p .right))

/-! ## Failures of a sequence -/

/-- R86, R116: a park step's watch has expired: the sequence ends unfinished, the machine becomes
OUT_OF_SERVICE, a follow-on of START is cleared, and PARK_FAILED is raised: its FAULT_RAISED tells
the machine state OUT_OF_SERVICE (log entry 15). -/
def State.parkFails (s : State) (l : LaneId) : State :=
  let s1 := (s.endUnfinished l).modSupervisor l fun v => { v with machine := .outOfService }
  let s2 := ((s1.clearStart l).raiseMachineState l).laneChanged l
  (s2.raiseLane l .parkFailed).sequenceReleased l

/-- R86: the expiry of a watch stops it and raises the class of the sequence. -/
def State.watchExpires (s : State) (l : LaneId) (r : CycleRecord) : State :=
  let s1 := s.modSupervisor l fun v => { v with record := v.record.map fun c => { c with watch := none } }
  match r.kind with
  | .start => s1.raiseLane l .startFailed
  | .firstCycle | .fullCycle | .reRack | .halt => s1.raiseLane l .stepOverdue
  | .park => s1.parkFails l

/-- R86: the watch of a lane is examined. -/
def State.examineWatch (s : State) (l : LaneId) : State :=
  match (s.supervisor l).record with
  | none => s
  | some r =>
    match r.watch with
    | none => s
    | some d => if d ≤ s.deviceTime then s.watchExpires l r else s

/-- R88: the sequence of a dropped command ends unfinished, where it is still the one in progress. -/
def State.endDropped (s : State) (l : LaneId) (c : Command) : State :=
  match (s.supervisor l).record with
  | none => s
  | some r => if sequenceCommand r.kind r.number = c then s.endUnfinished l else s

/-- R88: a CYCLE was dropped: its sequence ends unfinished, a HALT is begun, what the ended sequence
held meets the HALTED machine, and COMMAND_LOST is raised. -/
def State.cycleLost (s : State) (l : LaneId) (c : Command) : State :=
  let s1 := ((s.clearRestart l).endDropped l c).placeStop l .halt
  (s1.supersededReleases l).raiseLane l .commandLost

/-- R88, R115: a HALT or a PARK was dropped: it becomes the owed command of the node, and
COMMAND_LOST is raised. A follow-on of START is cleared, because the sequence it waited for has not
ended by SEQUENCE_DONE (R96, R118). -/
def State.stopLost (s : State) (l : LaneId) (k : StopKind) (c : Command) : State :=
  let s1 := ((s.clearStart l).endDropped l c).oweStop l k
  (s1.sequenceReleased l).raiseLane l .commandLost

end Sys2Proof.Machine
end

