-- ==== Sys2Proof/Machine/Returns.lean ====
section
/-! DEFINITION. The Return Supervisor (chapter 7): balls entering and leaving the track, the rack
level, the jam watch's expiry, and the trimming of the list. -/

namespace Sys2Proof.Machine

open Sys2Proof

/-- R130: at capacity worked out afresh from the list and the capacity. -/
def withCapacity (r : BallReturn) : BallReturn :=
  { r with atCapacity := decide (r.capacity ≤ r.track.length) }

/-- R133: the items whose change raises RETURN_STATE, other than lift and rack. -/
def returnFlags (r : BallReturn) : Bool × Bool × Bool := (r.watchExpired, r.overflow, r.atCapacity)

/-- R133: RETURN_STATE is raised where a flag of a return has changed. -/
def State.tellFlags (s : State) (p : PairId) (before : BallReturn) : State :=
  if returnFlags before = returnFlags (s.ballReturn p) then s else s.raiseReturnState p

/-- R130, R133: after a change of a return, RETURN_STATE is raised where a flag has changed, and both
lanes' arming checks are made. -/
def State.returnChanged (s : State) (p : PairId) (before : BallReturn) : State :=
  (s.tellFlags p before).armPair p

/-- R129: the jam condition of a pair has been worked out afresh; its end is told to the Fault
Unit. -/
def State.jamEnds (s : State) (p : PairId) (before : BallReturn) : State :=
  if jamCondition before ∧ ¬ jamCondition (s.ballReturn p) then s.pairConditionEnds p .returnJam
  else s

/-- R124: an entry appended to the track list. -/
def appendEntry (l : LaneId) (now : Nat) (r : BallReturn) : BallReturn :=
  withCapacity { r with track := r.track ++ [⟨l, now⟩] }

/-- R124: a pit passage that finds the list full. -/
def overflowTrack (r : BallReturn) : BallReturn :=
  { r with overflow := true, overflows := bump r.overflows }

/-- R124: a pit passage of a lane enters the track of its pair. -/
def State.trackAppend (s : State) (l : LaneId) : State :=
  let p := pairOf l
  let before := s.ballReturn p
  if before.track.length < trackCapacity then
    ((s.modReturn p (appendEntry l s.deviceTime)).decideWatch p false).returnChanged p before
  else
    ((s.modReturn p overflowTrack).raisePair p .returnJam).returnChanged p before

/-- R125: the oldest entry removed, with the flags cleared. -/
def removeOldest (r : BallReturn) : BallReturn :=
  withCapacity { r with track := r.track.drop 1, watchExpired := false, overflow := false }

/-- R125: the removal of the oldest entry: the jam watch is decided, both lanes' arming checks are made,
and the end of the jam condition is told. `tell`: RETURN_STATE is raised where a flag has changed (R133);
a request that removes several raises it once, for all of them (R132). -/
def State.removeEntry (s : State) (p : PairId) (tell : Bool) : State :=
  let before := s.ballReturn p
  let s' := (s.modReturn p removeOldest).decideWatch p true
  ((if tell then s'.tellFlags p before else s').armPair p).jamEnds p before

/-- R132: the removal of the oldest entries, one after another. -/
def State.removeEntries (s : State) (p : PairId) : Nat → State
  | 0 => s
  | n + 1 => (s.removeEntry p false).removeEntries p n

/-- R125: a LIFT passage. -/
def State.liftPassage (s : State) (p : PairId) : State :=
  if (s.ballReturn p).track.isEmpty then
    s.modReturn p fun r => { r with phantoms := bump r.phantoms }
  else s.removeEntry p true

/-- R126: a rack level handed on by the Detector Filter. -/
def State.rackLevel (s : State) (p : PairId) (full : Bool) : State :=
  if (s.ballReturn p).rackFull = full then s
  else
    (((s.modReturn p fun r => { r with rackFull := full }).raiseReturnState p).decideLift
      p).decideWatch p false

/-- R129: the fields of a return whose jam watch has expired. -/
def expireWatch (r : BallReturn) : BallReturn :=
  { r with watchExpired := true, watch := .stopped, expiries := bump r.expiries }

/-- R129: a RUNNING jam watch reaches its deadline. -/
def State.jamExpires (s : State) (p : PairId) : State :=
  ((s.modReturn p expireWatch).raisePair p .returnJam).raiseReturnState p

/-- R132: the oldest entries trimmed, as many as the count or as the list holds; RETURN_STATE is raised
once where anything was removed (log entry 16). -/
def State.trim (s : State) (p : PairId) (count : Nat) : State :=
  let n := min count (s.ballReturn p).track.length
  if n = 0 then s else (s.removeEntries p n).raiseReturnState p

/-- R181, R122: a return after a device reset, but for what R127 decides afresh. -/
def resetReturn (r : BallReturn) : BallReturn :=
  { r with
    track := [], watch := pausedWatch r.watch, watchExpired := false, overflow := false
    atCapacity := false, phantoms := 0, overflows := 0, expiries := 0 }

end Sys2Proof.Machine
end

