-- ==== Sys2Proof/Machine/Tracker.lean ====
section
/-! DEFINITION. The Ball Tracker (section 4.3): foul and pit passages, stray balls, READ commands, the
judgement of readings, the reading deadline, and reader resynchronisation. -/

namespace Sys2Proof.Machine

open Sys2Proof

/-- R71: the expected stamp of a lane. -/
def expectedStamp (t : Tracker) : Stamp := t.pitCount.truncate 6

/-! ## Foul passages (R72) -/

/-- R72: foul detection acts on the lane: it has a holder whose foul detection is on. -/
def State.foulDetected (s : State) (l : LaneId) : Bool :=
  (s.holder l).any fun h => h.2.terms.foulDetection

/-- R72: a foul passage of a lane. -/
def State.foulPassage (s : State) (l : LaneId) (stamp : NodeTime) : State :=
  if (s.tracker l).play = .armed ∧ s.foulDetected l ∧ (s.entry l).state ≠ .manual ∧
      (s.entry l).state ≠ .disabled then
    s.modTracker l fun t => { t with foulPending := some stamp }
  else s.modTracker l fun t => { t with ignoredFouls := bump t.ignoredFouls }

/-! ## Pit passages (R73, R74) -/

/-- R73, step 3: the foul flag of a ball. -/
def isFoul (foul : Option NodeTime) (pit : NodeTime) : Bool :=
  match foul with
  | none => false
  | some t => decide ((pit - t).toNat ≤ foulWindow)

/-- R73: a ball in play begins. -/
def beginBall (stamp : NodeTime) (now settle : Nat) (t : Tracker) : Tracker :=
  { t with
    pitCount := t.pitCount + 1
    ball := some { stamp := stamp, taken := now, foul := isFoul t.foulPending stamp, reads := 0 }
    foulPending := none
    play := .settling
    settleTimer := some (now + settle) }

/-- R74: a stray ball, by the lane state. -/
def State.strayBall (s : State) (l : LaneId) (stamp : NodeTime) : State :=
  match (s.entry l).state with
  | .closed | .opened | .pairPlay =>
    let s' := s.modTracker l fun t => { t with pitCount := t.pitCount + 1, strays := bump t.strays }
    s'.raise (laneSource l) (.strayBall
      { lane := l, play := (s.tracker l).play, pitCount := (s'.tracker l).pitCount, stamp := stamp })
  | .manual | .disabled => s.modTracker l fun t => { t with pitCount := t.pitCount + 1 }

/-- R73, R74: a pit passage handed to the lane's tracker. -/
def State.pitPassage (s : State) (l : LaneId) (stamp : NodeTime) : State :=
  if (s.tracker l).play = .armed then
    s.modTracker l (beginBall stamp s.deviceTime (s.profileOf l).settle)
  else s.strayBall l stamp

/-! ## READ commands (R75) -/

/-- R75: one more READ counted on the ball in play. -/
def countRead (t : Tracker) : Tracker :=
  { t with
    readWaiting := false
    ball := t.ball.map fun b => { b with reads := b.reads + 1 } }

/-- R75: a READ with the current expected stamp is placed, or waits for the slot to empty. One READ at
most waits: a READ that falls due while another waits is that one, placed and counted once (DESIGN
CHOICE, log entry 64). -/
def State.placeRead (s : State) (l : LaneId) : State :=
  let c := Command.read (expectedStamp (s.tracker l))
  if slotTakes (s.reader l) c then
    (s.place (pairOf l) (readerAddr (sideOf l)) c).modTracker l countRead
  else s.modTracker l fun t => { t with readWaiting := true }

/-- R75: a READ that waited is placed once the slot has emptied. -/
def State.placeWaitingRead (s : State) (l : LaneId) : State :=
  if (s.tracker l).readWaiting ∧ (s.tracker l).play = .reading then s.placeRead l else s

/-- R75: settle expiry. -/
def State.settleExpires (s : State) (l : LaneId) : State :=
  (s.modTracker l fun t =>
    { t with
      play := .reading, settleTimer := none
      deadlineTimer := some (s.deviceTime + (s.profileOf l).readingDeadline) }).placeRead l

/-- R76: the retry timer started. -/
def State.startRetry (s : State) (l : LaneId) : State :=
  s.modTracker l fun t => { t with retryTimer := some (s.deviceTime + (s.profileOf l).retry) }

/-- R76: retry expiry. The timer stops, and in READING a new READ is placed. -/
def State.retryExpires (s : State) (l : LaneId) : State :=
  let s' := s.modTracker l fun t => { t with retryTimer := none }
  if (s.tracker l).play = .reading then s'.placeRead l else s'

/-- R76, R169: a READ was dropped after its third try, whatever the play state. -/
def State.readDropped (s : State) (l : LaneId) : State := s.startRetry l

/-- R78: reading deadline expiry in READING. -/
def State.deadlineExpires (s : State) (l : LaneId) : State :=
  (s.modTracker l fun t =>
    { t with
      play := .awaitingEntry, retryTimer := none, deadlineTimer := none
      readWaiting := false }).raiseLane l .readingOverdue

/-! ## Readings (R76, R77) -/

/-- The timers of a resolved ball are stopped (R77). A READ that still waits for the slot is dropped with
them (DEDUCED, log entry 64). -/
def resolveBall (t : Tracker) : Tracker :=
  { t with play := .resolved, retryTimer := none, deadlineTimer := none, readWaiting := false }

/-- R77: the reading carries an anomaly of its own. -/
def anomalous (rd : Reading) (before : PinSet) : Bool :=
  rd.poor || rd.standing &&& ~~~before != 0

/-- One more anomalous reading counted, and READING_ANOMALY raised (R76, R77). -/
def State.raiseAnomaly (s : State) (l : LaneId) (a : Anomaly) : State :=
  (s.modTracker l fun t => { t with anomalousReadings := bump t.anomalousReadings }).raise
    (laneSource l) (.readingAnomaly a)

/-- R77: the ball result of an accepted reading. -/
def readingResult (rd : Reading) (before : PinSet) (foul : Bool) : BallResult where
  after := rd.standing &&& before
  foul := foul
  source := if rd.poor then .readPoor else .readGood
  stamp := rd.stamp

/-- The foul flag the tracker holds for its ball. -/
def heldFoul (t : Tracker) : Bool := (t.ball.map (·.foul)).getD false

/-- R77: an accepted reading resolves the ball of the lane's holder. -/
def State.acceptReading (s : State) (l : LaneId) (x : Session) (rd : Reading) : State :=
  let before := x.nextBall.before
  let s1 :=
    if anomalous rd before then
      s.raiseAnomaly l
        { lane := l, skew := false, returned := rd.standing &&& ~~~before != 0, poor := rd.poor
          received := rd.stamp, expected := expectedStamp (s.tracker l)
          dropped := rd.standing &&& ~~~before, standing := rd.standing }
    else s
  (s1.modTracker l resolveBall).handResult l (readingResult rd before (heldFoul (s.tracker l)))

/-- R76, row 4: a skewed reading. -/
def State.skewReading (s : State) (l : LaneId) (rd : Reading) : State :=
  (s.raiseAnomaly l
    { lane := l, skew := true, returned := false, poor := false, received := rd.stamp
      expected := expectedStamp (s.tracker l), dropped := 0, standing := rd.standing }).startRetry l

/-- R76: a reading in READING is judged. A lane without a holder has no ball to resolve, and the
reading counts as late. -/
def State.judgeReading (s : State) (l : LaneId) (rd : Reading) : State :=
  let expected := expectedStamp (s.tracker l)
  let s' := s.modTracker l fun t => { t with retryTimer := none }
  if rd.stamp = expected then
    if rd.settled then
      match s.holder l with
      | some (_, x) => s'.acceptReading l x rd
      | none => s.modTracker l fun t => { t with lateReadings := bump t.lateReadings }
    else s'.startRetry l
  else if rd.stamp = expected - 1 then
    (s'.modTracker l fun t => { t with staleReadings := bump t.staleReadings }).startRetry l
  else s'.skewReading l rd

/-- R76: a reader answer that carries a reading is taken. -/
def State.takeReading (s : State) (l : LaneId) (rd : Reading) : State :=
  if (s.tracker l).play = .reading then s.judgeReading l rd
  else s.modTracker l fun t => { t with lateReadings := bump t.lateReadings }

/-! ## Resynchronisation (R80) -/

/-- R80: an accepted RESYNC_READER. The SET_COUNT carries the pit count of the moment of placing; where
the slot still holds the SET_COUNT of an earlier resync (kept over a device reset, R163), the tracker
keeps its own until the slot empties (R168). -/
def State.resync (s : State) (l : LaneId) : State :=
  let c := Command.setCount (expectedStamp (s.tracker l))
  if slotTakes (s.reader l) c then
    (s.place (pairOf l) (readerAddr (sideOf l)) c).modTracker l fun t => { t with resync := .sent }
  else s.modTracker l fun t => { t with resync := .sent, countWaiting := true }

/-- R80, R168: a SET_COUNT that waited is placed once the slot has emptied. -/
def State.placeWaitingCount (s : State) (l : LaneId) : State :=
  if (s.tracker l).countWaiting then
    (s.modTracker l fun t => { t with countWaiting := false }).resync l
  else s

/-- R80: a SET_COUNT was dropped after its third try. -/
def State.resyncLost (s : State) (l : LaneId) : State :=
  s.modTracker l fun t => { t with resync := .lost }

/-- R80: a SET_COUNT was discarded by a pair link restart or by loss of the reader, and with it one
that waited for the slot (log entry 50). -/
def State.resyncDiscarded (s : State) (l : LaneId) : State :=
  s.modTracker l fun t => { t with resync := .lost, countWaiting := false }

/-- R80: a SET_COUNT was acknowledged. -/
def State.resyncDone (s : State) (l : LaneId) : State :=
  s.modTracker l fun t => { t with resync := .done }

/-- R70: a tracker after a device reset: as at power-on, but for the pit count. -/
def resetTracker (t : Tracker) : Tracker := { Initial.tracker with pitCount := t.pitCount }

end Sys2Proof.Machine
end

