-- ==== Sys2Proof/Machine/Detectors.lean ====
section
/-! DEFINITION. The Detector Filter (sections 4.1 and 4.2): re-initialisation, edges, node now, blocked
detectors, and the order in which passages are handed on (R65 to R69). -/

namespace Sys2Proof.Machine

open Sys2Proof

/-! ## Detectors -/

/-- The six detectors, in the order of the level byte (section 11.7). -/
def detectors : List Detector := [.foulLeft, .pitLeft, .foulRight, .pitRight, .lift, .rack]

/-- The bit of a detector in the level byte (section 11.7). -/
def detectorBit : Detector → Nat
  | .foulLeft => 0
  | .pitLeft => 1
  | .foulRight => 2
  | .pitRight => 3
  | .lift => 4
  | .rack => 5

/-- The detector a number names. -/
def detectorOf? (n : Nat) : Option Detector := detectors[n]?

/-- R63: the debounce value of a detector. -/
def debounceOf (b : Debounce) : Detector → Nat
  | .foulLeft | .foulRight => b.foul
  | .pitLeft | .pitRight => b.pit
  | .lift => b.lift
  | .rack => b.rack

/-- R63: the blocked limit of a detector. -/
def blockedLimit : Detector → Option Nat
  | .foulLeft | .foulRight => some 10000
  | .pitLeft | .pitRight => some 2000
  | .lift => some 3000
  | .rack => none

/-- R68: the sides of the lanes a detector serves. -/
def serves : Detector → List Side
  | .foulLeft | .pitLeft => [.left]
  | .foulRight | .pitRight => [.right]
  | .lift => [.left, .right]
  | .rack => []

/-- What the filter holds for a detector. -/
def Filter.detector (f : Filter) : Detector → DetectorState
  | .foulLeft => f.foulLeft
  | .pitLeft => f.pitLeft
  | .foulRight => f.foulRight
  | .pitRight => f.pitRight
  | .lift => f.lift
  | .rack => f.rack

/-- The filter with what it holds for a detector replaced. -/
def Filter.setDetector (f : Filter) (d : Detector) (x : DetectorState) : Filter :=
  match d with
  | .foulLeft => { f with foulLeft := x }
  | .pitLeft => { f with pitLeft := x }
  | .foulRight => { f with foulRight := x }
  | .pitRight => { f with pitRight := x }
  | .lift => { f with lift := x }
  | .rack => { f with rack := x }

/-- R64: the raw level a filter state implies: true for dark. -/
def impliedDark : FilterState → Bool
  | .pressWait | .dark => true
  | .clear | .releaseWait => false

/-- R65: `t` has been reached from `e` by a length of time. -/
def reached (e t : NodeTime) (length : Nat) : Bool := decide (length ≤ (t - e).toNat)

/-- R68: the sides of a pair that a blocked detector serves. -/
def blockedOn (f : Filter) (d : Side) : Bool :=
  detectors.any fun k => (f.detector k).blocked && (serves k).contains d

/-! ## What taking an answer declares -/

/-- A passage or a re-arming of RACK, declared while an answer is taken (R69). -/
inductive Declaration where
  | passage (d : Detector) (stamp declared : NodeTime)
  | rackClear (stamp declared : NodeTime)
deriving DecidableEq, Repr

/-- A change of a blocked flag while an answer is taken: set, or cleared with the sides on which no
detector is then blocked (R68). -/
inductive BlockChange where
  | set (d : Detector)
  | cleared (d : Detector) (free : List Side)
deriving DecidableEq, Repr

/-- The filter in the midst of taking an answer: its records, the latest node time taken, and what it
has declared so far, oldest first. -/
structure Taking where
  filter : Filter
  latest : NodeTime
  declared : List Declaration
  blocks : List BlockChange
deriving DecidableEq, Repr

/-- The sides a detector serves on which no detector is blocked. -/
def freeSides (f : Filter) (d : Detector) : List Side := (serves d).filter fun k => !blockedOn f k

/-- R66, R68: a detector is set to a state that clears its blocked flag. -/
def clearBlocked (d : Detector) (x : DetectorState) (k : Taking) : Taking :=
  let f := k.filter.setDetector d { x with blocked := false }
  if (k.filter.detector d).blocked then
    { k with filter := f, blocks := k.blocks ++ [.cleared d (freeSides f d)] }
  else { k with filter := f }

/-- R68: the blocked test of a detector at a time. -/
def testBlocked (d : Detector) (t : NodeTime) (k : Taking) : Taking :=
  let x := k.filter.detector d
  match blockedLimit d with
  | none => k
  | some limit =>
    if x.state = .dark ∧ x.blocked = false ∧ limit < (t - x.darkSince).toNat then
      { k with
        filter := k.filter.setDetector d { x with blocked := true }
        blocks := k.blocks ++ [.set d] }
    else k

/-- R66: a wait reached by a time is settled. -/
def settleWait (d : Detector) (t : NodeTime) (k : Taking) : Taking :=
  let x := k.filter.detector d
  let b := debounceOf k.filter.debounce d
  match x.state with
  | .pressWait =>
    if reached x.darkEdge t b then
      { k with
        filter := k.filter.setDetector d { x with state := .dark, passages := bump x.passages }
        declared := k.declared ++
          [.passage d x.darkEdge (x.darkEdge + BitVec.ofNat 16 b)] }
    else k
  | .releaseWait =>
    if reached x.releaseEdge t b then
      let k' := clearBlocked d { x with state := .clear } k
      if d = .rack then
        { k' with declared := k'.declared ++
            [.rackClear x.releaseEdge (x.releaseEdge + BitVec.ofNat 16 b)] }
      else k'
    else k
  | .clear | .dark => k

/-- R66: an edge applied to the state of a detector whose wait has been settled. -/
def applyEdge (dark : Bool) (t : NodeTime) (x : DetectorState) : DetectorState :=
  match x.state, dark with
  | .clear, true => { x with state := .pressWait, darkEdge := t, darkSince := t }
  | .pressWait, false => { x with state := .clear, glitches := bump x.glitches }
  | .dark, false => { x with state := .releaseWait, releaseEdge := t }
  | .releaseWait, true => { x with state := .dark }
  | .clear, false | .pressWait, true | .dark, true | .releaseWait, false => x

/-- R66: an edge of a detector at a time: its wait settled, the blocked test made, the edge
applied. -/
def takeEdge (d : Detector) (dark : Bool) (t : NodeTime) (k : Taking) : Taking :=
  let k1 := testBlocked d t (settleWait d t k)
  let k2 := { k1 with filter := k1.filter.setDetector d (applyEdge dark t (k1.filter.detector d)) }
  testBlocked d t k2

/-- R66: `t` lies before the latest node time taken. -/
def liesBefore (latest t : NodeTime) : Bool :=
  decide (1 ≤ (latest - t).toNat ∧ (latest - t).toNat ≤ reinitGap)

/-- R66: one transition of an answer. A detector number that names none is passed over. A transition that
is discarded, as a repeated level too, does not become the latest node time taken (log entry 31). -/
def takeTransition (k : Taking) (x : Transition) : Taking :=
  match x.detector with
  | none => k
  | some d =>
    let o := k.filter.detector d
    if liesBefore k.latest x.time then
      { k with filter := { k.filter with discarded := bump k.filter.discarded } }
    else if impliedDark o.state = x.dark then
      { k with filter := k.filter.setDetector d { o with glitches := bump o.glitches } }
    else takeEdge d x.dark x.time { k with latest := x.time }

/-- The reported level of a detector (section 11.7): true for DARK. -/
def levelOf (levels : Byte) (d : Detector) : Bool := levels.getLsbD (detectorBit d)

/-- R67: node now applied to one detector. -/
def applyNodeNow (now : NodeTime) (levels : Byte) (k : Taking) (d : Detector) : Taking :=
  let k1 := testBlocked d now (settleWait d now k)
  if impliedDark (k1.filter.detector d).state = levelOf levels d then k1
  else
    takeEdge d (levelOf levels d) now
      { k1 with filter := { k1.filter with mismatches := bump k1.filter.mismatches } }

/-- R66, R67: an answer that does not re-initialise the filter. -/
def takeAnswerTimes (f : Filter) (now : NodeTime) (levels : Byte) (ts : List Transition) : Taking :=
  let k := detectors.foldl (applyNodeNow now levels)
    (ts.foldl takeTransition ⟨f, f.lastNodeTime, [], []⟩)
  { k with filter := { k.filter with lastNodeTime := now } }

/-! ## Re-initialisation (R65) -/

/-- R65: the answer re-initialises the filter. -/
def reinitialises (f : Filter) (now : NodeTime) : Bool :=
  !f.initialised || decide (reinitGap < (now - f.lastNodeTime).toNat)

/-- R65: one detector set from its reported level. -/
def reinitDetector (now : NodeTime) (levels : Byte) (k : Taking) (d : Detector) : Taking :=
  let x := k.filter.detector d
  if levelOf levels d then
    { k with filter := k.filter.setDetector d { x with state := .dark, darkSince := now } }
  else clearBlocked d { x with state := .clear } k

/-- R65: the filter re-initialised from an answer. -/
def reinitFilter (f : Filter) (now : NodeTime) (levels : Byte) (ts : List Transition) : Taking :=
  let k := detectors.foldl (reinitDetector now levels) ⟨f, now, [], []⟩
  { k with filter :=
    { k.filter with
      lastNodeTime := now, initialised := true, reinits := bump k.filter.reinits
      discarded := satAdd top16 k.filter.discarded ts.length } }

/-! ## Handing on (R69) -/

/-- A node time as an offset from the last node time, so that times of one answer compare across the
wrap. -/
def offsetFrom (last t : NodeTime) : Nat := (t - last + 0x8000#16).toNat

/-- R69: the key of a declaration: its declaration time, then its stamp, then a foul before anything else.
R69 says the last of the two passages of one lane only; that a foul of either lane goes before all that is
no foul is the model's choice (log entry 32). -/
def declarationKey (last : NodeTime) : Declaration → Nat × Nat × Nat
  | .passage d stamp declared => (offsetFrom last declared, offsetFrom last stamp,
      match d with
      | .foulLeft | .foulRight => 0
      | .pitLeft | .pitRight | .lift | .rack => 1)
  | .rackClear stamp declared => (offsetFrom last declared, offsetFrom last stamp, 1)

/-- R69: a key goes before another. -/
def keyBefore (a b : Nat × Nat × Nat) : Bool :=
  decide (a.1 < b.1) || (a.1 == b.1 && (decide (a.2.1 < b.2.1) ||
    (a.2.1 == b.2.1 && decide (a.2.2 < b.2.2))))

/-- R69: a declaration put in its place among those already in order. Those of equal key keep the order in
which the filter declared them (log entry 32). -/
def insertDeclaration (last : NodeTime) (x : Declaration) : List Declaration → List Declaration
  | [] => [x]
  | y :: ys =>
    if keyBefore (declarationKey last x) (declarationKey last y) then x :: y :: ys
    else y :: insertDeclaration last x ys

/-- R69: the declarations of an answer in the order in which they are handed on. -/
def inOrder (last : NodeTime) (xs : List Declaration) : List Declaration :=
  xs.foldl (fun ys x => insertDeclaration last x ys) []

/-- R69, R124: a pit passage goes to the lane's tracker, then to the pair's return. -/
def State.handPit (s : State) (l : LaneId) (stamp : NodeTime) : State :=
  (s.pitPassage l stamp).trackAppend l

/-- Section 4.1: a declaration is handed on to the blocks its detector serves. -/
def State.handOn (s : State) (p : PairId) (x : Declaration) : State :=
  match x with
  | .passage .foulLeft stamp _ => s.foulPassage (laneAt p .left) stamp
  | .passage .foulRight stamp _ => s.foulPassage (laneAt p .right) stamp
  | .passage .pitLeft stamp _ => s.handPit (laneAt p .left) stamp
  | .passage .pitRight stamp _ => s.handPit (laneAt p .right) stamp
  | .passage .lift _ _ => s.liftPassage p
  | .passage .rack _ _ => s.rackLevel p true
  | .rackClear _ _ => s.rackLevel p false

/-- R68: a change of a blocked flag is told to the Fault Unit for each lane it concerns. -/
def State.tellBlock (s : State) (p : PairId) (x : BlockChange) : State :=
  match x with
  | .set d => (serves d).foldl (fun t k => t.raiseLane (laneAt p k) .detectorBlocked) s
  | .cleared _ free =>
    free.foldl (fun t k => t.laneConditionEnds (laneAt p k) .detectorBlocked) s

/-- R65: the foul pending record of a lane is cleared. -/
def clearFoul (t : Tracker) : Tracker := { t with foulPending := none }

/-- R65: the answer of a lane I/O node re-initialises the filter of its pair. -/
def State.reinitAnswer (s : State) (p : PairId) (now : NodeTime) (levels : Byte)
    (ts : List Transition) : State :=
  let k := reinitFilter (s.filter p) now levels ts
  let s1 := s.modFilter p fun _ => k.filter
  let s2 := (s1.modTracker (laneAt p .left) clearFoul).modTracker (laneAt p .right) clearFoul
  k.blocks.foldl (fun t x => t.tellBlock p x) (s2.rackLevel p (levelOf levels .rack))

/-- R66 to R69: the answer of a lane I/O node is taken in order. -/
def State.orderedAnswer (s : State) (p : PairId) (now : NodeTime) (levels : Byte)
    (ts : List Transition) : State :=
  let last := (s.filter p).lastNodeTime
  let k := takeAnswerTimes (s.filter p) now levels ts
  let s1 := s.modFilter p fun _ => k.filter
  let s2 := (inOrder last k.declared).foldl (fun t x => t.handOn p x) s1
  k.blocks.foldl (fun t x => t.tellBlock p x) s2

/-- R65: the Detector Filter takes the contents of a lane I/O answer. -/
def State.filterAnswer (s : State) (p : PairId) (now : NodeTime) (levels : Byte)
    (ts : List Transition) : State :=
  if reinitialises (s.filter p) now then s.reinitAnswer p now levels ts
  else s.orderedAnswer p now levels ts

/-- R64: the filter becomes uninitialised. -/
def State.filterLost (s : State) (p : PairId) : State :=
  s.modFilter p fun f => { f with initialised := false }

/-- R64: a detector after a device reset. -/
def resetDetector (x : DetectorState) : DetectorState := { x with passages := 0, glitches := 0 }

/-- R64: the filter after a device reset: counters cleared, filter states kept. -/
def resetFilter (f : Filter) : Filter :=
  { f with
    foulLeft := resetDetector f.foulLeft, pitLeft := resetDetector f.pitLeft
    foulRight := resetDetector f.foulRight, pitRight := resetDetector f.pitRight
    lift := resetDetector f.lift, rack := resetDetector f.rack
    reinits := 0, mismatches := 0, discarded := 0 }

end Sys2Proof.Machine
end

