-- ==== Sys2Proof/Machine/Answers.lean ====
section
/-! DEFINITION. Reading a pair-link answer frame from its bytes (section 11.7): delimiter, address,
kind, command result, items by role, CRC. -/

namespace Sys2Proof.Machine

open Sys2Proof

/-- What the bytes of a pair-link frame are. -/
inductive FrameReading where
  | answer (a : Answer)
  | otherAddress (address : Nat)
  | damaged
deriving DecidableEq, Repr

/-- R169: the command result byte: serial in bits 0 to 2, the result in bits 4 to 5. -/
def commandResult (b : Byte) : CommandResult :=
  let serial : Serial := b.truncate 3
  match (b.toNat / 16) % 4 with
  | 1 => .ack serial
  | 2 => .checkError serial
  | _ => .none

/-- Section 11.7: a pinsetter report from its two bytes. -/
def reportOf (code detail : Byte) : Report :=
  let number : CycleNo := BitVec.ofNat 4 (detail.toNat / 16)
  match code.toNat with
  | 1 => .stepDone number (detail.toNat % 16)
  | 2 => .sequenceDone number
  | 3 => .jam
  | 4 => .deck
  | 5 => .overload
  | 6 => .supplyLow
  | 7 => .supplyOk
  | n => .unknown n

/-- The pinsetter reports of an answer body. -/
def reportsOf : List Byte → Option (List (Report × Byte × Byte))
  | [] => some []
  | [_] => none
  | a :: b :: rest => (reportsOf rest).map fun rs => (reportOf a b, a, b) :: rs

/-- Section 11.7: a reading from its four bytes; the last is reserved. -/
def readingOf (head hi lo : Byte) : Reading where
  stamp := head.truncate 6
  settled := head.getLsbD 6
  poor := head.getLsbD 7
  standing := BitVec.ofNat 10 (word2 hi lo)

/-- A transition's first byte: the detector number in bits 0 to 2, DARK in bit 7 (log entry 8). -/
def transitionOf (head hi lo : Byte) : Transition where
  detector := detectorOf? (head.toNat % 8)
  dark := head.getLsbD 7
  time := BitVec.ofNat 16 (word2 hi lo)

/-- The transitions of a lane I/O answer body. -/
def transitionsOf : List Byte → Option (List Transition)
  | [] => some []
  | [_] => none
  | [_, _] => none
  | a :: b :: c :: rest => (transitionsOf rest).map fun ts => transitionOf a b c :: ts

/-- Section 11.7: a console item. -/
def keystrokeOf (b : Byte) : Keystroke :=
  match b.toNat with
  | 1 => .reRack
  | 2 => .callDesk
  | n => .unknown n

/-- R170: the contents of an answer by role, with as many items as the item count says and no more
than the role allows; none for any other body (R165: taken as damaged). -/
def contentsOf (role : Role) (count : Nat) (body : List Byte) : Option AnswerContents :=
  match role with
  | .pinsetter _ =>
    if count ≤ 4 then
      (reportsOf body).bind fun rs => if rs.length = count then some (.pinsetter rs) else none
    else none
  | .reader _ =>
    match count, body with
    | 0, [] => some (.reader none)
    | 1, [a, hi, lo, _] => some (.reader (some (readingOf a hi lo)))
    | _, _ => none
  | .laneIo =>
    match body with
    | hi :: lo :: levels :: rest =>
      if count ≤ 8 then
        (transitionsOf rest).bind fun ts =>
          if ts.length = count then some (.laneIo (BitVec.ofNat 16 (word2 hi lo)) levels ts)
          else none
      else none
    | _ => none
  | .console _ =>
    match count, body with
    | 0, [] => some (.console none)
    | 1, [a] => some (.console (some (keystrokeOf a)))
    | _, _ => none

/-- The CRC of a pair-link frame, over the address to the end of the body, agrees with its last two
bytes. -/
def answerCrcHolds (covered : List Byte) (hi lo : Byte) : Bool :=
  (crc16 covered).toNat == word2 hi lo

/-- The delimiter of a pair-link frame (section 11.7). -/
abbrev linkDelimiter : Byte := 0x5A#8

/-- Section 11.7: an answer frame read: delimiter 5A, address, kind 2, command result, item count,
items, CRC. -/
def readAnswer (frame : List Byte) : FrameReading :=
  match frame with
  | delimiter :: address :: kind :: result :: count :: tail =>
    match tail.reverse with
    | lo :: hi :: body =>
      if delimiter.toNat = 0x5A ∧ kind.toNat = 2 ∧
          answerCrcHolds (address :: kind :: result :: count :: body.reverse) hi lo then
        match addressOf? address.toNat with
        | none => .otherAddress address.toNat
        | some a =>
          match contentsOf (roleOf a) count.toNat body.reverse with
          | none => .damaged
          | some c => .answer ⟨a, commandResult result, c⟩
      else .damaged
    | _ => .damaged
  | _ => .damaged

end Sys2Proof.Machine
end

