-- ==== Sys2Proof/Machine/Links.lean ====
section
/-! DEFINITION. The Link Poller (chapter 10): sending polls, node states, the fate of the command a
poll carried, and what an answer's contents bring about by role. -/

namespace Sys2Proof.Machine

open Sys2Proof

/-! ## Polls (R165) -/

/-- R165: carrying a command counts a try. -/
def carry (n : Node) : Node :=
  { n with slot := n.slot.map fun e => { e with tries := some (e.tries.getD 0 + 1) } }

/-- The address the current slot names. -/
def currentAddress (q : Poller) : NodeAddr := (q.order[q.current]?).getD 0

/-- R165: a POLL is sent to the address of the current slot, with the command its node's slot
holds. -/
def State.sendPoll (s : State) (p : PairId) : State :=
  let a := currentAddress (s.poller p)
  let carried := (s.node p a).slot.map fun e => (e.command, e.serial)
  (s.modNode p a carry).modPoller p fun q =>
    { q with
      pollsSent := bump q.pollsSent
      poll := some { address := a, carried := carried, deadline := s.deviceTime + q.timeout
                     abandoned := false } }

/-- The first poll after a power-on reset is sent when the pair link is first heard of (log
entry 6). -/
def State.ensurePoll (s : State) (p : PairId) : State :=
  match (s.poller p).poll with
  | none => s.sendPoll p
  | some _ => s

/-- R164, R165: the current slot advances; from the last slot a new round begins, with a pending list
in force. -/
def advance (q : Poller) : Poller :=
  if q.current + 1 < q.order.length then { q with current := q.current + 1, poll := none }
  else
    { q with current := 0, poll := none, order := q.pendingOrder.getD q.order, pendingOrder := none }

/-- R165: the poll has ended: the slot advances and the next POLL is sent. -/
def State.nextPoll (s : State) (p : PairId) : State := (s.modPoller p advance).sendPoll p

/-! ## Waiting commands (R82, R75, R172) -/

/-- R82, R95, R87: the HALT or PARK that awaited the pinsetter's slot is placed, with the end of the
sequence it supersedes. -/
def State.placeAwaiting (s : State) (l : LaneId) : State :=
  match (s.supervisor l).awaiting with
  | none => s
  | some k =>
    if (s.pinsetter l).slot.isSome then s
    else
      ((s.modSupervisor l fun v => { v with awaiting := none }).placeStop l k).stopReleases l
        (s.supervisor l)

/-- R172: the queue without its oldest frame for a console, and that frame. -/
def takeFrame (d : Side) : List DisplayFrame → Option (List Byte × List DisplayFrame)
  | [] => none
  | f :: fs =>
    if f.side = d then some (f.payload, fs)
    else (takeFrame d fs).map fun x => (x.1, f :: x.2)

/-- R172: the next display frame of a console is placed when its slot is empty. -/
def State.placeDisplay (s : State) (p : PairId) (d : Side) : State :=
  if (s.node p (consoleAddr d)).slot.isSome then s
  else
    match takeFrame d (s.poller p).queue with
    | none => s
    | some (payload, rest) =>
      (s.modPoller p fun q => { q with queue := rest }).place p (consoleAddr d) (.display payload)

/-- R168, R169: a node's slot has emptied; the owning block's waiting command is placed. -/
def State.slotEmptied (s : State) (p : PairId) (a : NodeAddr) : State :=
  match roleOf a with
  | .pinsetter d => s.placeAwaiting (laneAt p d)
  | .reader d => (s.placeWaitingCount (laneAt p d)).placeWaitingRead (laneAt p d)
  | .laneIo => s
  | .console d => s.placeDisplay p d

/-! ## The owed command (R115) -/

/-- R115: the owed command of a lane's pinsetter is placed, where the node is ALIVE and its slot takes
it, and begun as a new sequence, with the end of one it supersedes (R87). One that finds another HALT or
PARK in the slot stays owed (R168, log entry 51). -/
def State.placeOwed (s : State) (l : LaneId) : State :=
  match (s.pinsetter l).owed with
  | none => s
  | some k =>
    let c := sequenceCommand (stopSequence k) ((s.supervisor l).cycle + 1)
    if (s.pinsetter l).state = .alive ∧ slotTakes (s.pinsetter l) c then
      (((s.modNode (pairOf l) (pinsetterAddr (sideOf l)) fun n =>
        { n with owed := none }).endUnfinished l).beginSequence l (stopSequence k) none).stopReleases l
          (s.supervisor l)
    else s

/-- R115: the owed command of a node, if it is a pinsetter. -/
def State.placeOwedOf (s : State) (p : PairId) (a : NodeAddr) : State :=
  match roleOf a with
  | .pinsetter d => s.placeOwed (laneAt p d)
  | .reader _ | .laneIo | .console _ => s

/-! ## The fate of a command (R169) -/

/-- R169: the owner of a command is told that it was acknowledged. An ACK of a manual body that LEAVE_MANUAL
has discarded is reported only where the machine is MANUAL again (log entry 62). -/
def State.acked (s : State) (p : PairId) (a : NodeAddr) (c : Command) : State :=
  match roleOf a with
  | .pinsetter d =>
    match c with
    | .manual _ =>
      if (s.supervisor (laneAt p d)).machine = .manual then
        s.raiseMachineReport (laneAt p d) .acked
      else s
    | _ => s.acknowledge (laneAt p d) c
  | .reader d =>
    match c with
    | .setCount _ => s.resyncDone (laneAt p d)
    | _ => s
  | .laneIo | .console _ => s

/-- R110, R127: COMMAND_LOST on both lanes of a pair. -/
def State.outputsLost (s : State) (p : PairId) : State :=
  (s.raiseLane (laneAt p .left) .commandLost).raiseLane (laneAt p .right) .commandLost

/-- R169: a dropped command is reported to its owner. -/
def State.droppedCommand (s : State) (p : PairId) (a : NodeAddr) (c : Command) : State :=
  match roleOf a with
  | .pinsetter d =>
    match c with
    | .halt _ => s.stopLost (laneAt p d) .halt c
    | .park _ => s.stopLost (laneAt p d) .park c
    | .manual _ =>
      if (s.supervisor (laneAt p d)).machine = .manual then
        s.raiseMachineReport (laneAt p d) .dropped
      else s
    | _ => s.cycleLost (laneAt p d) c
  | .reader d =>
    match c with
    | .setCount _ => s.resyncLost (laneAt p d)
    | _ => s.readDropped (laneAt p d)
  | .laneIo => s.outputsLost p
  | .console _ => s.modNode p a fun n => { n with framesDropped := bump n.framesDropped }

/-- R169: the command that a poll carried still stands in the slot. Carrying it has given it a try
(R165), while one that has replaced it since is untried (R168), also where its serial, of three bits, has
come round to the same number. -/
def stillInSlot (n : Node) (c : Command) (serial : Serial) : Bool :=
  n.slot.any fun e => e.command == c && e.serial == serial && e.tries.isSome

/-- R169: the slot has been carried three times. -/
def triesSpent (n : Node) : Bool := n.slot.any fun e => decide (3 ≤ e.tries.getD 0)

/-- R169: a command that was not acknowledged stays, unless its tries are 3; then it is dropped. -/
def State.unacknowledged (s : State) (p : PairId) (a : NodeAddr) (c : Command) : State :=
  if triesSpent (s.node p a) then
    let s' := s.modNode p a fun n =>
      { n with slot := none, commandsDropped := bump n.commandsDropped }
    (s'.droppedCommand p a c).slotEmptied p a
  else s

/-- R169: the command that the poll carried is resolved by the answer's command field. A slot emptied
by its ACK takes the waiting command, or the command owed to the node (R115, R167, log entry 51). -/
def State.resolveCommand (s : State) (p : PairId) (q : Poll) (r : CommandResult) : State :=
  match q.carried with
  | none => s
  | some (c, serial) =>
    let a := q.address
    if stillInSlot (s.node p a) c serial then
      if r = .ack serial then
        (((s.clearSlot p a).acked p a c).slotEmptied p a).placeOwedOf p a
      else s.unacknowledged p a c
    else if r = .ack serial then s.acked p a c
    else s

/-! ## Node states (R166, R167) -/

/-- R166, R172: the frames queued for a console, and the one in its slot, are discarded. -/
def State.discardDisplay (s : State) (p : PairId) (d : Side) : State :=
  let a := consoleAddr d
  let gone := ((s.poller p).queue.filter fun f => f.side = d).length +
    (if (s.node p a).slot.isSome then 1 else 0)
  (s.modPoller p fun q => { q with queue := q.queue.filter fun f => f.side ≠ d }).modNode p a
    fun n => { n with slot := none, framesDiscarded := satAdd top16 n.framesDiscarded gone }

/-- R166, R168: the slot of a node that has become LOST. -/
def State.slotAtLoss (s : State) (p : PairId) (a : NodeAddr) : State :=
  match roleOf a with
  | .pinsetter _ => s
  | .reader d =>
    match (s.node p a).slot with
    | some ⟨.setCount _, _, _⟩ => ((s.clearSlot p a).resyncDiscarded (laneAt p d)).slotEmptied p a
    | _ => s
  | .laneIo => s.clearSlot p a
  | .console d => s.discardDisplay p d

/-- R166: the fault a loss raises, by role; none for a node that is not required. -/
def State.raiseLoss (s : State) (p : PairId) (a : NodeAddr) : State :=
  if s.required p a then
    match roleOf a with
    | .pinsetter d => s.raiseLane (laneAt p d) .machineNodeLost
    | .reader d => s.raiseLane (laneAt p d) .sensorNodeLost
    | .laneIo =>
      (s.raiseLane (laneAt p .left) .sensorNodeLost).raiseLane (laneAt p .right) .sensorNodeLost
    | .console _ => s
  else s

/-- R64, R131: the filter and the return are told that the lane I/O node is away. -/
def State.laneIoAway (s : State) (p : PairId) (a : NodeAddr) : State :=
  match roleOf a with
  | .laneIo => (s.filterLost p).decideWatch p false
  | .pinsetter _ | .reader _ | .console _ => s

/-- R166: a node becomes LOST. -/
def State.nodeLost (s : State) (p : PairId) (a : NodeAddr) : State :=
  let s1 := (s.modNode p a fun n => { n with state := .lost }).slotAtLoss p a
  ((s1.raiseLoss p a).laneIoAway p a).raiseNodeState p (some a)

/-- R166: the counts of a miss. -/
def countMiss (n : Node) : Node :=
  { n with misses := satAdd 255 n.misses 1, totalMisses := bump n.totalMisses }

/-- R166: a node that has reached the lost threshold becomes LOST. -/
def losesNode (state : NodeState) (required : Bool) : Bool :=
  match state with
  | .alive => true
  | .absent => required
  | .lost => false

/-- R166: a miss of a node. One at or above the lost threshold becomes LOST, so that an ABSENT node whose
misses had passed it before a load made it required does so at its next miss (log entry 57). -/
def State.miss (s : State) (p : PairId) (a : NodeAddr) : State :=
  let s' := s.modNode p a countMiss
  if (s.poller p).threshold ≤ (s'.node p a).misses ∧
      losesNode (s'.node p a).state (s'.required p a) then s'.nodeLost p a
  else s'

/-- R167, step 2: the node-lost conditions that a node's return ends. -/
def State.lossEnds (s : State) (p : PairId) (a : NodeAddr) : State :=
  match roleOf a with
  | .pinsetter d => s.laneConditionEnds (laneAt p d) .machineNodeLost
  | .reader d => s.sensorConditionEnds (laneAt p d)
  | .laneIo => (s.sensorConditionEnds (laneAt p .left)).sensorConditionEnds (laneAt p .right)
  | .console _ => s

/-- R167, step 4: the Return Supervisor places its SET_OUTPUTS and decides the jam watch (R131). -/
def State.laneIoBack (s : State) (p : PairId) (a : NodeAddr) : State :=
  match roleOf a with
  | .laneIo => (s.placeOutputs p).decideWatch p false
  | .pinsetter _ | .reader _ | .console _ => s

/-- R167: a node that was ABSENT or LOST has answered. -/
def State.nodeReturns (s : State) (p : PairId) (a : NodeAddr) : State :=
  let s1 := (s.modNode p a fun n => { n with state := .alive, misses := 0 }).lossEnds p a
  ((s1.placeOwedOf p a).laneIoBack p a).raiseNodeState p (some a)

/-- R166, R167: an answer from a node: its misses become 0, and a node away becomes ALIVE. A command
owed to a node that stayed ALIVE is placed (R115). -/
def State.nodeAnswers (s : State) (p : PairId) (a : NodeAddr) : State :=
  if (s.node p a).state = .alive then
    (s.modNode p a fun n => { n with misses := 0 }).placeOwedOf p a
  else s.nodeReturns p a

/-! ## Pinsetter answers (R85, R89, R103) -/

/-- R85: a report discarded by row 1 or row 2. -/
def State.discardReport (s : State) (l : LaneId) (superseded : Bool) : State :=
  s.modSupervisor l fun v =>
    if superseded then { v with discardedSuperseded := bump v.discardedSuperseded }
    else { v with discardedIdle := bump v.discardedIdle }

/-- R85, rows 5 to 7: a report with the record's number is judged; `step` is its step code, or none
for SEQUENCE_DONE. -/
def State.judgeRunning (s : State) (l : LaneId) (r : CycleRecord) (step : Option Nat) : State :=
  match r.expected, step with
  | .step k later, some code =>
    if stepCode k = code then s.completeStep l later else s.raiseLane l .sequenceFault
  | .sequenceDone, none => s.sequenceDone l r
  | .step _ _, none | .sequenceDone, some _ => s.raiseLane l .sequenceFault

/-- R84, R85: a report with the record's number: it may count as the acknowledgment, is judged, and a
command that awaited the slot it has emptied is placed after that (log entry 56). -/
def State.runningReport (s : State) (l : LaneId) (r : CycleRecord) (step : Option Nat) : State :=
  ((s.reportAcknowledges l r).judgeRunning l r step).placeAwaiting l

/-- R85: a STEP_DONE or SEQUENCE_DONE outside MANUAL. -/
def State.stepReport (s : State) (l : LaneId) (number : CycleNo) (step : Option Nat) : State :=
  let v := s.supervisor l
  if v.superseded = some number then s.discardReport l true
  else
    match v.record with
    | some r =>
      if r.number = number then s.runningReport l r step else s.raiseLane l .cycleMismatch
    | none =>
      if atRest v.machine then s.discardReport l false
      else if v.cycle = number then s.raiseLane l .sequenceFault
      else s.raiseLane l .cycleMismatch

/-- R85, R89: a report of a pinsetter whose machine is not MANUAL. A report code that section 11.7
does not list is passed over. -/
def State.takeReport (s : State) (l : LaneId) (r : Report) : State :=
  match r with
  | .stepDone n code => s.stepReport l n (some code)
  | .sequenceDone n => s.stepReport l n none
  | .jam => s.raiseLane l .machineJam
  | .deck => s.raiseLane l .deckFault
  | .overload => s.raiseLane l .motorOverload
  | .supplyLow => s.raiseLane l .pinSupplyLow
  | .supplyOk => s.laneConditionEnds l .pinSupplyLow
  | .unknown _ => s

/-- R103: a report taken while the machine is MANUAL is passed up; SUPPLY_OK also ends its
condition. -/
def State.manualReport (s : State) (l : LaneId) (r : Report) (a b : Byte) : State :=
  let s' := s.raiseMachineReport l (.report a b)
  match r with
  | .supplyOk => s'.laneConditionEnds l .pinSupplyLow
  | .stepDone _ _ | .sequenceDone _ | .jam | .deck | .overload | .supplyLow | .unknown _ => s'

/-- R170: one report of a pinsetter answer. -/
def State.pinsetterReport (s : State) (l : LaneId) (x : Report × Byte × Byte) : State :=
  if (s.supervisor l).machine = .manual then s.manualReport l x.1 x.2.1 x.2.2
  else s.takeReport l x.1

/-! ## Consoles (R101, R171) -/

/-- R101: the first reason to refuse a console re-rack. -/
def State.reRackReason (s : State) (l : LaneId) : Option ReRackReason :=
  match s.holder l with
  | none => some .notAllowed
  | some (_, x) =>
    if x.terms.reRackAllowed = false then some .notAllowed
    else if (s.tracker l).play ≠ .armed then some .notArmed
    else if x.nextBall.faced = .leave then some .facesLeave
    else none

/-- R101: a RE_RACK keystroke. -/
def State.consoleReRack (s : State) (l : LaneId) : State :=
  match s.reRackReason l with
  | none => s.beginSequence l .reRack none
  | some r => s.raise (laneSource l) (.reRackRefused l (s.entry l).holder r)

/-- R171: a CALL_DESK keystroke. -/
def State.consoleCall (s : State) (l : LaneId) : State :=
  let slot := (s.holder l).bind fun h => h.2.slot
  s.raise (laneSource l) (.consoleCall
    { lane := l, holder := (s.entry l).holder, slot := slot
      handle := (s.holder l).bind fun h => h.2.slot.map (handleOf h.2) })

/-- R171: a console keystroke. A code that section 11.7 does not list is passed over. -/
def State.keystroke (s : State) (l : LaneId) (k : Keystroke) : State :=
  match k with
  | .reRack => s.consoleReRack l
  | .callDesk => s.consoleCall l
  | .unknown _ => s

/-! ## Taking an answer (R170) -/

/-- R170: the contents of an answer are handed on. -/
def State.takeContents (s : State) (p : PairId) (a : NodeAddr) (c : AnswerContents) : State :=
  match roleOf a, c with
  | .pinsetter d, .pinsetter rs => rs.foldl (fun t x => t.pinsetterReport (laneAt p d) x) s
  | .reader d, .reader (some rd) => s.takeReading (laneAt p d) rd
  | .laneIo, .laneIo now levels ts => s.filterAnswer p now levels ts
  | .console d, .console (some k) => s.keystroke (laneAt p d) k
  | _, _ => s

/-- R170: the contents are taken, but for those of a node that is not required, the lane I/O node
excepted. -/
def State.handContents (s : State) (p : PairId) (a : NodeAddr) (c : AnswerContents) : State :=
  if roleOf a = .laneIo ∨ s.required p a then s.takeContents p a c else s

/-- R86, R165: the watch of the lane is examined when a poll of its pinsetter ends. -/
def State.examineAt (s : State) (p : PairId) (a : NodeAddr) : State :=
  match roleOf a with
  | .pinsetter d => s.examineWatch (laneAt p d)
  | .reader _ | .laneIo | .console _ => s

/-- R165 to R170: an answer from the address polled ends the poll and is taken. -/
def State.takeAnswer (s : State) (p : PairId) (q : Poll) (x : Answer) : State :=
  let s1 := (s.nodeAnswers p q.address).resolveCommand p q x.result
  (((s1.handContents p q.address x.contents).examineAt p q.address).settlePair p).nextPoll p

/-- R165, R166: the answer timeout of a poll ends it as a miss; the node's state is settled before the
command it carried (log entry 19). -/
def State.pollMissed (s : State) (p : PairId) (q : Poll) : State :=
  let s1 := (s.miss p q.address).resolveCommand p q .none
  ((s1.examineAt p q.address).settlePair p).nextPoll p

/-! ## Frames that do not end a poll (R165, R173) -/

/-- R165: an answer from another address, counted. -/
def State.countWrongAddress (s : State) (p : PairId) : State :=
  s.modPoller p fun q => { q with wrongAddress := bump q.wrongAddress }

/-- R165: a damaged frame, counted. -/
def State.countDamaged (s : State) (p : PairId) : State :=
  s.modPoller p fun q => { q with damaged := bump q.damaged }

/-- R173: an answer to an abandoned poll, counted. -/
def State.countAbandoned (s : State) (p : PairId) : State :=
  s.modPoller p fun q => { q with abandoned := bump q.abandoned }

/-- R165, R173: a frame that arrives while a poll waits. While the poll that waits is an abandoned one,
a damaged frame is counted and a frame from another address is not (log entry 7). -/
def State.answerFrame (s : State) (p : PairId) (q : Poll) (frame : List Byte) : State :=
  match readAnswer frame with
  | .damaged => s.countDamaged p
  | .otherAddress _ => if q.abandoned then s else s.countWrongAddress p
  | .answer x =>
    if x.address = q.address then
      if q.abandoned then s.countAbandoned p else s.takeAnswer p q x
    else if q.abandoned then s
    else s.countWrongAddress p

/-- R165: the answer timeout of a poll expires. One that a restart has abandoned is no miss; the round
goes on at slot 1 (R173, log entry 7). -/
def State.timeoutPoll (s : State) (p : PairId) (q : Poll) : State :=
  if q.abandoned then s.sendPoll p else s.pollMissed p q

end Sys2Proof.Machine
end

