-- ==== Sys2Proof/Machine/Operands.lean ====
section
/-! DEFINITION. The operand forms of the requests: enumerated values by their codes (section 11.7),
clamped values, the resolution of session-level fields from their selectors (R13), and bowler
entries. -/

namespace Sys2Proof.Machine

open Sys2Proof

/-! ## Enumerated values (section 11.7) -/

/-- Billing mode by code: GAME 0, TIME 1. -/
def billingOf? (code : Nat) : Option Billing :=
  match code with
  | 0 => some .game
  | 1 => some .time
  | _ => none

/-- A limit by its kind code, NONE 0, GAMES 1, MINUTES 2, with its value. -/
def limitOf? (kind value : Nat) : Option Limit :=
  match kind with
  | 0 => some .none
  | 1 => some (.games value)
  | 2 => some (.minutes value)
  | _ => none

/-- A resume choice by code: CLAMP 0, REPLAY 1; a code above 1 is clamped. -/
def resumeOf (code : Nat) : Resume := if code = 0 then .clamp else .replay

/-- A resume choice by code, where it is one of the listed values. -/
def resumeOf? (code : Nat) : Option Resume :=
  match code with
  | 0 => some .clamp
  | 1 => some .replay
  | _ => none

/-- A handicap mode by code: NONE 0, FIXED 1, BASIS 2; a FIXED value above 300 is clamped (R13). -/
def handicapModeOf? (code fixedValue : Nat) : Option HandicapMode :=
  match code with
  | 0 => some .none
  | 1 => some (.fixed (clampTo 0 300 fixedValue))
  | 2 => some .basis
  | _ => none

/-- A fault action by code: NONE 0, HOLD 1, STOP 2, PARK 3 (R107). -/
def actionOf? (code : Nat) : Option Action :=
  match code with
  | 0 => some .none
  | 1 => some .hold
  | 2 => some .stop
  | 3 => some .park
  | _ => none

/-- The notice kinds in the order of R179. -/
def noticeKinds : List NoticeKind :=
  [.ballScored, .gameDone, .turnChanged, .sessionState, .limitWarning, .limitReached, .faultRaised,
   .faultCleared, .machineState, .clockSet, .machineReport, .readingAnomaly, .strayBall,
   .returnState, .nodeState, .consoleCall, .reRackRefused, .chargeListFull, .tariffSwapped,
   .requestDropped]

/-- The notice kind a number 1 to 20 names. -/
def noticeKindOf? (n : Nat) : Option NoticeKind := nth1 noticeKinds n

/-- A list names no value twice. -/
def distinct (ns : List Nat) : Bool :=
  match ns with
  | [] => true
  | n :: rest => !rest.contains n && distinct rest

/-! ## Clamped values -/

/-- The field is named when its value was clamped. -/
def named {α : Type} (field : α) (low high value : Nat) : List α :=
  if clamps low high value then [field] else []

/-- R7, R13: the range of the warning threshold by limit kind. -/
def warningTop : Limit → Nat
  | .none => 0
  | .games _ => 15
  | .minutes _ => 60

/-- R13: a limit value clamped to the range of its kind. -/
def clampLimit : Limit → Limit
  | .none => .none
  | .games n => .games (clampTo 1 255 n)
  | .minutes n => .minutes (clampTo 1 1440 n)

/-- R13: the limit value lies outside the range of its kind. -/
def limitClamps : Limit → Bool
  | .none => false
  | .games n => clamps 1 255 n
  | .minutes n => clamps 1 1440 n

/-- R7: the constraints of billing mode and limit kind. -/
def limitFits (b : Billing) (k : Limit) : Bool :=
  match b, k with
  | _, .none => true
  | .game, .games _ => true
  | .time, .minutes _ => true
  | .game, .minutes _ | .time, .games _ => false

/-! ## Session-level fields (R13) -/

/-- R13: a field taken from its selector; KEEP takes the lane's memory, where there is one. -/
def resolve {α : Type} (dflt : α) (kept : Option α) : Selector α → Option α
  | .value v => some v
  | .centreDefault => some dflt
  | .keep => some (kept.getD dflt)
  | .unlisted _ => none

/-- The code of a billing mode. -/
def billingCode : Billing → Nat
  | .game => 0
  | .time => 1

/-- The code and the value of a limit. -/
def limitCode : Limit → Nat × Nat
  | .none => (0, 0)
  | .games n => (1, n)
  | .minutes n => (2, n)

/-- The code of a resume choice. -/
def resumeCode : Resume → Nat
  | .clamp => 0
  | .replay => 1

/-- The code of foul detection: on 0, off 1. -/
def foulCode (on : Bool) : Nat := if on then 0 else 1

/-- The code of a yes-or-no field: yes 1. -/
def yesCode (yes : Bool) : Nat := if yes then 1 else 0

/-- Ten session-level fields resolved, before the clamps of R13, with the fields that are clamped. -/
structure Resolved where
  terms : Terms
  clamped : List ClampedField
deriving DecidableEq, Repr

/-- The tariff class a number names. -/
def classOf? (n : Nat) : Option (Fin 8) := if h : n < 8 then some ⟨n, h⟩ else none

/-- R13: the ten fields put together from their codes and values, with the clamps of R13; none where
an enumerated value is not a listed one or the tariff class is outside 0 to 7. -/
def termsOf (billing tariffClass : Nat) (limit : Nat × Nat) (warning foul reRack resume basis percent
    cap : Nat) : Option Resolved :=
  match billingOf? billing, classOf? tariffClass, limitOf? limit.1 limit.2 with
  | some b, some c, some k =>
    some
      { terms :=
          { billing := b, tariffClass := c, limit := clampLimit k
            warning := clampTo 0 (warningTop k) warning
            foulDetection := foul == 0, reRackAllowed := reRack != 0, resume := resumeOf resume
            basis := clampTo 0 300 basis, percent := clampTo 0 100 percent, cap := clampTo 0 300 cap }
        clamped :=
          (if limitClamps k then [.limitValue] else []) ++ named .warning 0 (warningTop k) warning ++
            named .foulDetection 0 1 foul ++ named .reRackAllowed 0 1 reRack ++
            named .resume 0 1 resume ++ named .basis 0 300 basis ++ named .percent 0 100 percent ++
            named .cap 0 300 cap }
  | _, _, _ => none

/-- R13: the ten fields of an opening, from their selectors, the centre defaults and the memory of the
lane. None where order 6 of R12 refuses a selector or a value. -/
def resolveTerms (d : Terms) (m : Option Terms) (t : TermSelectors) : Option Resolved :=
  match resolve (billingCode d.billing) (m.map fun x => billingCode x.billing) t.billing,
      resolve d.tariffClass.val (m.map fun x => x.tariffClass.val) t.tariffClass,
      resolve (limitCode d.limit) (m.map fun x => limitCode x.limit) t.limit,
      resolve d.warning (m.map (·.warning)) t.warning,
      resolve (foulCode d.foulDetection) (m.map fun x => foulCode x.foulDetection) t.foulDetection,
      resolve (yesCode d.reRackAllowed) (m.map fun x => yesCode x.reRackAllowed) t.reRackAllowed,
      resolve (resumeCode d.resume) (m.map fun x => resumeCode x.resume) t.resume,
      resolve d.basis (m.map (·.basis)) t.basis,
      resolve d.percent (m.map (·.percent)) t.percent,
      resolve d.cap (m.map (·.cap)) t.cap with
  | some billing, some cls, some limit, some warning, some foul, some reRack, some resume,
      some basis, some percent, some cap =>
    termsOf billing cls limit warning foul reRack resume basis percent cap
  | _, _, _, _, _, _, _, _, _, _ => none

/-! ## Bowler entries (R11, R13, R16) -/

/-- R11, R16: a new bowler record; none where the handicap mode is not a listed value. `game`: its
first game record. -/
def bowlerOf? (e : BowlerEntry) (joins : Bool) (game : Game) : Option Bowler :=
  (handicapModeOf? e.modeCode e.fixedValue).map fun h =>
    { handle := e.handle, member := true, joinsNext := joins, withdrawalPending := false
      average := clampTo 0 300 e.average, handicapMode := h, game := game, gamesCompleted := 0
      totals := [] }

/-- The bowlers of a list; none where one of them has an unlisted handicap mode. -/
def bowlersOf? : List BowlerEntry → Option (List Bowler)
  | [] => some []
  | e :: es =>
    match bowlerOf? e false (newGame 1 0), bowlersOf? es with
    | some b, some bs => some (b :: bs)
    | _, _ => none

/-- R13: the clamped fields of one bowler entry. -/
def bowlerClamps (team slot : Nat) (e : BowlerEntry) : List ClampedField :=
  named (.average team slot) 0 300 e.average ++
    (if e.modeCode = 1 then named (.fixedHandicap team slot) 0 300 e.fixedValue else [])

/-- R13: the clamped fields of a bowler list, slots counting from 1. -/
def listClamps (team : Nat) (es : List BowlerEntry) : List ClampedField :=
  es.zipIdx.flatMap fun x => bowlerClamps team (x.2 + 1) x.1

/-! ## Replies -/

/-- A refusal: a response code with no data. -/
def refuse (c : Code) : Reply := ⟨c, .nothing⟩

/-- An acceptance with no data. -/
def accept : Reply := ⟨.ok, .nothing⟩

end Sys2Proof.Machine
end

