-- ==== Sys2Proof/Machine/BallRequests.lean ====
section
/-! DEFINITION. The requests that act on a ball, taken in RUN only: ENTER_BALL, CORRECT_BALL and
RESYNC_READER. -/

namespace Sys2Proof.Machine

open Sys2Proof

/-! ## ENTER_BALL (R58) -/

/-- R58, step 2: the ball result of an entered set. -/
def enteredResult (after : PinSet) (t : Tracker) : BallResult where
  after := after
  foul := heldFoul t
  source := .entered
  stamp := expectedStamp t

/-- R58: an accepted ENTER_BALL: the ball resolved, READING_OVERDUE removed, the result handed on. -/
def State.enterBall (s : State) (l : LaneId) (x : Session) (pins : PinSet) : State :=
  let r := enteredResult (pins &&& x.nextBall.before) (s.tracker l)
  (((s.modTracker l resolveBall).removeLaneFault l .readingOverdue .entry).handResult l
    r).settlePair (pairOf l)

/-- ENTER_BALL (R58). The response lists the dropped pins; R58 gives them no order, and the model lists each
once, lowest pin first (DESIGN CHOICE, log entry 34). -/
def reqEnterBall (lane session : Nat) (pins : List Nat) (s : State) : State × Reply :=
  if s.device ≠ .run then (s, refuse .notRunning)
  else
    match s.mappedLane? lane with
    | none => (s, refuse .noLane)
    | some l =>
      match s.sessionInUse? session with
      | none => (s, refuse .notFound)
      | some (i, x) =>
        if ¬ s.holdsLane i l then (s, refuse .notFound)
        else if x.state = .closing then (s, refuse .badState)
        else if (s.tracker l).play ≠ .awaitingEntry then (s, refuse .badState)
        else if pins.any fun n => decide (n = 0 ∨ 10 < n) then (s, refuse .range)
        else
          (s.enterBall l x (pinSetOf pins),
            ⟨.ok, .droppedPins (pinsOf (pinSetOf pins &&& ~~~x.nextBall.before))⟩)

/-! ## CORRECT_BALL (R54 to R56) -/

/-- R55: the next-ball record names a frame of a bowler. -/
def namesFrame (x : Session) (slot frame : Nat) : Bool :=
  x.nextBall.slot == slot && x.nextBall.frame == frame

/-- R55: the structural check of a correction. -/
def correctionHolds (x : Session) (slot frame index pinfall : Nat) (f : Frame) : Bool :=
  structureHolds frame (frameComplete f)
    (if namesFrame x slot frame then some x.nextBall.faced else none)
    (correctedBalls index pinfall f.balls)

/-- R56, step 4: the next-ball record after a correction of the frame it names. -/
def correctNext (x : Session) (slot frame : Nat) (g : Game) : NextBall :=
  if namesFrame x slot frame ∧ x.nextBall.faced = .leave then
    { x.nextBall with expected := some (expectedStanding (frameBalls g frame)) }
  else x.nextBall

/-- R56, step 5: the bowler after a correction; a COMPLETE game's newest totals entry follows. -/
def correctBowler (g : Game) (b : Bowler) : Bowler :=
  { b with
    game := g
    totals := if g.status = .complete then correctTotals g b.totals else b.totals }

/-- R56: the records after an accepted correction. -/
def correctRecords (x : Session) (slot frame index pinfall : Nat) (b : Bowler) : Session :=
  let g := correctGame frame index pinfall b.game
  { modBowler (correctBowler g) slot x with nextBall := correctNext x slot frame g }

/-- R56: an accepted CORRECT_BALL. `ball`: the corrected ball. -/
def State.correctBall (s : State) (i : SessionId) (x : Session) (slot frame index pinfall : Nat)
    (b : Bowler) (ball : Ball) : State :=
  let y := correctRecords x slot frame index pinfall b
  let g := correctGame frame index pinfall b.game
  let s1 := s.setSession i (some y)
  let s2 := if g.status = .complete then s1.raiseGameDone i slot else s1
  s2.raiseBallScored x.lane i y g slot frame index
    (.correction { ball with pinfall := pinfall, corrected := true })
    (reportFrames g (recomputedFrames g frame index))

/-- R56: what the response to a correction carries. -/
def correctedData (g : Game) (frame : Nat) : ReplyData :=
  .corrected (statusOfFrame g frame) ((nth1 g.frames frame).bind (·.score)) (latestRunning g)

/-- CORRECT_BALL (R54 to R56). -/
def reqCorrectBall (session slot game frame index pinfall : Nat) (s : State) : State × Reply :=
  if s.device ≠ .run then (s, refuse .notRunning)
  else
    match s.sessionInUse? session with
    | none => (s, refuse .notFound)
    | some (i, x) =>
      if 10 < pinfall ∨ frame = 0 ∨ 10 < frame ∨ index = 0 ∨ 3 < index then (s, refuse .range)
      else
        match bowlerAt x slot with
        | none => (s, refuse .notFound)
        | some b =>
          match nth1 b.game.frames frame, nth1 (frameBalls b.game frame) index with
          | some f, some ball =>
            if b.game.number ≠ game then (s, refuse .notFound)
            else if b.game.status = .withdrawn then (s, refuse .badState)
            else if ¬ correctionHolds x slot frame index pinfall f then
              (s, refuse .structureFails)
            else
              (s.correctBall i x slot frame index pinfall b ball,
                ⟨.ok, correctedData (correctGame frame index pinfall b.game) frame⟩)
          | _, _ => (s, refuse .notFound)

/-! ## RESYNC_READER (R80) -/

/-- R80, order 4: the play state is SETTLING or READING, a READ is in the reader's slot, or the resync
state is SENT. -/
def State.resyncBusy (s : State) (l : LaneId) : Bool :=
  (s.tracker l).play == .settling || (s.tracker l).play == .reading ||
    (s.tracker l).resync == .sent ||
    (match (s.reader l).slot with
      | some ⟨.read _, _, _⟩ => true
      | _ => false)

/-- RESYNC_READER (R80). -/
def reqResyncReader (lane : Nat) (s : State) : State × Reply :=
  if s.device ≠ .run then (s, refuse .notRunning)
  else
    match s.mappedLane? lane with
    | none => (s, refuse .noLane)
    | some l =>
      if (s.reader l).state ≠ .alive then (s, refuse .badState)
      else if s.resyncBusy l then (s, refuse .busy)
      else (s.resync l, accept)

end Sys2Proof.Machine
end

