-- ==== Sys2Proof/Machine/Loads.lean ====
section
/-! DEFINITION. The requests that load tables: SET_LANE_MAP, SET_PROFILE, SET_FAULT_ACTION,
SET_NOTICE_PRIORITY, SET_POLL_ORDER, SET_DEFAULTS and SET_RETURN. -/

namespace Sys2Proof.Machine

open Sys2Proof

/-! ## SET_LANE_MAP (R2, R63, R164) -/

/-- R2, order 1: a pair number or a profile is outside its range. A request that names no pair does
not carry what R2 lists (log entry 12). -/
def laneMapRange (entries : List LaneMapPair) : Bool :=
  entries.isEmpty || entries.any fun e =>
    (pairOf? e.pair).isNone || decide (3 < e.left.profile) || decide (3 < e.right.profile)

/-- The pairs a list of numbers names. -/
def pairsNamed (numbers : List Nat) : List PairId := numbers.filterMap pairOf?

/-- R2, order 2; R173: both lanes of a pair are CLOSED or DISABLED and both machines OFF or PARKED. -/
def State.pairAtRest (s : State) (p : PairId) : Bool :=
  [laneAt p .left, laneAt p .right].all fun l =>
    shut (s.entry l).state && offOrParked (s.supervisor l).machine

/-- R2: a lane table entry after a load. -/
def loadEntry (x : LaneMapLane) (e : LaneEntry) : LaneEntry :=
  { e with
    enabled := x.enabled
    profile := BitVec.toFin (BitVec.ofNat 2 x.profile)
    hasConsole := x.hasConsole
    state :=
      if x.enabled then (if e.state = .disabled then .closed else e.state) else .disabled }

/-- R63: the debounce values of a pair, clamped. -/
def loadDebounce (e : LaneMapPair) : Debounce where
  foul := clampTo 5 50 e.foul
  pit := clampTo 5 100 e.pit
  lift := clampTo 5 100 e.lift
  rack := clampTo 50 2000 e.rack

/-- R63: the clamped values of a pair entry, each with its pair. -/
def debounceClamps (e : LaneMapPair) : List (Nat × PairField) :=
  (named PairField.foul 5 50 e.foul ++ named PairField.pit 5 100 e.pit ++
    named PairField.lift 5 100 e.lift ++ named PairField.rack 50 2000 e.rack).map fun f => (e.pair, f)

/-- R172: the frames of a console whose has-console field the load sets to no are discarded. -/
def State.loseConsole (s : State) (p : PairId) (d : Side) (hasConsole : Bool) : State :=
  if (s.entry (laneAt p d)).hasConsole ∧ ¬ hasConsole then s.discardDisplay p d else s

/-- R164: a node that a load has made required, from the state before it, is missing from a poll
order. -/
def State.lacksNode (s before : State) (p : PairId) (order : List NodeAddr) : Bool :=
  allAddresses.any fun a => s.required p a && !before.required p a && !order.contains a

/-- R164: the default order becomes the pending list when the list in force, or a pending list, lacks
a node that the load makes required. -/
def State.mendOrder (s before : State) (p : PairId) : State :=
  if s.lacksNode before p (s.poller p).order ∨
      (s.poller p).pendingOrder.any (s.lacksNode before p) then
    s.modPoller p fun q => { q with pendingOrder := some Initial.pollOrder }
  else s

/-- R2: the entries of one pair are loaded; the pair's poll order and lift follow. -/
def State.loadPair (s : State) (e : LaneMapPair) : State :=
  match pairOf? e.pair with
  | none => s
  | some p =>
    let s1 := (s.loseConsole p .left e.left.hasConsole).loseConsole p .right e.right.hasConsole
    let s2 := (s1.modEntry (laneAt p .left) (loadEntry e.left)).modEntry (laneAt p .right)
      (loadEntry e.right)
    (((s2.modFilter p fun f => { f with debounce := loadDebounce e }).mendOrder s p).decideLift
      p).armPair p

/-- SET_LANE_MAP (R2). -/
def reqSetLaneMap (entries : List LaneMapPair) (s : State) : State × Reply :=
  let ps := pairsNamed (entries.map (·.pair))
  if laneMapRange entries then (s, refuse .range)
  else if s.device = .run ∧ ps.any (fun p => !s.pairAtRest p) then (s, refuse .badState)
  else if ps.any fun p => s.isMoveTarget (laneAt p .left) || s.isMoveTarget (laneAt p .right) then
    (s, refuse .busy)
  else
    ({ entries.foldl State.loadPair s with laneMapLoaded := true },
      ⟨.ok, .clampedPairFields (entries.flatMap debounceClamps)⟩)

/-! ## SET_PROFILE (R83) -/

/-- R83: the fourteen parameters clamped to their ranges. -/
def clampProfile (f : Profile) : Profile where
  deckDown := clampTo 1 200 f.deckDown
  lift := clampTo 1 200 f.lift
  sweep := clampTo 1 200 f.sweep
  respot := clampTo 1 200 f.respot
  newRack := clampTo 1 200 f.newRack
  home := clampTo 1 200 f.home
  powerUp := clampTo 1 60 f.powerUp
  halt := clampTo 1 200 f.halt
  guardDown := clampTo 1 200 f.guardDown
  deckUp := clampTo 1 200 f.deckUp
  powerDown := clampTo 1 200 f.powerDown
  settle := clampTo 500 5000 f.settle
  readingDeadline := clampTo 200 5000 f.readingDeadline
  retry := clampTo 100 1000 f.retry

/-- R83: the parameters that were clamped. -/
def profileClamps (f : Profile) : List ProfileField :=
  named (.watch .deckDown) 1 200 f.deckDown ++ named (.watch .lift) 1 200 f.lift ++
    named (.watch .sweep) 1 200 f.sweep ++ named (.watch .respot) 1 200 f.respot ++
    named (.watch .newRack) 1 200 f.newRack ++ named (.watch .home) 1 200 f.home ++
    named (.watch .powerUp) 1 60 f.powerUp ++ named (.watch .halt) 1 200 f.halt ++
    named (.watch .guardDown) 1 200 f.guardDown ++ named (.watch .deckUp) 1 200 f.deckUp ++
    named (.watch .powerDown) 1 200 f.powerDown ++ named .settle 500 5000 f.settle ++
    named .readingDeadline 200 5000 f.readingDeadline ++ named .retry 100 1000 f.retry

/-- SET_PROFILE (R83). -/
def reqSetProfile (number : Nat) (f : Profile) (s : State) : State × Reply :=
  if h : number < 4 then
    ({ s with profiles := s.profiles.set number (clampProfile f) h },
      ⟨.ok, .clampedProfile (profileClamps f)⟩)
  else (s, refuse .range)

/-! ## SET_FAULT_ACTION (R107) -/

/-- R107: an item passes the checks of its own. -/
def faultItemValid (x : FaultActionItem) : Bool :=
  (match faultClassOf? x.classCode with
    | none => false
    | some c => c != .parkFailed) && (actionOf? x.actionCode).isSome && decide (x.priority ≤ 15)

/-- R107: an item's entry replaces that of its class. -/
def State.loadFaultAction (s : State) (x : FaultActionItem) : State :=
  match faultClassOf? x.classCode, actionOf? x.actionCode with
  | some c, some a =>
    { s with faultTable := s.faultTable.set (faultIndex c) ⟨a, x.credit, x.priority⟩ }
  | _, _ => s

/-- SET_FAULT_ACTION (R107). -/
def reqSetFaultAction (items : List FaultActionItem) (s : State) : State × Reply :=
  if items.isEmpty ∨ ¬ items.all faultItemValid ∨ ¬ distinct (items.map (·.classCode)) then
    (s, refuse .range)
  else (items.foldl State.loadFaultAction s, accept)

/-! ## SET_NOTICE_PRIORITY (R179) -/

/-- R179: an item passes the checks of its own. -/
def priorityItemValid (x : NoticePriorityItem) : Bool :=
  (match noticeKindOf? x.kind with
    | none => false
    | some k => k != .faultRaised) && decide (x.priority ≤ 15)

/-- R179: a pending entry of a kind takes its new priority. -/
def retune (k : NoticeKind) (priority : Nat) (n : Notice) : Notice :=
  if payloadKind n.payload = k then { n with priority := priority } else n

/-- R179: a kind's priority is replaced, in the table and in the pending set. -/
def State.loadPriority (s : State) (x : NoticePriorityItem) : State :=
  match noticeKindOf? x.kind with
  | none => s
  | some k =>
    { s with
      priorities := s.priorities.set (kindIndex k) x.priority
      notices := s.notices.map (retune k x.priority) }

/-- SET_NOTICE_PRIORITY (R179). -/
def reqSetNoticePriority (items : List NoticePriorityItem) (s : State) : State × Reply :=
  if items.isEmpty ∨ ¬ items.all priorityItemValid ∨ ¬ distinct (items.map (·.kind)) then
    (s, refuse .range)
  else (items.foldl State.loadPriority s, accept)

/-! ## SET_POLL_ORDER (R164) -/

/-- R164, order 3: the first required node that a poll order lacks. -/
def State.missingNode (s : State) (p : PairId) (order : List NodeAddr) : Option NodeAddr :=
  allAddresses.find? fun a => s.required p a && !order.contains a

/-- R164, order 2: the list holds 1 to 12 addresses, each 1 to 7. -/
def orderOf? (addresses : List Nat) : Option (List NodeAddr) :=
  if 1 ≤ addresses.length ∧ addresses.length ≤ 12 then addresses.mapM addressOf? else none

/-- SET_POLL_ORDER (R164). -/
def reqSetPollOrder (pair : Nat) (addresses : List Nat) (timeout threshold : Nat) (s : State) :
    State × Reply :=
  match pairOf? pair with
  | none => (s, refuse .noLane)
  | some p =>
    match orderOf? addresses with
    | none => (s, refuse .range)
    | some order =>
      match s.missingNode p order with
      | some a => (s, ⟨.range, .missingAddress a⟩)
      | none =>
        (s.modPoller p fun q =>
          { q with
            pendingOrder := some order, timeout := clampTo 2 50 timeout
            threshold := clampTo 1 15 threshold },
          ⟨.ok, .clampedPoll (clamps 2 50 timeout) (clamps 1 15 threshold)⟩)

/-! ## SET_DEFAULTS (R4) -/

/-- SET_DEFAULTS (R4): the checks in order, then every other value clamped. -/
def reqSetDefaults (f : DefaultsFields) (s : State) : State × Reply :=
  match termsOf f.billing f.tariffClass (f.limitKind, f.limitValue) f.warning f.foulDetection
      f.reRackAllowed f.resume f.basis f.percent f.cap with
  | none => (s, refuse .range)
  | some r =>
    if limitFits r.terms.billing r.terms.limit then
      ({ s with defaults := ⟨r.terms, clampTo 0 30 f.expiryWait⟩ },
        ⟨.ok, .clampedFields (r.clamped ++ named .expiryWait 0 30 f.expiryWait)⟩)
    else (s, refuse .range)

/-! ## SET_RETURN (R123) -/

/-- R123: the clamped values of an item, each with its pair. -/
def returnClamps (x : ReturnItem) : List (Nat × PairField) :=
  (named PairField.capacity 1 12 x.capacity ++ named PairField.jamSeconds 4 60 x.jamSeconds).map fun f => (x.pair, f)

/-- R123: a return takes a capacity and a jam watch time. -/
def loadReturn (x : ReturnItem) (r : BallReturn) : BallReturn :=
  withCapacity { r with capacity := clampTo 1 12 x.capacity, jamSeconds := clampTo 4 60 x.jamSeconds }

/-- R123: an item's pair takes the new values; both lanes' arming checks follow. -/
def State.loadReturnItem (s : State) (x : ReturnItem) : State :=
  match pairOf? x.pair with
  | none => s
  | some p => (s.modReturn p (loadReturn x)).returnChanged p (s.ballReturn p)

/-- SET_RETURN (R123). -/
def reqSetReturn (items : List ReturnItem) (s : State) : State × Reply :=
  if items.isEmpty ∨ (items.any fun x => (pairOf? x.pair).isNone) ∨
      ¬ distinct (items.map (·.pair)) then (s, refuse .range)
  else
    (items.foldl State.loadReturnItem s, ⟨.ok, .clampedPairFields (items.flatMap returnClamps)⟩)

end Sys2Proof.Machine
end

