-- ==== Sys2Proof/Machine/Desk.lean ====
section
/-! DEFINITION. The requests taken in SETUP and RUN that move traffic or the device: PASS_THROUGH,
RESTART_PAIR_LINK, TRIM_TRACK, COLLECT_CHARGES, RESET_DEVICE, GO_RUN and RETURN_SETUP. -/

namespace Sys2Proof.Machine

open Sys2Proof

/-! ## PASS_THROUGH (R172) -/

/-- PASS_THROUGH (R172). -/
def reqPassThrough (lane : Nat) (payload : List Byte) (s : State) : State × Reply :=
  match s.mappedLane? lane with
  | none => (s, refuse .noLane)
  | some l =>
    let p := pairOf l
    if payload.isEmpty ∨ 64 < payload.length then (s, refuse .range)
    else if (s.entry l).hasConsole = false ∨
        (s.node p (consoleAddr (sideOf l))).state ≠ .alive then (s, refuse .badState)
    else if displayCapacity ≤ (s.poller p).queue.length then (s, refuse .busy)
    else
      ((s.modPoller p fun q => { q with queue := q.queue ++ [⟨sideOf l, payload⟩] }).placeDisplay p
        (sideOf l), accept)

/-! ## RESTART_PAIR_LINK (R173) -/

/-- R173, steps 2 and 4: a node record after a restart. -/
def restartNode (n : Node) : Node :=
  { n with state := .absent, misses := 0, slot := none, owed := none }

/-- R173, step 2: a SET_COUNT in a reader's slot is discarded with it (R80). -/
def State.restartReader (s : State) (l : LaneId) : State :=
  match (s.reader l).slot with
  | some ⟨.setCount _, _, _⟩ => s.resyncDiscarded l
  | _ => s

/-- R81: a command awaiting the slot becomes absent. -/
def State.restartSupervisor (s : State) (l : LaneId) : State :=
  s.modSupervisor l fun v => { v with awaiting := none }

/-- R173, step 4: the node-lost conditions of a lane end; its nodes are ABSENT. -/
def State.restartConditions (s : State) (l : LaneId) : State :=
  (s.laneConditionEnds l .machineNodeLost).sensorConditionEnds l

/-- R173, steps 1, 4 and 5: the poller after a restart. -/
def restartPoller (q : Poller) : Poller :=
  { q with
    poll := q.poll.map fun x => { x with abandoned := true }
    queue := [], nodes := q.nodes.map restartNode
    order := q.pendingOrder.getD q.order, pendingOrder := none, current := 0 }

/-- R173: an accepted restart of a pair link. -/
def State.restartLink (s : State) (p : PairId) : State :=
  let l := laneAt p .left
  let r := laneAt p .right
  let s1 := ((s.restartReader l).restartReader r).discardDisplay p .left
  let s2 := (s1.discardDisplay p .right).modPoller p restartPoller
  let s3 := ((s2.restartSupervisor l).restartSupervisor r).restartConditions l
  ((((s3.restartConditions r).filterLost p).decideWatch p false).raiseNodeState p none)

/-- RESTART_PAIR_LINK (R173). -/
def reqRestartPairLink (pair : Nat) (s : State) : State × Reply :=
  match pairOf? pair with
  | none => (s, refuse .noLane)
  | some p => if s.pairAtRest p then (s.restartLink p, accept) else (s, refuse .badState)

/-! ## TRIM_TRACK (R132) -/

/-- TRIM_TRACK (R132). -/
def reqTrimTrack (pair count : Nat) (s : State) : State × Reply :=
  match pairOf? pair with
  | none => (s, refuse .range)
  | some p =>
    if count = 0 ∨ 16 < count then (s, refuse .range)
    else
      let held := (s.ballReturn p).track.length
      ((s.trim p count).settlePair p, ⟨.ok, .trimmed (min count held) (held - min count held)⟩)

/-! ## COLLECT_CHARGES (R162) -/

/-- R162, step 3: the unlisted totals that are not 0. Their order is the model's (log entry 34). -/
def State.unlistedTotals (s : State) : List (LaneId × Unlisted) :=
  s.unlistedLanes.map fun l => (l, (s.meter l).unlisted)

/-- R162, R181: a lane's unlisted total becomes 0. -/
def State.clearUnlisted (s : State) (l : LaneId) : State :=
  s.modMeter l fun m => { m with unlisted := Initial.unlisted }

/-- R162: the charge list after the oldest lines have been removed. -/
def takeLines (n : Nat) (c : ChargeList) : ChargeList :=
  { lines := c.lines.drop n
    full := if min n c.lines.length = 0 then c.full else false }

/-- COLLECT_CHARGES (R162). -/
def reqCollectCharges (maximum : Nat) (unlisted : Bool) (s : State) : State × Reply :=
  if 16 < maximum then (s, refuse .range)
  else
    let s1 := { s with charges := takeLines maximum s.charges }
    let lines := s.charges.lines.take maximum
    if unlisted then
      (s.unlistedLanes.foldl State.clearUnlisted s1,
        ⟨.ok, .charges lines s.unlistedTotals s1.charges.lines.length⟩)
    else (s1, ⟨.ok, .charges lines [] s1.charges.lines.length⟩)

/-! ## RESET_DEVICE (R181) -/

/-- R1: a lane table entry after a device reset. -/
def resetEntry (e : LaneEntry) : LaneEntry :=
  { e with
    state := if e.enabled then .closed else .disabled
    holder := none, waiting := none, movePending := none }

/-- R81, R103: a supervisor after a device reset. -/
def resetSupervisor (v : Supervisor) : Supervisor :=
  { Initial.supervisor with machine := v.machine, cycle := v.cycle }

/-- R153, R154, R161: a meter after a device reset. -/
def resetMeter (discard : Bool) (m : Meter) : Meter :=
  if discard then Initial.meter else { m with openLine := none }

/-- R181: everything of a lane after a device reset. -/
def resetLane (discard : Bool) (x : Lane) : Lane :=
  { x with
    entry := resetEntry x.entry, tracker := resetTracker x.tracker
    supervisor := resetSupervisor x.supervisor, meter := resetMeter discard x.meter }

/-- R163: a node record after a device reset: its counters are cleared. The consecutive misses are no such
counter, and are kept with the node's state (log entry 61). -/
def resetNode (n : Node) : Node :=
  { n with totalMisses := 0, commandsDropped := 0, framesDropped := 0, framesDiscarded := 0 }

/-- R163: a poller after a device reset: every counter is cleared. -/
def resetPoller (q : Poller) : Poller :=
  { q with
    nodes := q.nodes.map resetNode, pollsSent := 0, wrongAddress := 0, damaged := 0
    abandoned := 0 }

/-- R181: everything of a pair after a device reset. -/
def resetPair (x : Pair) : Pair :=
  { x with
    filter := resetFilter x.filter, poller := resetPoller x.poller
    ballReturn := resetReturn x.ballReturn }

/-- R122, R129: the end of a jam condition is told, and lift and pair in use are decided afresh. -/
def State.resetReturnOf (before : State) (s : State) (p : PairId) : State :=
  (s.jamEnds p (before.ballReturn p)).decideLift p

/-- R181, steps 2 to 4: the state after an accepted device reset. The bytes of a trunk frame that is not
yet complete are kept (log entry 41). -/
def State.resetBlocks (s : State) (discard : Bool) : State :=
  let s1 := { s with
    lanes := s.lanes.map (resetLane discard)
    pairs := s.pairs.map resetPair
    sessions := Vector.replicate 32 none
    charges := if discard then ⟨[], false⟩ else s.charges }
  let s2 := allPairs.foldl (State.resetReturnOf s) s1
  { s2 with
    device := .setup
    notices := []
    trunk :=
      { s2.trunk with
        requests := [], lengthErrors := 0, crcErrors := 0, kindErrors := 0, dropped := 0 } }

/-- R181, order 2: the Charge List holds a line or an unlisted total is not 0. -/
def State.owesCharges (s : State) : Bool :=
  !s.charges.lines.isEmpty || !s.unlistedLanes.isEmpty

/-- R181, step 1: the lines of the Charge List and of the unlisted totals (their line counts, R161)
counted, and the amounts of both summed; both numbers are exact (log entry 29). -/
def State.discardedCharges (s : State) : Nat × Nat :=
  (s.charges.lines.length + (allLanes.map fun l => (s.meter l).unlisted.lines).sum,
    (s.charges.lines.map (·.amount)).sum + (allLanes.map fun l => (s.meter l).unlisted.amount).sum)

/-- RESET_DEVICE (R181). -/
def reqResetDevice (discard : Bool) (s : State) : State × Reply :=
  if ¬ s.allAtRest then (s, refuse .badState)
  else if s.owesCharges ∧ ¬ discard then (s, refuse .busy)
  else
    (s.resetBlocks discard,
      ⟨.ok, .resetDone s.trunk.requests.length (if discard then some s.discardedCharges else none)⟩)

/-! ## GO_RUN and RETURN_SETUP (R180) -/

/-- R180: the first condition of GO_RUN that fails. -/
def State.runCondition (s : State) : Option RunCondition :=
  if s.laneMapLoaded = false then some .laneMap
  else if s.clock.valid = false then some .clock
  else if s.tariff.committedOnce = false then some .tariff
  else none

/-- GO_RUN (R180). -/
def reqGoRun (s : State) : State × Reply :=
  match s.device with
  | .run => (s, refuse .badState)
  | .setup =>
    match s.runCondition with
    | some c => (s, ⟨.badState, .runCondition c⟩)
    | none => ({ s with device := .run }, accept)

/-- RETURN_SETUP (R180). -/
def reqReturnSetup (s : State) : State × Reply :=
  match s.device with
  | .setup => (s, refuse .notRunning)
  | .run =>
    if s.allAtRest then ({ s with device := .setup }, accept) else (s, refuse .badState)

end Sys2Proof.Machine
end

