-- ==== Sys2Proof/Machine/MachineRequests.lean ====
section
/-! DEFINITION. The requests that act on a pinsetter, taken in RUN only: START_MACHINE, STOP_MACHINE,
RE_RACK, ENTER_MANUAL, LEAVE_MANUAL, MANUAL_COMMAND and CLEAR_FAULT. -/

namespace Sys2Proof.Machine

open Sys2Proof

/-! ## START_MACHINE and STOP_MACHINE (R98, R99) -/

/-- R98, R118: the HALT sequence of a HALTED machine has not ended, or a command awaits the slot. -/
def State.haltPending (s : State) (l : LaneId) : Bool :=
  s.sequencing l || (s.supervisor l).awaiting.isSome

/-- R98: the restart mark of a START by request. -/
def State.startMark (s : State) (l : LaneId) (r : Option Resume) : Option RestartMark :=
  match (s.supervisor l).machine with
  | .halted | .parked => s.restartMark l r
  | .off | .starting | .ready | .cycling | .parking | .outOfService | .manual => none

/-- R98: an accepted START_MACHINE. -/
def State.startMachine (s : State) (l : LaneId) (r : Option Resume) : State :=
  (s.modSupervisor l fun v => { v with followOn := .none }).beginSequence l .start (s.startMark l r)

/-- R98, order 3: the machine is OFF, PARKED or HALTED. -/
def startable : MachineState → Bool
  | .off | .parked | .halted => true
  | .starting | .ready | .cycling | .parking | .outOfService | .manual => false

/-- START_MACHINE (R98). -/
def reqStartMachine (lane : Nat) (r : Option Resume) (s : State) : State × Reply :=
  if s.device ≠ .run then (s, refuse .notRunning)
  else
    match s.mappedLane? lane with
    | none => (s, refuse .noLane)
    | some l =>
      if ¬ startable (s.supervisor l).machine then (s, refuse .badState)
      else if (s.supervisor l).machine = .halted ∧
          (s.haltPending l ∨ (s.pinsetter l).owed.isSome) then (s, refuse .busy)
      else if ¬ s.belowStop l then (s, refuse .condition)
      else (s.startMachine l r, accept)

/-- R99, order 3: the machine states in which each kind is taken. -/
def stoppable (k : StopKind) : MachineState → Bool
  | .starting | .ready | .cycling => true
  | .halted => k == .park
  | .off | .parking | .parked | .outOfService | .manual => false

/-- R99: an accepted STOP_MACHINE. -/
def State.stopMachine (s : State) (l : LaneId) (k : StopKind) : State :=
  let s' := s.clearStart l
  let s'' := match k with
    | .halt => s'.halt l
    | .park => s'.park l
  s''.settlePair (pairOf l)

/-- STOP_MACHINE (R99). -/
def reqStopMachine (lane : Nat) (k : StopKind) (s : State) : State × Reply :=
  if s.device ≠ .run then (s, refuse .notRunning)
  else
    match s.mappedLane? lane with
    | none => (s, refuse .noLane)
    | some l =>
      if stoppable k (s.supervisor l).machine then (s.stopMachine l k, accept)
      else (s, refuse .badState)

/-! ## RE_RACK (R100) -/

/-- R100, order 3: the play state is NOT_ARMED or ARMED. -/
def restful : PlayState → Bool
  | .notArmed | .armed => true
  | .settling | .reading | .awaitingEntry | .resolved => false

/-- R100, order 4: the lane has a holder whose next-ball record faces LEAVE. -/
def State.facesLeave (s : State) (l : LaneId) : Bool :=
  (s.holder l).any fun h => h.2.nextBall.faced == .leave

/-- RE_RACK (R100). -/
def reqReRack (lane : Nat) (s : State) : State × Reply :=
  if s.device ≠ .run then (s, refuse .notRunning)
  else
    match s.mappedLane? lane with
    | none => (s, refuse .noLane)
    | some l =>
      if (s.supervisor l).machine ≠ .ready ∨ ¬ restful (s.tracker l).play ∨
          (s.supervisor l).owed.isSome then (s, refuse .badState)
      else if s.facesLeave l then (s, refuse .badState)
      else if ¬ s.belowHold l then (s, refuse .condition)
      else (s.beginSequence l .reRack none, accept)

/-! ## Manual mode (R102 to R104) -/

/-- R102: the machine states from which manual mode is entered. -/
def manualMachine : MachineState → Bool
  | .off | .parked | .ready => true
  | .starting | .cycling | .halted | .parking | .outOfService | .manual => false

/-- R102: a supervisor that enters manual mode. -/
def manualSupervisor (v : Supervisor) : Supervisor :=
  { v with
    machine := .manual, owed := none, followOn := .none, superseded := none, deferredNeed := none }

/-- R102: an accepted ENTER_MANUAL. -/
def State.enterManual (s : State) (l : LaneId) : State :=
  (((s.modEntry l fun e => { e with state := .manual }).modSupervisor l
    manualSupervisor).raiseMachineState l).laneChanged l

/-- ENTER_MANUAL (R102). -/
def reqEnterManual (lane : Nat) (s : State) : State × Reply :=
  if s.device ≠ .run then (s, refuse .notRunning)
  else
    match s.mappedLane? lane with
    | none => (s, refuse .noLane)
    | some l =>
      if (s.entry l).state ≠ .closed then (s, refuse .badState)
      else if s.isMoveTarget l then (s, refuse .busy)
      else if ¬ manualMachine (s.supervisor l).machine ∨ (s.supervisor l).awaiting.isSome then
        (s, refuse .badState)
      else (s.enterManual l, accept)

/-- R104: an unacknowledged manual body leaves the pinsetter's slot. -/
def dropManual (n : Node) : Node :=
  match n.slot with
  | some ⟨.manual _, _, _⟩ => { n with slot := none }
  | _ => n

/-- R104: an accepted LEAVE_MANUAL. -/
def State.leaveManual (s : State) (l : LaneId) : State :=
  let s1 := s.modNode (pairOf l) (pinsetterAddr (sideOf l)) dropManual
  (((s1.modEntry l fun e => { e with state := .closed }).modSupervisor l fun v =>
    { v with machine := .off }).raiseMachineState l).laneChanged l

/-- LEAVE_MANUAL (R104). -/
def reqLeaveManual (lane : Nat) (s : State) : State × Reply :=
  if s.device ≠ .run then (s, refuse .notRunning)
  else
    match s.mappedLane? lane with
    | none => (s, refuse .noLane)
    | some l =>
      if (s.entry l).state = .manual then (s.leaveManual l, accept) else (s, refuse .badState)

/-- MANUAL_COMMAND (R103). In RUN, a body that is not 1 to 32 bytes does not fit the request (R176, log
entry 37). -/
def reqManualCommand (lane : Nat) (body : List Byte) (s : State) : State × Reply :=
  if s.device ≠ .run then (s, refuse .notRunning)
  else if body.isEmpty ∨ 32 < body.length then (s, refuse .range)
  else
    match s.mappedLane? lane with
    | none => (s, refuse .noLane)
    | some l =>
      if (s.entry l).state ≠ .manual ∨ (s.pinsetter l).state ≠ .alive then (s, refuse .badState)
      else if (s.pinsetter l).slot.isSome then (s, refuse .busy)
      else (s.place (pairOf l) (pinsetterAddr (sideOf l)) (.manual body), accept)

/-! ## CLEAR_FAULT (R117, R118) -/

/-- R117: what a CLEAR_FAULT names: one class, or ALL. -/
inductive Cleared where
  | all
  | one (c : FaultClass)
deriving DecidableEq, Repr

/-- R117, order 3: the class a code names, ALL being 0. -/
def clearedOf? (code : Nat) : Option Cleared :=
  if code = 0 then some .all else (faultClassOf? code).map Cleared.one

/-- R117: the named entries among those on a lane. -/
def namedFaults (n : Cleared) (fs : List FaultEntry) : List FaultEntry :=
  match n with
  | .all => fs.filter fun f => f.cls != .parkFailed
  | .one c => fs.filter fun f => f.cls == c

/-- R117: a named entry is removed. -/
def removable (serviceDone : Bool) (f : FaultEntry) : Bool :=
  f.latched ||
    match f.cls with
    | .parkFailed => serviceDone
    | .readingOverdue => false
    | c => !selfClearing c && !f.present

/-- R116: the service clear makes an OUT_OF_SERVICE machine PARKED. -/
def State.serviceClear (s : State) (l : LaneId) : State :=
  if (s.supervisor l).machine = .outOfService then
    ((s.modSupervisor l fun v => { v with machine := .parked }).raiseMachineState l).laneChanged l
  else s

/-- R117: one entry is removed by the desk from the set it stands in. -/
def State.clearEntry (l : LaneId) (s : State) (f : FaultEntry) : State :=
  match f.cls with
  | .parkFailed => (s.removeLaneFault l .parkFailed .serviceDone).serviceClear l
  | .returnJam => s.removePairFault (pairOf l) .returnJam .desk
  | c => s.removeLaneFault l c .desk

/-- R118, condition 2: the machine states a lane is restarted from. -/
def restartable : MachineState → Bool
  | .off | .halted | .parked | .parking => true
  | .starting | .ready | .cycling | .outOfService | .manual => false

/-- R118: the conditions of a restart. -/
def State.restartHolds (s : State) (l : LaneId) : Bool :=
  s.belowStop l && restartable (s.supervisor l).machine && (s.pinsetter l).owed.isNone &&
    s.mayRestart l

/-- R118: the START waits for the sequence in hand: the machine is PARKING, or HALTED with its HALT
not ended or a command awaiting the slot. -/
def State.restartWaits (s : State) (l : LaneId) : Bool :=
  (s.supervisor l).machine == .parking || ((s.supervisor l).machine == .halted && s.haltPending l)

/-- R118: a lane is considered for a restart after the removals. -/
def State.restart (s : State) (l : LaneId) (r : Option Resume) : State × RestartOutcome :=
  if ¬ s.restartHolds l then (s, .none)
  else if s.restartWaits l then (s.setFollowOn l (.restart r), .followOn)
  else (s.beginSequence l .start (s.startMark l r), .begun)

/-- R118: the pair's other lane is considered when a pair-scope entry was removed. -/
def State.restartOther (s : State) (l : LaneId) (removed : List FaultEntry) (r : Option Resume) :
    State :=
  if removed.any fun f => pairScope f.cls then (s.restart (otherLane l) r).1 else s

/-- R117: the response data of a CLEAR_FAULT. -/
def State.clearedData (s : State) (l : LaneId) (removed : List FaultEntry) (o : RestartOutcome) :
    ReplyData :=
  .cleared (removed.map (·.cls)) ((s.faultsOn l).map (·.cls)) (s.effective l) (s.credit l) o

/-- R117, R118: the removals and the restarts of an accepted CLEAR_FAULT. ALL removes the entries one after
another in the order in which they were made, the lane's set before the pair's (log entry 34). -/
def State.clearFaults (s : State) (l : LaneId) (removed : List FaultEntry) (r : Option Resume) :
    State × Reply :=
  let s1 := removed.foldl (State.clearEntry l) s
  let s2 := s1.restart l r
  let s3 := (s2.1.restartOther l removed r).settlePair (pairOf l)
  (s3, ⟨.ok, s1.clearedData l removed s2.2⟩)

/-- R117, orders 3 and 4: the request's class, flag and resume choice are well formed. -/
def clearForm (classCode : Nat) (serviceDone : Bool) (resume : Option Nat) :
    Option (Cleared × Option Resume) :=
  match clearedOf? classCode with
  | none => none
  | some n =>
    if serviceDone ∧ n ≠ .one .parkFailed then none
    else
      match resume with
      | none => some (n, none)
      | some code => (resumeOf? code).map fun r => (n, some r)

/-- CLEAR_FAULT (R117, R118). ALL on a lane that has no entry it can name is answered OK (log entry
28). -/
def reqClearFault (lane classCode : Nat) (serviceDone : Bool) (resume : Option Nat) (s : State) :
    State × Reply :=
  if s.device ≠ .run then (s, refuse .notRunning)
  else
    match s.mappedLane? lane with
    | none => (s, refuse .noLane)
    | some l =>
      match clearForm classCode serviceDone resume with
      | none => (s, refuse .range)
      | some (n, r) =>
        let chosen := namedFaults n (s.faultsOn l)
        let removed := chosen.filter (removable serviceDone)
        if chosen.isEmpty then
          (if n = .all then (s, ⟨.ok, s.clearedData l [] .none⟩) else (s, refuse .notFound))
        else if removed.isEmpty then (s, ⟨.condition, s.clearedData l [] .none⟩)
        else s.clearFaults l removed r

end Sys2Proof.Machine
end

