-- ==== Sys2Proof/Machine/Wire.lean ====
section
/-! DEFINITION. Trunk frames and request payloads as bytes (section 11.7): the frame at the head of
the bytes received, and the request a payload carries. -/

namespace Sys2Proof.Machine

open Sys2Proof

/-! ## Reading fields -/

/-- A reader of fields: from the bytes that remain, a value and the bytes after it, or none where the
payload does not fit. -/
abbrev Parse (α : Type) := StateT (List Byte) Option α

/-- A number in one byte. -/
def byte : Parse Nat
  | [] => none
  | b :: bs => some (b.toNat, bs)

/-- A number in two bytes, most significant first. -/
def word : Parse Nat
  | hi :: lo :: bs => some (word2 hi lo, bs)
  | _ => none

/-- A yes-or-no field: 1 for yes. Every other byte is read as no, and the request is accepted (log
entry 8). -/
def yesNo : Parse Bool := do
  let b ← byte
  return b == 1

/-- The flag before an optional field, and before a field that is a value or a word: 0 or 1; another
byte does not fit. -/
def flag : Parse Bool := do
  match ← byte with
  | 0 => return false
  | 1 => return true
  | _ => failure

/-- An optional field, or a field that is a value or a word. -/
def optional {α : Type} (field : Parse α) : Parse (Option α) := do
  if ← flag then return some (← field) else return none

/-- `n` items, one after another. -/
def items {α : Type} (item : Parse α) : Nat → Parse (List α)
  | 0 => return []
  | n + 1 => do
    let x ← item
    let xs ← items item n
    return x :: xs

/-- A list: a count in one byte, and the items. -/
def list {α : Type} (item : Parse α) : Parse (List α) := do items item (← byte)

/-- One byte as it stands. -/
def rawByte : Parse Byte
  | [] => none
  | b :: bs => some (b, bs)

/-- The whole of a payload is read by a reader. -/
def whole {α : Type} (p : Parse α) (bytes : List Byte) : Option α :=
  match p bytes with
  | some (x, []) => some x
  | some (_, _ :: _) => none
  | none => none

/-! ## Records -/

/-- The lane part of a SET_LANE_MAP entry (R2). -/
def laneMapLane : Parse LaneMapLane := do
  let enabled ← yesNo
  let profile ← byte
  let hasConsole ← yesNo
  return ⟨enabled, profile, hasConsole⟩

/-- A SET_LANE_MAP entry (R2, R63): pair, left lane, right lane, four debounce values. -/
def laneMapPair : Parse LaneMapPair := do
  let pair ← byte
  let left ← laneMapLane
  let right ← laneMapLane
  let foul ← byte
  let pit ← byte
  let lift ← byte
  let rack ← word
  return ⟨pair, left, right, foul, pit, lift, rack⟩

/-- The fourteen parameters of a profile, in the order of section 5.3. -/
def profileFields : Parse Profile := do
  let deckDown ← byte
  let lift ← byte
  let sweep ← byte
  let respot ← byte
  let newRack ← byte
  let home ← byte
  let powerUp ← byte
  let halt ← byte
  let guardDown ← byte
  let deckUp ← byte
  let powerDown ← byte
  let settle ← word
  let readingDeadline ← word
  let retry ← word
  return ⟨deckDown, lift, sweep, respot, newRack, home, powerUp, halt, guardDown, deckUp, powerDown,
    settle, readingDeadline, retry⟩

/-- A SET_FAULT_ACTION item (R107). -/
def faultActionItem : Parse FaultActionItem := do
  let cls ← byte
  let action ← byte
  let credit ← yesNo
  let priority ← byte
  return ⟨cls, action, credit, priority⟩

/-- A SET_NOTICE_PRIORITY item (R179). -/
def noticePriorityItem : Parse NoticePriorityItem := do
  let kind ← byte
  let priority ← byte
  return ⟨kind, priority⟩

/-- A SET_RETURN item (R123). -/
def returnItem : Parse ReturnItem := do
  let pair ← byte
  let capacity ← byte
  let seconds ← byte
  return ⟨pair, capacity, seconds⟩

/-- The centre default record (section 1.2), in its order. -/
def defaultsFields : Parse DefaultsFields := do
  let billing ← byte
  let cls ← byte
  let limitKind ← byte
  let limitValue ← word
  let warning ← byte
  let foul ← byte
  let reRack ← byte
  let resume ← byte
  let basis ← word
  let percent ← byte
  let cap ← word
  let expiryWait ← byte
  return ⟨billing, cls, limitKind, limitValue, warning, foul, reRack, resume, basis, percent, cap,
    expiryWait⟩

/-- The seven calendar fields, in the order of section 8.1. -/
def calendarFields : Parse Calendar := do
  let second ← byte
  let minute ← byte
  let hour ← byte
  let weekday ← byte
  let day ← byte
  let month ← byte
  let year ← word
  return ⟨second, minute, hour, weekday, day, month, year⟩

/-- A period entry: ten bytes. -/
def periodFields : Parse PeriodFields := do
  let classes ← byte
  let weekdays ← byte
  let startMinute ← word
  let endMinute ← word
  let price ← word
  let rate ← word
  return ⟨classes, weekdays, startMinute, endMinute, price, rate⟩

/-- A class default: seven bytes. -/
def classDefaultFields : Parse ClassDefault := do
  let price ← word
  let rate ← word
  let minimum ← word
  let grace ← byte
  return ⟨price, rate, minimum, grace⟩

/-- A bowler entry: seven bytes. -/
def bowlerEntry : Parse BowlerEntry := do
  let handle ← word
  let average ← word
  let mode ← byte
  let fixedValue ← word
  return ⟨handle, average, mode, fixedValue⟩

/-- A selector byte, 0 VALUE, 1 DEFAULT, 2 KEEP, and the value when VALUE. -/
def selector {α : Type} (value : Parse α) : Parse (Selector α) := do
  match ← byte with
  | 0 => return .value (← value)
  | 1 => return .centreDefault
  | 2 => return .keep
  | n => return .unlisted n

/-- A limit: kind and value. -/
def limitField : Parse (Nat × Nat) := do
  let kind ← byte
  let value ← word
  return (kind, value)

/-- The ten selectors, in the order of the centre default record. -/
def termSelectors : Parse TermSelectors := do
  let billing ← selector byte
  let cls ← selector byte
  let limit ← selector limitField
  let warning ← selector byte
  let foul ← selector byte
  let reRack ← selector byte
  let resume ← selector byte
  let basis ← selector word
  let percent ← selector byte
  let cap ← selector word
  return ⟨billing, cls, limit, warning, foul, reRack, resume, basis, percent, cap⟩

/-- The resume choice of MOVE_SESSION: CLAMP 0, REPLAY 1, SESSION_DEFAULT 2 (log entry 13). -/
def moveResume : Parse MoveResume := do
  match ← byte with
  | 0 => return .clamp
  | 1 => return .replay
  | 2 => return .sessionDefault
  | _ => failure

/-- A resume choice: CLAMP 0, REPLAY 1 (log entry 13). -/
def resumeField : Parse Resume := do
  match ← byte with
  | 0 => return .clamp
  | 1 => return .replay
  | _ => failure

/-- The kind of STOP_MACHINE: HALT 0, PARK 1 (log entry 13). -/
def stopKind : Parse StopKind := do
  match ← byte with
  | 0 => return .halt
  | 1 => return .park
  | _ => failure

/-- The selector of READ_TARIFF: ACTIVE 0, STAGING 1 (log entry 13). -/
def tariffCopy : Parse TariffCopy := do
  match ← byte with
  | 0 => return .active
  | 1 => return .staging
  | _ => failure

/-- The command body of MANUAL_COMMAND: 1 to 32 bytes (R103, log entry 13). -/
def manualBody : Parse (List Byte) := do
  let body ← list rawByte
  if 1 ≤ body.length ∧ body.length ≤ 32 then return body else failure

/-! ## Requests (R180, section 11.7) -/

/-- A request with one number of one byte. -/
def oneByte (make : Nat → Instr) : Parse Instr := do return make (← byte)

/-- The fields of a request by its code, for the requests of the left column of R180. -/
def leftFields (tag : Byte) (code : Nat) : Parse Instr :=
  match code with
  | 1 => do return .setLaneMap tag (← list laneMapPair)
  | 2 => do
    let number ← byte
    return .setProfile tag number (← profileFields)
  | 3 => do return .setFaultAction tag (← list faultActionItem)
  | 4 => do return .setNoticePriority tag (← list noticePriorityItem)
  | 5 => do
    let pair ← byte
    let addresses ← list byte
    let timeout ← byte
    return .setPollOrder tag pair addresses timeout (← byte)
  | 6 => do return .setDefaults tag (← defaultsFields)
  | 7 => do return .setReturn tag (← list returnItem)
  | 8 => do return .setClock tag (← calendarFields)
  | 9 => return .adjustClock tag
  | 10 => do
    let slot ← byte
    return .stageEntry tag slot (← optional periodFields)
  | 11 => do
    let cls ← byte
    return .stageClassDefault tag cls (← classDefaultFields)
  | 12 => do
    let day ← byte
    let month ← byte
    return .stageSpecialDay tag day month (← optional byte)
  | 13 => do
    let count ← byte
    return .commitTariff tag count (← word)
  | 14 => return .cancelCommit tag
  | 15 => do
    let lane ← byte
    return .passThrough tag lane (← list rawByte)
  | 16 => oneByte (.restartPairLink tag)
  | 17 => do
    let pair ← byte
    return .trimTrack tag pair (← byte)
  | 18 => do
    let maximum ← byte
    return .collectCharges tag maximum (← yesNo)
  | 19 => do return .resetDevice tag (← yesNo)
  | 20 => return .goRun tag
  | 21 => oneByte (.readLane tag)
  | 22 => oneByte (.readSession tag)
  | 23 => oneByte (.readReturn tag)
  | 24 => do return .readTariff tag (← tariffCopy)
  | 25 => return .readDevice tag
  | 26 => return .readNoticeStatus tag
  | _ => failure

/-- The fields of a request by its code, for the requests of the right column of R180. -/
def rightFields (tag : Byte) (code : Nat) : Parse Instr :=
  match code with
  | 27 => do
    let lane ← byte
    let terms ← termSelectors
    return .openLane tag lane terms (← list bowlerEntry)
  | 28 => do
    let pair ← byte
    let terms ← termSelectors
    let team1 ← list bowlerEntry
    return .openPairPlay tag pair terms team1 (← list bowlerEntry)
  | 29 => do
    let session ← byte
    return .addBowler tag session (← bowlerEntry)
  | 30 => do
    let session ← byte
    return .withdrawBowler tag session (← byte)
  | 31 => do
    let lane ← byte
    return .closeLane tag lane (← optional byte)
  | 32 => do
    let session ← byte
    let target ← byte
    return .moveSession tag session target (← moveResume)
  | 33 => do
    let lane ← byte
    return .startMachine tag lane (← optional resumeField)
  | 34 => do
    let lane ← byte
    return .stopMachine tag lane (← stopKind)
  | 35 => oneByte (.reRack tag)
  | 36 => oneByte (.enterManual tag)
  | 37 => oneByte (.leaveManual tag)
  | 38 => do
    let lane ← byte
    return .manualCommand tag lane (← manualBody)
  | 39 => do
    let lane ← byte
    let session ← byte
    return .enterBall tag lane session (← list byte)
  | 40 => do
    let session ← byte
    let slot ← byte
    let game ← byte
    let frame ← byte
    let ball ← byte
    return .correctBall tag session slot game frame ball (← byte)
  | 41 => do
    let session ← byte
    return .extendLimit tag session (← word)
  | 42 => oneByte (.resyncReader tag)
  | 43 => do
    let lane ← byte
    let cls ← byte
    let serviceDone ← yesNo
    return .clearFault tag lane cls serviceDone (← optional byte)
  | 44 => return .returnSetup tag
  | _ => failure

/-- The request a code and its fields carry; none where the code names no request or the payload does
not fit the request named (R176). -/
def requestOf (tag code : Byte) (fields : List Byte) : Option Instr :=
  whole (if code.toNat ≤ 26 then leftFields tag code.toNat else rightFields tag code.toNat) fields

/-- A frame that passes is a request; one that cannot be read is answered RANGE when it is taken
(R176), or NOT_RUNNING where its code is one taken in RUN only and the device is in SETUP (R180, log
entry 13). The frame's length is at least 3, so a payload is never empty. -/
def readRequest (tag : Byte) : List Byte → Instr
  | [] => .unknownRequest tag 0
  | code :: fields => (requestOf tag code fields).getD (.unknownRequest tag code)

/-! ## Frames (R175) -/

/-- The delimiter of a trunk frame. -/
abbrev trunkDelimiter : Byte := 0xA5#8

/-- What the receiver makes of the bytes that follow a delimiter. -/
inductive Scan where
  /-- More bytes are awaited. -/
  | wait
  /-- The length is below 3 or above 515. -/
  | badLength
  /-- The CRC differs. -/
  | badCrc
  /-- The frame kind is not REQUEST. -/
  | badKind
  /-- A request, and the bytes after its frame. -/
  | request (i : Instr) (rest : List Byte)
deriving DecidableEq, Repr

/-- The kind, tag and payload of a frame whose CRC holds. -/
def scanBody (body rest : List Byte) : Scan :=
  match body with
  | kind :: tag :: payload => if kind = 1 then .request (readRequest tag payload) rest else .badKind
  | _ => .badKind

/-- R175: the bytes after a delimiter: the length, that many bytes, and the CRC over both. -/
def scanFrame (bytes : List Byte) : Scan :=
  match bytes with
  | hi :: lo :: rest =>
    let n := word2 hi lo
    if n < 3 ∨ 515 < n then .badLength
    else if rest.length < n + 2 then .wait
    else if crc16 (hi :: lo :: rest.take n) =
        BitVec.ofNat 16 (word2 ((rest[n]?).getD 0) ((rest[n + 1]?).getD 0)) then
      scanBody (rest.take n) (rest.drop (n + 2))
    else .badCrc
  | _ => .wait

end Sys2Proof.Machine
end

