-- ==== Sys2Proof/Machine/Frames.lean ====
section
/-! DEFINITION. The frames the part sends, as bytes (section 11.7): responses and notices on the trunk
(R175 to R178), and POLLs on a pair link (R165). Bytes that the manual does not lay out are free
values (log entry 9). -/

namespace Sys2Proof.Machine

open Sys2Proof

/-! ## Trunk frames sent (R175) -/

/-- Section 11.7: a response code by its number. -/
def codeNumber : Code → Nat
  | .ok => 0
  | .busy => 1
  | .badState => 2
  | .noLane => 3
  | .notFound => 4
  | .range => 5
  | .structureFails => 6
  | .full => 7
  | .check => 8
  | .condition => 9
  | .notRunning => 10

/-- R148, section 11.7: the tariff records that READ_TARIFF returns, each as its bytes, in order; an
EMPTY staging slot has none. -/
def tariffRecords : TariffReading → List (List Byte)
  | .active table defaults days =>
    table.map periodBytes ++ defaults.toList.map classDefaultBytes ++ days.map specialDayBytes
  | .staging slots defaults days _ =>
    (slots.toList.map fun x => (x.map periodBytes).getD []) ++
      defaults.toList.map classDefaultBytes ++ days.map specialDayBytes

/-- Records with other bytes before each and behind the last, `room` of them at most in all. -/
def interleave (other : Nat → List Byte) (place room : Nat) : List (List Byte) → List Byte
  | [] => (other place).take room
  | r :: rs =>
    (other place).take room ++ r ++
      interleave other (place + 1) (room - ((other place).take room).length) rs

/-- Section 11.7: the most bytes of data that a response payload holds behind its two codes. -/
abbrev dataCapacity : Nat := 511

/-- The bytes of the data a response carries, at most 511, after its two codes. The tariff records of
READ_TARIFF stand in them as section 11.7 lays them out; all else is a free value (log entry 9). -/
def replyBytes (code : Byte) (d : ReplyData) : List Byte :=
  match d with
  | .nothing => []
  | .tariff reading _ _ _ =>
    let records := tariffRecords reading
    (interleave (Config.tariffFields d) 0 (dataCapacity - records.flatten.length) records).take
      dataCapacity
  | _ => (Config.responseFields code d).take dataCapacity

/-- Section 11.7: a response payload: the echoed request code, the response code, the data. -/
def responseBytes (r : Response) : List Byte :=
  r.requestCode :: (bytes1 (codeNumber r.reply.code) ++ replyBytes r.requestCode r.reply.data)

/-- Section 11.7: a notice payload: kind number, source, merge count, priority, and the fields, at most
509 bytes of them (log entry 9). -/
def noticeBytes (n : Notice) : List Byte :=
  bytes1 (kindNumber (payloadKind n.payload)) ++ bytes1 n.source ++ bytes1 n.merges ++
    bytes1 n.priority ++ (Config.noticeFields n.payload).take 509

/-- Section 11.7: a trunk frame sent: delimiter, length, kind, tag, payload, CRC. -/
def trunkFrame (kind : Nat) (tag : Byte) (payload : List Byte) : List Byte :=
  let covered := bytes2 (payload.length + 2) ++ bytes1 kind ++ tag :: payload
  trunkDelimiter :: (covered ++ bytes2 (crc16 covered).toNat)

/-- R175, R177: the bytes of a frame on the upstream line: RESPONSE is kind 2, NOTICE is kind 3 and
carries tag 0. -/
def TxFrame.bytes : TxFrame → List Byte
  | .response r => trunkFrame 2 r.tag (responseBytes r)
  | .notice n => trunkFrame 3 0 (noticeBytes n)

/-! ## POLLs (R165) -/

/-- The command body of a POLL: a manual body (R103) and a display payload (R172) stand in it as they
are; the manual lays out no other (log entry 9). -/
def commandBody (c : Command) : List Byte :=
  match c with
  | .manual body => body
  | .display payload => payload
  | .cycle _ _ | .halt _ | .park _ | .read _ | .setCount _ | .setOutputs _ =>
    (Config.commandFields c).take 64

/-- Section 11.7: the command field of a POLL: the serial in bits 0 to 2, present in bit 7. -/
def commandField : Option (Command × Serial) → Byte
  | none => 0
  | some (_, serial) => 0x80#8 ||| serial.zeroExtend 8

/-- Section 11.7: the bytes of a POLL: delimiter, address, kind 1, command field, body length, body,
CRC. -/
def Poll.bytes (q : Poll) : List Byte :=
  let body := (q.carried.map fun x => commandBody x.1).getD []
  let covered := bytes1 (q.address.val + 1) ++ bytes1 1 ++ [commandField q.carried] ++
    bytes1 body.length ++ body
  linkDelimiter :: (covered ++ bytes2 (crc16 covered).toNat)

end Sys2Proof.Machine
end

