-- ==== Sys2Proof/Machine/Reads.lean ====
section
/-! DEFINITION. The read requests (R134, R148, R178, R182): they change no state. -/

namespace Sys2Proof.Machine

open Sys2Proof

/-- R5, R182: the lane table entry without its lane memory (log entry 49). -/
def entryReading (e : LaneEntry) : EntryReading where
  enabled := e.enabled
  profile := e.profile
  hasConsole := e.hasConsole
  state := e.state
  holder := e.holder
  waiting := e.waiting
  movePending := e.movePending

/-- R182: what READ_LANE returns. -/
def State.laneReading (s : State) (l : LaneId) : LaneReading :=
  let t := s.tracker l
  let v := s.supervisor l
  let q := s.poller (pairOf l)
  { entry := entryReading (s.entry l)
    play := t.play, pitCount := t.pitCount, ball := t.ball, resync := t.resync
    trackerCounters :=
      [t.strays, t.ignoredFouls, t.staleReadings, t.anomalousReadings, t.lateReadings]
    machine := v.machine, record := v.record, owed := v.owed, followOn := v.followOn
    superseded := v.superseded
    supervisorCounters := [v.discardedSuperseded, v.discardedIdle]
    lastReport := v.lastReport
    laneFaults := (s.lane l).faults, pairFaults := (s.pair (pairOf l)).faults
    effective := s.effective l, credit := s.credit l, meter := s.meter l
    filter := s.filter (pairOf l), order := q.order, pendingOrder := q.pendingOrder
    timeout := q.timeout, threshold := q.threshold, nodes := q.nodes
    pollerCounters := [q.pollsSent, q.wrongAddress, q.damaged, q.abandoned] }

/-- READ_LANE (R182). -/
def reqReadLane (lane : Nat) (s : State) : State × Reply :=
  match s.mappedLane? lane with
  | none => (s, refuse .noLane)
  | some l => (s, ⟨.ok, .lane (s.laneReading l)⟩)

/-- READ_SESSION (R182). -/
def reqReadSession (session : Nat) (s : State) : State × Reply :=
  match s.sessionInUse? session with
  | none => (s, refuse .notFound)
  | some (i, x) => (s, ⟨.ok, .session i x⟩)

/-- R182: what READ_DEVICE returns. -/
def State.deviceReading (s : State) : DeviceReading where
  device := s.device
  laneMapLoaded := s.laneMapLoaded
  calendar := s.clock.calendar
  valid := s.clock.valid
  version := s.tariff.version
  committedOnce := s.tariff.committedOnce
  commitPending := s.tariff.pending.isSome
  lines := s.charges.lines.length
  full := s.charges.full
  unlistedLanes := s.unlistedLanes.length
  trunkCounters := [s.trunk.lengthErrors, s.trunk.crcErrors, s.trunk.kindErrors, s.trunk.dropped]
  notices := s.notices.length

/-- READ_DEVICE (R182). -/
def reqReadDevice (s : State) : State × Reply := (s, ⟨.ok, .device s.deviceReading⟩)

/-- READ_RETURN (R134). -/
def reqReadReturn (pair : Nat) (s : State) : State × Reply :=
  match pairOf? pair with
  | none => (s, refuse .noLane)
  | some p =>
    (s, ⟨.ok, .ballReturn (s.ballReturn p)
      ((s.ballReturn p).track.head?.map fun e => s.deviceTime - e.entered) s.deviceTime⟩)

/-- R148: the copy READ_TARIFF returns. -/
def tariffReading (t : Tariff) : TariffCopy → TariffReading
  | .active => .active t.activeTable t.activeDefaults t.activeDays
  | .staging => .staging t.slots t.stagedDefaults t.stagedDays (stagedCrc t (highestFilled t))

/-- READ_TARIFF (R148). -/
def reqReadTariff (copy : TariffCopy) (s : State) : State × Reply :=
  (s, ⟨.ok, .tariff (tariffReading s.tariff copy) s.tariff.version s.tariff.committedOnce
    s.tariff.pending⟩)

/-- R178: an entry as READ_NOTICE_STATUS returns it. -/
def noticeReading (n : Notice) : NoticeReading where
  source := n.source
  kind := payloadKind n.payload
  priority := n.priority
  merges := n.merges
  payloadLength := (noticeBytes n).length

/-- READ_NOTICE_STATUS (R178). -/
def reqReadNoticeStatus (s : State) : State × Reply :=
  (s, ⟨.ok, .noticeStatus (s.notices.map noticeReading)⟩)

end Sys2Proof.Machine
end

