-- ==== Sys2Proof/Machine/SessionRequests.lean ====
section
/-! DEFINITION. The requests of the Session Store taken in RUN only: OPEN_LANE, OPEN_PAIR_PLAY,
ADD_BOWLER, WITHDRAW_BOWLER, CLOSE_LANE, MOVE_SESSION and EXTEND_LIMIT. -/

namespace Sys2Proof.Machine

open Sys2Proof

/-! ## Opening (R12 to R15) -/

/-- R6: the free session records, lowest id first. -/
def State.freeSessions (s : State) : List SessionId := allSessions.filter fun i => (s.session i).isNone

/-- R12, order 6: a bowler list holds 1 to 8 entries. -/
def listFits (es : List BowlerEntry) : Bool := decide (1 ≤ es.length ∧ es.length ≤ bowlerCapacity)

/-- R6, R14, R25, R149: the record of a session as it is taken, before game 1 starts. -/
def newSession (mode : Mode) (l : LaneId) (t : Terms) (bowlers : List Bowler) (credit : Bool)
    (expiryWait : Nat) : Session where
  state := .opened
  mode := mode
  lane := l
  terms := t
  expiryDue := false
  game := 1
  frame := 1
  slot := some 1
  bowlers := bowlers
  takingPart := []
  nextBall := firstBallOf 1 1
  held := none
  pendingResume := none
  billing := newBilling t.billing credit expiryWait

/-- R6, R25, R40: a session record is taken on a lane, and game 1 starts for its bowlers. -/
def State.takeRecord (s : State) (i : SessionId) (mode : Mode) (l : LaneId) (t : Terms)
    (bowlers : List Bowler) : State :=
  s.setSession i (some (startGame (newSession mode l t bowlers (s.credit l)
    s.defaults.expiryWait)).1)

/-- R14: an accepted OPEN_LANE. -/
def State.openLane (s : State) (l : LaneId) (i : SessionId) (t : Terms) (bowlers : List Bowler) :
    State :=
  let s1 := (s.takeRecord i .single l t bowlers).modEntry l fun e =>
    { e with state := .opened, holder := some i }
  (((s1.warningTest i).raiseSessionState i none).decideLift (pairOf l)).holderArrives l

/-- OPEN_LANE (R12 to R14). -/
def reqOpenLane (lane : Nat) (terms : TermSelectors) (entries : List BowlerEntry) (s : State) :
    State × Reply :=
  if s.device ≠ .run then (s, refuse .notRunning)
  else
    match s.mappedLane? lane with
    | none => (s, refuse .noLane)
    | some l =>
      if (s.entry l).state ≠ .closed then (s, refuse .badState)
      else if s.isMoveTarget l then (s, refuse .busy)
      else if ¬ openableMachine (s.supervisor l).machine then (s, refuse .badState)
      else
        match resolveTerms s.defaults.terms (s.entry l).memory terms, bowlersOf? entries with
        | some r, some bowlers =>
          if ¬ listFits entries then (s, refuse .range)
          else if ¬ limitFits r.terms.billing r.terms.limit then (s, refuse .range)
          else
            match s.freeSessions with
            | [] => (s, refuse .full)
            | i :: _ =>
              (s.openLane l i r.terms bowlers, ⟨.ok, .opened i (r.clamped ++ listClamps 1 entries)⟩)
        | _, _ => (s, refuse .range)

/-- R15: one team's session is taken, on the lane it opens on. -/
def State.openTeam (s : State) (p : PairId) (d : Side) (i : SessionId) (t : Terms)
    (bowlers : List Bowler) : State :=
  (s.takeRecord i (.pairPlay d) (laneAt p d) t bowlers).modEntry (laneAt p d) fun e =>
    { e with state := .pairPlay }

/-- R15, R47: an accepted OPEN_PAIR_PLAY: both records, both grants, both machines. -/
def State.openPair (s : State) (p : PairId) (i j : SessionId) (t1 t2 : Terms)
    (b1 b2 : List Bowler) : State :=
  let l := laneAt p .left
  let r := laneAt p .right
  let s1 := (s.openTeam p .left i t1 b1).openTeam p .right j t2 b2
  let s2 := (s1.grant l i).grant r j
  let s3 := ((s2.warningTest i).warningTest j).raiseSessionState i none
  (((s3.raiseSessionState j none).decideLift p).holderArrives l).holderArrives r

/-- R15, order 7: both teams resolve to GAME billing and neither to a MINUTES limit. -/
def teamFits (t : Terms) : Bool := t.billing == .game && limitFits t.billing t.limit

/-- The clamped fields of a second list that a first does not name. -/
def mergeClamps (a b : List ClampedField) : List ClampedField :=
  a ++ b.filter fun f => !a.contains f

/-- OPEN_PAIR_PLAY (R15). -/
def reqOpenPairPlay (pair : Nat) (terms : TermSelectors) (team1 team2 : List BowlerEntry)
    (s : State) : State × Reply :=
  if s.device ≠ .run then (s, refuse .notRunning)
  else
    match pairOf? pair with
    | none => (s, refuse .noLane)
    | some p =>
      let l := laneAt p .left
      let r := laneAt p .right
      if (s.entry l).state = .disabled ∨ (s.entry r).state = .disabled then (s, refuse .noLane)
      else if (s.entry l).state ≠ .closed ∨ (s.entry r).state ≠ .closed then (s, refuse .badState)
      else if s.isMoveTarget l ∨ s.isMoveTarget r then (s, refuse .busy)
      else if ¬ openableMachine (s.supervisor l).machine ∨
          ¬ openableMachine (s.supervisor r).machine then (s, refuse .badState)
      else
        match resolveTerms s.defaults.terms (s.entry l).memory terms,
            resolveTerms s.defaults.terms (s.entry r).memory terms,
            bowlersOf? team1, bowlersOf? team2 with
        | some r1, some r2, some b1, some b2 =>
          if ¬ listFits team1 ∨ ¬ listFits team2 then (s, refuse .range)
          else if ¬ teamFits r1.terms ∨ ¬ teamFits r2.terms then (s, refuse .range)
          else
            match s.freeSessions with
            | i :: j :: _ =>
              (s.openPair p i j r1.terms r2.terms b1 b2,
                ⟨.ok, .openedPair i j (mergeClamps r1.clamped r2.clamped ++ listClamps 1 team1 ++
                  listClamps 2 team2)⟩)
            | _ => (s, refuse .full)
        | _, _, _, _ => (s, refuse .range)

/-! ## Bowlers (R16, R17) -/

/-- ADD_BOWLER (R16). -/
def reqAddBowler (session : Nat) (e : BowlerEntry) (s : State) : State × Reply :=
  if s.device ≠ .run then (s, refuse .notRunning)
  else
    match s.sessionInUse? session with
    | none => (s, refuse .notFound)
    | some (i, x) =>
      let slot := x.bowlers.length + 1
      if x.state = .closing then (s, refuse .badState)
      else if bowlerCapacity ≤ x.bowlers.length then (s, refuse .full)
      else
        match bowlerOf? e true
            (newGame x.game (Config.joiningHandicap (i.val + 1) slot x.game).val) with
        | none => (s, refuse .range)
        | some b =>
          (s.setSession i (some { x with bowlers := x.bowlers ++ [b] }),
            ⟨.ok, .slot slot (bowlerClamps 1 slot e)⟩)

/-- R17, order 5: the members without a withdrawal pending. -/
def remaining (x : Session) : List Bowler :=
  x.bowlers.filter fun b => b.member && !b.withdrawalPending

/-- R17: a withdrawal is marked pending. -/
def markPending (b : Bowler) : Bowler := { b with withdrawalPending := true }

/-- R17: an accepted withdrawal: at once, or pending while the bowler's ball is in flight. -/
def State.withdraw (s : State) (i : SessionId) (x : Session) (slot : Nat) : State :=
  if s.sessionInFlight i x ∧ x.slot = some slot then s.modSession i (modBowler markPending slot)
  else (s.withdrawNow i slot).settlePair (pairOf x.lane)

/-- WITHDRAW_BOWLER (R17). -/
def reqWithdrawBowler (session slot : Nat) (s : State) : State × Reply :=
  if s.device ≠ .run then (s, refuse .notRunning)
  else
    match s.sessionInUse? session with
    | none => (s, refuse .notFound)
    | some (i, x) =>
      match bowlerAt x slot with
      | none => (s, refuse .notFound)
      | some b =>
        if b.member = false then (s, refuse .notFound)
        else if x.state = .closing then (s, refuse .badState)
        else if b.withdrawalPending then (s, refuse .busy)
        else if (remaining x).length ≤ 1 then (s, refuse .badState)
        else (s.withdraw i x slot, accept)

/-! ## Closing (R19) -/

/-- R19: the sessions of a lane: its holder, or the pair-play sessions of its pair. R19 gives the two no
order; they stand by ascending id (DESIGN CHOICE, log entry 66). -/
def State.sessionsOf (s : State) (l : LaneId) : List SessionId :=
  match (s.entry l).state with
  | .opened => (s.entry l).holder.toList
  | .pairPlay =>
    allSessions.filter fun i => (s.session i).any fun x =>
      x.mode != .single && pairOf x.lane == pairOf l
  | .disabled | .closed | .manual => []

/-- R19: the sessions a CLOSE_LANE names; none where the session given is not one of the lane. -/
def State.closeNames (s : State) (l : LaneId) (session : Option Nat) : Option (List SessionId) :=
  match session with
  | none => some (s.sessionsOf l)
  | some n =>
    match sessionOf? n with
    | none => none
    | some i => if (s.sessionsOf l).contains i then some [i] else none

/-- The session is CLOSING. -/
def State.isClosing (s : State) (i : SessionId) : Bool := (s.session i).any fun x => x.state == .closing

/-- R19, R20, R51: a named session becomes CLOSING, its overdue ball is dropped, and one that holds no
lane completes its close at once. -/
def State.closeSession (s : State) (i : SessionId) : State :=
  if s.isClosing i then s
  else
    let s' := (s.becomeClosing i).dropOverdue i
    match s'.session i with
    | none => s'
    | some x => if s'.holdsLane i x.lane then s' else s'.tryClose i

/-- CLOSE_LANE (R19). Where it names both pair-play sessions, which R19 gives no order, the one with the
lower id changes first (DESIGN CHOICE, log entry 66). -/
def reqCloseLane (lane : Nat) (session : Option Nat) (s : State) : State × Reply :=
  if s.device ≠ .run then (s, refuse .notRunning)
  else
    match s.mappedLane? lane with
    | none => (s, refuse .noLane)
    | some l =>
      if (s.entry l).state = .closed ∨ (s.entry l).state = .manual then (s, refuse .badState)
      else
        match s.closeNames l session with
        | none => (s, refuse .notFound)
        | some ids =>
          if ids.all s.isClosing then (s, refuse .busy)
          else ((ids.foldl State.closeSession s).settlePair (pairOf l), accept)

/-! ## Moving (R22) -/

/-- R22: an accepted MOVE_SESSION; it completes at once where the source lane is quiet. -/
def State.beginMove (s : State) (i : SessionId) (source target : LaneId) (r : MoveResume) : State :=
  ((((s.modSession i fun y => { y with state := .moving }).modEntry source fun e =>
    { e with movePending := some ⟨target, r⟩ }).armingCheck source).raiseSessionState i
      none).settleLane source

/-- MOVE_SESSION (R22). -/
def reqMoveSession (session target : Nat) (r : MoveResume) (s : State) : State × Reply :=
  if s.device ≠ .run then (s, refuse .notRunning)
  else
    match s.sessionInUse? session with
    | none => (s, refuse .notFound)
    | some (i, x) =>
      if x.mode ≠ .single then (s, refuse .badState)
      else if x.state = .moving then (s, refuse .busy)
      else if x.state ≠ .opened ∨ x.expiryDue then (s, refuse .badState)
      else
        match s.mappedLane? target with
        | none => (s, refuse .noLane)
        | some t =>
          if t = x.lane ∨ (s.entry t).state ≠ .closed then (s, refuse .badState)
          else if s.isMoveTarget t then (s, refuse .busy)
          else if ¬ openableMachine (s.supervisor t).machine then (s, refuse .badState)
          else (s.beginMove i x.lane t r, accept)

/-! ## Extending a limit (R158) -/

/-- R158, order 4: the limit with a new value, where the value lies in the range of the kind and is
greater than the present one. -/
def raiseLimit (k : Limit) (value : Nat) : Option Limit :=
  match k with
  | .none => none
  | .games n => if n < value ∧ value ≤ 255 then some (.games value) else none
  | .minutes n => if n < value ∧ value ≤ 1440 then some (.minutes value) else none

/-- The limit value less the count charged toward it. -/
def remainingCount (x : Session) : Nat := ((limitCount x).map fun c => c.1 - c.2).getD 0

/-- R158: warned becomes no when the remaining count is above the warning threshold. -/
def clearWarned (x : Session) : Session :=
  { x with billing :=
    { x.billing with warned := x.billing.warned && decide (remainingCount x ≤ x.terms.warning) } }

/-- R8, R158: a STOPPED record returns to accrual, and its session to OPEN. -/
def resumeAccrual (credit : Bool) (x : Session) : Session :=
  { x with
    state := if x.state = .expired then .opened else x.state
    expiryDue := false
    billing :=
      { x.billing with state := if credit then .crediting else .running, expiryCount := none } }

/-- R158: a MINUTES limit extended for a session whose record is STOPPED. -/
def State.extendStopped (s : State) (i : SessionId) (x : Session) : State :=
  ((s.modSession i (resumeAccrual (s.credit x.lane))).raiseSessionState i none).armingCheck x.lane

/-- R9, R41, R158: a GAMES limit extended for an EXHAUSTED session: it returns to OPEN, the game start
is made again, and the machine is started as for an opening. -/
def State.extendExhausted (s : State) (i : SessionId) (x : Session) : State :=
  let s1 := (s.modSession i fun y => (startGame { y with state := .opened }).1)
  (s1.raiseSessionState i none).holderArrives x.lane

/-- R158: what the extension means for the session. -/
def State.extendEffects (s : State) (i : SessionId) (x : Session) : State :=
  match x.terms.limit with
  | .minutes _ => if x.billing.state = .stopped then s.extendStopped i x else s
  | .games _ => if x.state = .exhausted then s.extendExhausted i x else s
  | .none => s

/-- R158: an accepted EXTEND_LIMIT. -/
def State.extend (s : State) (i : SessionId) (x : Session) (k : Limit) : State :=
  let s1 := s.modSession i fun y => clearWarned { y with terms := { y.terms with limit := k } }
  (s1.extendEffects i x).warningTest i

/-- EXTEND_LIMIT (R158). -/
def reqExtendLimit (session value : Nat) (s : State) : State × Reply :=
  if s.device ≠ .run then (s, refuse .notRunning)
  else
    match s.sessionInUse? session with
    | none => (s, refuse .notFound)
    | some (i, x) =>
      if x.terms.limit = .none ∨ x.state = .closing then (s, refuse .badState)
      else
        match raiseLimit x.terms.limit value with
        | none => (s, refuse .range)
        | some k =>
          (s.extend i x k,
            ⟨.ok, .limit k (remainingCount { x with terms := { x.terms with limit := k } })⟩)

end Sys2Proof.Machine
end

