-- ==== Sys2Proof/Machine/Staging.lean ====
section
/-! DEFINITION. The requests of the Calendar Clock and the Tariff Unit (chapter 8): SET_CLOCK,
ADJUST_CLOCK, STAGE_ENTRY, STAGE_CLASS_DEFAULT, STAGE_SPECIAL_DAY, COMMIT_TARIFF, CANCEL_COMMIT. -/

namespace Sys2Proof.Machine

open Sys2Proof

/-! ## The clock -/

/-- SET_CLOCK (R138). -/
def reqSetClock (c : Calendar) (s : State) : State × Reply :=
  if calendarInRange c then
    (({ s with clock := { s.clock with calendar := c, valid := true, phase := 0 } }).raise 0
      (.clockSet ⟨some s.clock.valid, c, s.clock.calendar⟩), accept)
  else (s, refuse .range)

/-- ADJUST_CLOCK (R139). -/
def reqAdjustClock (s : State) : State × Reply :=
  if s.clock.valid then
    let c := nearestMinute s.clock.calendar
    (({ s with clock := { s.clock with calendar := c, phase := 0 } }).raise 0
      (.clockSet ⟨none, c, s.clock.calendar⟩), ⟨.ok, .clock c⟩)
  else (s, refuse .badState)

/-! ## Staging -/

/-- R142, order 3: the first failing field of a period entry. -/
def periodFault (f : PeriodFields) : Option TariffField :=
  if f.classSet = 0 ∨ 255 < f.classSet then some .classSet
  else if f.weekdaySet = 0 ∨ 127 < f.weekdaySet then some .weekdaySet
  else if 1439 < f.startMinute then some .startMinute
  else if f.endMinute = 0 ∨ 1440 < f.endMinute ∨ f.endMinute ≤ f.startMinute then some .endMinute
  else if 10000 < f.gamePrice then some .gamePrice
  else if 60000 < f.hourlyRate then some .hourlyRate
  else none

/-- Section 8.2: the period entry of a staging request. -/
def periodOf (f : PeriodFields) : Period where
  classes := BitVec.ofNat 8 f.classSet
  weekdays := BitVec.ofNat 7 f.weekdaySet
  startMinute := f.startMinute
  endMinute := f.endMinute
  gamePrice := f.gamePrice
  hourlyRate := f.hourlyRate

/-- STAGE_ENTRY (R142). -/
def reqStageEntry (slot : Nat) (entry : Option PeriodFields) (s : State) : State × Reply :=
  if s.tariff.pending.isSome then (s, refuse .busy)
  else if h : 1 ≤ slot ∧ slot ≤ 24 then
    match entry with
    | none =>
      ({ s with tariff := { s.tariff with slots := s.tariff.slots.set (slot - 1) none (by omega) } },
        accept)
    | some f =>
      match periodFault f with
      | some bad => (s, ⟨.range, .tariffField bad⟩)
      | none =>
        ({ s with tariff :=
            { s.tariff with
              slots := s.tariff.slots.set (slot - 1) (some (periodOf f)) (by omega) } }, accept)
  else (s, refuse .range)

/-- R143: the first failing field of a class default. -/
def classDefaultFault (tariffClass : Nat) (d : ClassDefault) : Option TariffField :=
  if 7 < tariffClass then some .tariffClass
  else if 10000 < d.gamePrice then some .gamePrice
  else if 60000 < d.hourlyRate then some .hourlyRate
  else if 60000 < d.minimum then some .minimum
  else if 59 < d.grace then some .grace
  else none

/-- STAGE_CLASS_DEFAULT (R143). -/
def reqStageClassDefault (tariffClass : Nat) (d : ClassDefault) (s : State) : State × Reply :=
  if s.tariff.pending.isSome then (s, refuse .busy)
  else
    match classDefaultFault tariffClass d, classOf? tariffClass with
    | none, some c =>
      ({ s with tariff := { s.tariff with stagedDefaults := s.tariff.stagedDefaults.set c d } },
        accept)
    | some bad, _ => (s, ⟨.range, .tariffField bad⟩)
    | none, none => (s, ⟨.range, .tariffField .tariffClass⟩)

/-- R144, order 2: a date and a weekday are outside their ranges. -/
def specialDayRange (day month : Nat) (weekday : Option Nat) : Bool :=
  decide (month = 0 ∨ 12 < month) || decide (day = 0 ∨ monthLength month true < day) ||
    weekday.any fun w => decide (w = 0 ∨ 7 < w)

/-- R144: the staging special days replaced, and their number. -/
def State.stageDays (s : State) (days : List SpecialDay) : State × Reply :=
  ({ s with tariff := { s.tariff with stagedDays := days } }, ⟨.ok, .dayCount days.length⟩)

/-- STAGE_SPECIAL_DAY (R144); no weekday is the word REMOVE. -/
def reqStageSpecialDay (day month : Nat) (weekday : Option Nat) (s : State) : State × Reply :=
  let days := s.tariff.stagedDays
  if s.tariff.pending.isSome then (s, refuse .busy)
  else if specialDayRange day month weekday then (s, refuse .range)
  else
    match weekday with
    | none =>
      if holdsDay day month days then s.stageDays (removeDay day month days)
      else (s, refuse .notFound)
    | some w =>
      if ¬ holdsDay day month days ∧ specialDayCapacity ≤ days.length then (s, refuse .full)
      else s.stageDays (insertDay ⟨day, month, w⟩ days)

/-! ## Commit -/

/-- R146, order 3: the first EMPTY slot among the first `count`, slots counting from 1. -/
def firstEmpty (t : Tariff) (count : Nat) : Option Nat :=
  ((t.slots.toList.take count).findIdx? (·.isNone)).map (· + 1)

/-- R146: an accepted commit: the swap at once in SETUP, a pending commit in RUN. -/
def State.commit (s : State) (count : Nat) : State × Reply :=
  match s.device with
  | .setup =>
    let s' := s.swap count
    (s', ⟨.ok, .version s'.tariff.version⟩)
  | .run =>
    ({ s with tariff := { s.tariff with pending := some ⟨count, minuteStamp s.clock.calendar⟩ } },
      ⟨.ok, .pendingVersion s.tariff.version⟩)

/-- COMMIT_TARIFF (R146). -/
def reqCommitTariff (count check : Nat) (s : State) : State × Reply :=
  if s.tariff.pending.isSome then (s, refuse .busy)
  else if 24 < count then (s, refuse .range)
  else
    match firstEmpty s.tariff count with
    | some slot => (s, ⟨.range, .emptySlot slot⟩)
    | none =>
      if (stagedCrc s.tariff count).toNat = check then s.commit count
      else (s, ⟨.check, .computedCrc (stagedCrc s.tariff count)⟩)

/-- CANCEL_COMMIT (R147). -/
def reqCancelCommit (s : State) : State × Reply :=
  match s.tariff.pending with
  | some _ => ({ s with tariff := { s.tariff with pending := none } }, accept)
  | none => (s, ⟨.badState, .version s.tariff.version⟩)

end Sys2Proof.Machine
end

