-- ==== Sys2Proof/Machine/Trunk.lean ====
section
/-! DEFINITION. The Trunk Interface (R175 to R177): what a request of the queue asks, the taking of
the oldest request, the transmitter, and the arrival of a request. -/

namespace Sys2Proof.Machine

open Sys2Proof

/-! ## What a request asks -/

/-- A request as the Trunk Interface takes it: its tag, its request code (R180, section 11.7) and its
effect with its reply. -/
structure Asked where
  tag : Byte
  code : Byte
  act : State → State × Reply

/-- R180, section 11.7: the request codes 27 to 44 name the requests taken in RUN only. -/
def runOnly (code : Byte) : Bool := decide (27 ≤ code.toNat ∧ code.toNat ≤ 44)

/-- R176: a request whose code names no request, or whose payload does not fit the request named. One
marked RUN only is answered NOT_RUNNING in SETUP before any other check (R180, log entry 13). -/
def reqUnknown (code : Byte) (s : State) : State × Reply :=
  if runOnly code ∧ s.device ≠ .run then (s, refuse .notRunning) else (s, refuse .range)

/-- R176: the request a command carries; the commands that are no request carry none. -/
def asked (i : Instr) : Option Asked :=
  match i with
  | .setLaneMap t es => some ⟨t, 1, reqSetLaneMap es⟩
  | .setProfile t n f => some ⟨t, 2, reqSetProfile n f⟩
  | .setFaultAction t xs => some ⟨t, 3, reqSetFaultAction xs⟩
  | .setNoticePriority t xs => some ⟨t, 4, reqSetNoticePriority xs⟩
  | .setPollOrder t p as time misses => some ⟨t, 5, reqSetPollOrder p as time misses⟩
  | .setDefaults t f => some ⟨t, 6, reqSetDefaults f⟩
  | .setReturn t xs => some ⟨t, 7, reqSetReturn xs⟩
  | .setClock t c => some ⟨t, 8, reqSetClock c⟩
  | .adjustClock t => some ⟨t, 9, reqAdjustClock⟩
  | .stageEntry t n e => some ⟨t, 10, reqStageEntry n e⟩
  | .stageClassDefault t c d => some ⟨t, 11, reqStageClassDefault c d⟩
  | .stageSpecialDay t d m w => some ⟨t, 12, reqStageSpecialDay d m w⟩
  | .commitTariff t n k => some ⟨t, 13, reqCommitTariff n k⟩
  | .cancelCommit t => some ⟨t, 14, reqCancelCommit⟩
  | .passThrough t l b => some ⟨t, 15, reqPassThrough l b⟩
  | .restartPairLink t p => some ⟨t, 16, reqRestartPairLink p⟩
  | .trimTrack t p n => some ⟨t, 17, reqTrimTrack p n⟩
  | .collectCharges t n u => some ⟨t, 18, reqCollectCharges n u⟩
  | .resetDevice t d => some ⟨t, 19, reqResetDevice d⟩
  | .goRun t => some ⟨t, 20, reqGoRun⟩
  | .readLane t l => some ⟨t, 21, reqReadLane l⟩
  | .readSession t i => some ⟨t, 22, reqReadSession i⟩
  | .readReturn t p => some ⟨t, 23, reqReadReturn p⟩
  | .readTariff t c => some ⟨t, 24, reqReadTariff c⟩
  | .readDevice t => some ⟨t, 25, reqReadDevice⟩
  | .readNoticeStatus t => some ⟨t, 26, reqReadNoticeStatus⟩
  | .openLane t l ts bs => some ⟨t, 27, reqOpenLane l ts bs⟩
  | .openPairPlay t p ts b1 b2 => some ⟨t, 28, reqOpenPairPlay p ts b1 b2⟩
  | .addBowler t i e => some ⟨t, 29, reqAddBowler i e⟩
  | .withdrawBowler t i k => some ⟨t, 30, reqWithdrawBowler i k⟩
  | .closeLane t l i => some ⟨t, 31, reqCloseLane l i⟩
  | .moveSession t i l r => some ⟨t, 32, reqMoveSession i l r⟩
  | .startMachine t l r => some ⟨t, 33, reqStartMachine l r⟩
  | .stopMachine t l k => some ⟨t, 34, reqStopMachine l k⟩
  | .reRack t l => some ⟨t, 35, reqReRack l⟩
  | .enterManual t l => some ⟨t, 36, reqEnterManual l⟩
  | .leaveManual t l => some ⟨t, 37, reqLeaveManual l⟩
  | .manualCommand t l b => some ⟨t, 38, reqManualCommand l b⟩
  | .enterBall t l i ps => some ⟨t, 39, reqEnterBall l i ps⟩
  | .correctBall t i k g f n pins => some ⟨t, 40, reqCorrectBall i k g f n pins⟩
  | .extendLimit t i v => some ⟨t, 41, reqExtendLimit i v⟩
  | .resyncReader t l => some ⟨t, 42, reqResyncReader l⟩
  | .clearFault t l c d r => some ⟨t, 43, reqClearFault l c d r⟩
  | .returnSetup t => some ⟨t, 44, reqReturnSetup⟩
  | .unknownRequest t c => some ⟨t, c, reqUnknown c⟩
  | .powerOnReset | .trunkFrameReceived _ | .transmitComplete | .answerReceived _ _
  | .wrongAddressAnswer _ | .damagedAnswer _ | .abandonedAnswer _ | .answerTimeout _
  | .slotCommandPlace _ _ | .owedCommandPlace _ | .stepWatchExpiry _ | .jamWatchExpiry _
  | .settleExpiry _ | .retryExpiry _ | .readingDeadlineExpiry _ | .heldResultApply _
  | .owedCycleRun _ | .followOnPark _ | .followOnStart _ | .pendingResumeApply _ | .secondTick
  | .expiryWaitEnd _ | .minuteBoundary | .closeSequence _ | .moveComplete _ => none

/-! ## Taking a request (R176) -/

/-- R176: a request acted on, with its response placed in the response slot. -/
def State.answer (s : State) (a : Asked) : State :=
  { (a.act s).1 with
    trunk := { (a.act s).1.trunk with response := some ⟨a.tag, a.code, (a.act s).2⟩ } }

/-- The request queue without its oldest request. -/
def State.dequeue (s : State) (rest : List Instr) : State :=
  { s with trunk := { s.trunk with requests := rest } }

/-- R176: the oldest request is taken whenever the response slot is empty. Only requests enter the
queue. -/
def State.takeOldest (s : State) : State :=
  match s.trunk.response, s.trunk.requests with
  | none, i :: rest =>
    match asked i with
    | some a => (s.dequeue rest).answer a
    | none => s.dequeue rest
  | _, _ => s

/-! ## The transmitter (R177) -/

/-- The response leaves its slot as its transmission begins. -/
def State.sendResponse (s : State) (r : Response) : State :=
  { s with trunk := { s.trunk with response := none, transmitting := some (.response r) } }

/-- A notice leaves the pending notice set as its transmission begins. -/
def State.sendNotice (s : State) (n : Notice) : State :=
  { s with
    notices := s.notices.erase n
    trunk := { s.trunk with transmitting := some (.notice n) } }

/-- R177: whenever the transmitter is free, it begins the response, else the chosen notice. -/
def State.transmit (s : State) : State :=
  match s.trunk.transmitting with
  | some _ => s
  | none =>
    match s.trunk.response with
    | some r => s.sendResponse r
    | none =>
      match bestNotice s.notices with
      | some n => s.sendNotice n
      | none => s

/-- R176, R177: the Trunk Interface does what it can: a request is taken, a frame begun, and, where
that emptied the response slot, the next request taken (log entry 4). -/
def State.settleTrunk (s : State) : State := s.takeOldest.transmit.takeOldest

/-! ## The arrival of a request (R176) -/

/-- R176: a request dropped because the queue holds 8. -/
def State.dropRequest (s : State) (tag code : Byte) : State :=
  let n := bump s.trunk.dropped
  ({ s with trunk := { s.trunk with dropped := n } }).raise 0 (.requestDropped tag code n)

/-- R176: a request enters the queue, or is dropped where the queue is full. -/
def State.enqueue (s : State) (i : Instr) : State :=
  match asked i with
  | none => s
  | some a =>
    if s.trunk.requests.length < requestCapacity then
      { s with trunk := { s.trunk with requests := s.trunk.requests ++ [i] } }
    else s.dropRequest a.tag a.code

/-- R176: a request arrives; it is taken at once when nothing is before it (log entry 3). -/
def State.submit (s : State) (i : Instr) : State := (s.enqueue i).settleTrunk

/-! ## The receiver (R175) -/

/-- One more length error. -/
def State.countLength (s : State) : State :=
  { s with trunk := { s.trunk with lengthErrors := bump s.trunk.lengthErrors } }

/-- One more CRC error. -/
def State.countCrc (s : State) : State :=
  { s with trunk := { s.trunk with crcErrors := bump s.trunk.crcErrors } }

/-- One more kind error. -/
def State.countKind (s : State) : State :=
  { s with trunk := { s.trunk with kindErrors := bump s.trunk.kindErrors } }

/-- The bytes collected and not yet resolved. -/
def State.keepBytes (s : State) (bytes : List Byte) : State :=
  { s with trunk := { s.trunk with received := bytes } }

/-- R175: the receiver hunts for a delimiter, reads the frame behind it, and after a dropped frame
hunts again from the byte after its delimiter. Every round uses up at least one byte, so a number of
rounds equal to the number of bytes resolves all it can. -/
def State.hunt : Nat → List Byte → State → State
  | 0, bytes, s => s.keepBytes bytes
  | _ + 1, [], s => s.keepBytes []
  | n + 1, b :: bytes, s =>
    if b = trunkDelimiter then
      match scanFrame bytes with
      | .wait => s.keepBytes (b :: bytes)
      | .badLength => State.hunt n bytes s.countLength
      | .badCrc => State.hunt n bytes s.countCrc
      | .badKind => State.hunt n bytes s.countKind
      | .request i rest => State.hunt n rest (s.submit i)
    else State.hunt n bytes s

/-- R175: bytes arrive on the trunk. -/
def State.receive (s : State) (bytes : List Byte) : State :=
  State.hunt (s.trunk.received ++ bytes).length (s.trunk.received ++ bytes) s

end Sys2Proof.Machine
end

