-- ==== Sys2Proof/Machine/Events.lean ====
section
/-! DEFINITION. The meanings of the commands that the desk does not send: the resets and frames of
the trunk, the events of the pair links, expiries, deferred operations that fall due, and ticks. Each
ends with the Trunk Interface doing what it can (log entry 4). -/

namespace Sys2Proof.Machine

open Sys2Proof

/-- What every step of the LC32 answers: a next state. -/
abbrev Result := Host.Outcome State Fault Refusal

/-- The end of a command: the trunk is settled. -/
def State.done (s : State) : Result := .next s.settleTrunk

/-! ## Time -/

/-- 00_scope, Time; R135: milliseconds pass. The sub-second phase runs on with them and waits at 999
for the tick that completes the second (log entry 2). -/
def State.pass (s : State) (ms : Nat) : State :=
  { s with
    deviceTime := s.deviceTime + ms
    clock := { s.clock with phase := min 999 (s.clock.phase + ms) } }

/-- Device time is at least a deadline when its expiry is met (log entry 2). -/
def State.passTo (s : State) (deadline : Nat) : State := s.pass (deadline - s.deviceTime)

/-! ## The part as a whole and the trunk -/

/-- POWER_ON_RESET (R181). The commands that wait are the model's input and stay. -/
def execPowerOnReset (s : State) : Result := .next { State.reset with pending := s.pending }

/-- TRUNK_FRAME_RECEIVED (R175). -/
def execTrunkFrameReceived (bytes : List Byte) (s : State) : Result := (s.receive bytes).done

/-- UNKNOWN_REQUEST (R176). -/
def execUnknownRequest (tag code : Byte) (s : State) : Result :=
  .next (s.submit (.unknownRequest tag code))

/-- TRANSMIT_COMPLETE (R177): the transmitter becomes free. -/
def execTransmitComplete (s : State) : Result :=
  ({ s with trunk := { s.trunk with transmitting := none } }).done

/-! ## Pair links (chapter 10) -/

/-- R165: a frame arrives on a pair link while its poll waits. -/
def State.linkFrame (s : State) (p : PairId) (frame : List Byte) : State :=
  match (s.poller p).poll with
  | none => s
  | some q => s.answerFrame p q frame

/-- R165: the answer timeout of the waiting poll expires. -/
def State.linkTimeout (s : State) (p : PairId) : State :=
  match (s.poller p).poll with
  | none => s
  | some q => (s.passTo q.deadline).timeoutPoll p q

/-- The waiting poll of a pair link has been abandoned by a restart (R173). -/
def State.pollAbandoned (s : State) (p : PairId) : Bool := (s.poller p).poll.any (·.abandoned)

/-- ANSWER_RECEIVED (R165, R170): the frame is judged by its own bytes. -/
def execAnswerReceived (p : PairId) (frame : List Byte) (s : State) : Result :=
  ((s.ensurePoll p).linkFrame p frame).done

/-- WRONG_ADDRESS_ANSWER (R165). While an abandoned poll waits no poll is outstanding, and it is not
counted (log entry 7). -/
def execWrongAddressAnswer (p : PairId) (s : State) : Result :=
  let s' := s.ensurePoll p
  (if s'.pollAbandoned p then s' else s'.countWrongAddress p).done

/-- DAMAGED_ANSWER (R165): counted whether or not the waiting poll is abandoned (log entry 7). -/
def execDamagedAnswer (p : PairId) (s : State) : Result := ((s.ensurePoll p).countDamaged p).done

/-- ABANDONED_ANSWER (R173): counted where a restart has abandoned the waiting poll. -/
def execAbandonedAnswer (p : PairId) (s : State) : Result :=
  let s' := s.ensurePoll p
  (if s'.pollAbandoned p then s'.countAbandoned p else s').done

/-- ANSWER_TIMEOUT (R165, R166). -/
def execAnswerTimeout (p : PairId) (s : State) : Result := ((s.ensurePoll p).linkTimeout p).done

/-- SLOT_COMMAND_PLACE (R168): where the slot is empty. -/
def execSlotCommandPlace (p : PairId) (a : NodeAddr) (s : State) : Result :=
  (if (s.node p a).slot.isNone then (s.slotEmptied p a).settlePair p else s).done

/-- OWED_COMMAND_PLACE (R115). -/
def execOwedCommandPlace (l : LaneId) (s : State) : Result := ((s.placeOwed l).settleLane l).done

/-! ## Expiries -/

/-- STEP_WATCH_EXPIRY (R86): the watch that runs on a lane's sequence is found expired. -/
def execStepWatchExpiry (l : LaneId) (s : State) : Result :=
  match (s.supervisor l).record with
  | none => s.done
  | some r =>
    match r.watch with
    | none => s.done
    | some d => (((s.passTo d).watchExpires l r).settleLane l).done

/-- JAM_WATCH_EXPIRY (R129): a RUNNING jam watch reaches its deadline. -/
def execJamWatchExpiry (p : PairId) (s : State) : Result :=
  match (s.ballReturn p).watch with
  | .running _ d => (((s.passTo d).jamExpires p).settlePair p).done
  | .suspended | .stopped => s.done

/-- SETTLE_EXPIRY (R75): the settle timer of a lane in SETTLING expires. -/
def execSettleExpiry (l : LaneId) (s : State) : Result :=
  match (s.tracker l).settleTimer with
  | none => s.done
  | some d =>
    if (s.tracker l).play = .settling then ((s.passTo d).settleExpires l).done else s.done

/-- RETRY_EXPIRY (R76): the retry timer of a lane expires, which brings a new READ in READING and
nothing in another play state. -/
def execRetryExpiry (l : LaneId) (s : State) : Result :=
  match (s.tracker l).retryTimer with
  | none => s.done
  | some d => ((s.passTo d).retryExpires l).done

/-- READING_DEADLINE_EXPIRY (R78): the reading deadline of a lane in READING expires. -/
def execReadingDeadlineExpiry (l : LaneId) (s : State) : Result :=
  match (s.tracker l).deadlineTimer with
  | none => s.done
  | some d =>
    if (s.tracker l).play = .reading then (((s.passTo d).deadlineExpires l).settleLane l).done
    else s.done

/-! ## Operations that were deferred (log entry 5) -/

/-- HELD_RESULT_APPLY (R27). -/
def execHeldResultApply (l : LaneId) (s : State) : Result :=
  (((s.released l).armingCheck l).settleLane l).done

/-- OWED_CYCLE_RUN (R93). -/
def execOwedCycleRun (l : LaneId) (s : State) : Result :=
  (((s.runOwed l).armingCheck l).settleLane l).done

/-- FOLLOW_ON_PARK (R97). -/
def execFollowOnPark (l : LaneId) (s : State) : Result := ((s.followPark l).settleLane l).done

/-- FOLLOW_ON_START (R96, R118). -/
def execFollowOnStart (l : LaneId) (s : State) : Result := ((s.followStart l).settleLane l).done

/-- PENDING_RESUME_APPLY (R59). -/
def execPendingResumeApply (i : SessionId) (s : State) : Result := (s.applyPending i).done

/-- CLOSE_SEQUENCE (R20): where the session is CLOSING and its case holds. -/
def execCloseSequence (i : SessionId) (s : State) : Result := (s.tryClose i).done

/-- MOVE_COMPLETE (R23): where the lane has a pending move and is quiet. -/
def execMoveComplete (l : LaneId) (s : State) : Result := (s.tryMove l).done

/-! ## The clock and the meters -/

/-- R18: the lane that a session names is tested for a waiting close or move. -/
def State.settleSession (s : State) (i : SessionId) : State :=
  match s.session i with
  | none => s
  | some x => s.settleLane x.lane

/-- R136, R137: the clock completes a second; a second that becomes 0 makes a minute boundary. -/
def tickClock (c : Clock) : Clock :=
  { c with
    calendar := addSecond c.calendar
    phase := 0
    boundaryDue := c.boundaryDue || (addSecond c.calendar).second == 0 }

/-- R151, R157: a session takes the tick; a close that its expiry began is made where its lane is
quiet. -/
def State.sessionTick (s : State) (i : SessionId) : State := (s.billingTick i).settleSession i

/-- SECOND_TICK (R136, R151). What is left of the current second has passed (log entry 2). -/
def execSecondTick (s : State) : Result :=
  let s' := s.pass (1000 - s.clock.phase)
  (allSessions.foldl State.sessionTick { s' with clock := tickClock s'.clock }).done

/-- R157: the expiry wait that runs for a session ends. -/
def State.expiryEnds (s : State) (i : SessionId) : State :=
  match s.session i with
  | none => s
  | some x =>
    if x.state = .expired ∧ x.billing.expiryCount.isSome then (s.endExpiryWait i).settleSession i
    else s

/-- EXPIRY_WAIT_END (R157). -/
def execExpiryWaitEnd (i : SessionId) (s : State) : Result := (s.expiryEnds i).done

/-- MINUTE_BOUNDARY (R137, R145). -/
def execMinuteBoundary (s : State) : Result := s.takeBoundary.done

end Sys2Proof.Machine
end

