-- ==== Sys2Proof/Machine/Requests.lean ====
section
/-! DEFINITION. The meanings of the desk's requests. Each arrives at the Trunk Interface and is taken
at once when nothing is before it, or waits its turn (R176, log entry 3); what it does when it is taken
is its own rule's, in the file of its family. -/

namespace Sys2Proof.Machine

open Sys2Proof

/-- SET_LANE_MAP (R2). -/
def execSetLaneMap (tag : Byte) (entries : List LaneMapPair) (s : State) : Result :=
  .next (s.submit (.setLaneMap tag entries))

/-- SET_PROFILE (R83). -/
def execSetProfile (tag : Byte) (number : Nat) (profile : Profile) (s : State) : Result :=
  .next (s.submit (.setProfile tag number profile))

/-- SET_FAULT_ACTION (R107). -/
def execSetFaultAction (tag : Byte) (items : List FaultActionItem) (s : State) : Result :=
  .next (s.submit (.setFaultAction tag items))

/-- SET_NOTICE_PRIORITY (R179). -/
def execSetNoticePriority (tag : Byte) (items : List NoticePriorityItem) (s : State) : Result :=
  .next (s.submit (.setNoticePriority tag items))

/-- SET_POLL_ORDER (R164). -/
def execSetPollOrder (tag : Byte) (pair : Nat) (addresses : List Nat) (timeout : Nat)
    (threshold : Nat) (s : State) : Result :=
  .next (s.submit (.setPollOrder tag pair addresses timeout threshold))

/-- SET_DEFAULTS (R4). -/
def execSetDefaults (tag : Byte) (fields : DefaultsFields) (s : State) : Result :=
  .next (s.submit (.setDefaults tag fields))

/-- SET_RETURN (R123). -/
def execSetReturn (tag : Byte) (items : List ReturnItem) (s : State) : Result :=
  .next (s.submit (.setReturn tag items))

/-- SET_CLOCK (R138). -/
def execSetClock (tag : Byte) (fields : Calendar) (s : State) : Result :=
  .next (s.submit (.setClock tag fields))

/-- ADJUST_CLOCK (R139). -/
def execAdjustClock (tag : Byte) (s : State) : Result :=
  .next (s.submit (.adjustClock tag))

/-- STAGE_ENTRY (R142). -/
def execStageEntry (tag : Byte) (slot : Nat) (entry : Option PeriodFields) (s : State) : Result :=
  .next (s.submit (.stageEntry tag slot entry))

/-- STAGE_CLASS_DEFAULT (R143). -/
def execStageClassDefault (tag : Byte) (tariffClass : Nat) (fields : ClassDefault)
    (s : State) : Result :=
  .next (s.submit (.stageClassDefault tag tariffClass fields))

/-- STAGE_SPECIAL_DAY (R144). -/
def execStageSpecialDay (tag : Byte) (day : Nat) (month : Nat) (weekday : Option Nat)
    (s : State) : Result :=
  .next (s.submit (.stageSpecialDay tag day month weekday))

/-- COMMIT_TARIFF (R146). -/
def execCommitTariff (tag : Byte) (count : Nat) (check : Nat) (s : State) : Result :=
  .next (s.submit (.commitTariff tag count check))

/-- CANCEL_COMMIT (R147). -/
def execCancelCommit (tag : Byte) (s : State) : Result :=
  .next (s.submit (.cancelCommit tag))

/-- PASS_THROUGH (R172). -/
def execPassThrough (tag : Byte) (lane : Nat) (payload : List Byte) (s : State) : Result :=
  .next (s.submit (.passThrough tag lane payload))

/-- RESTART_PAIR_LINK (R173). -/
def execRestartPairLink (tag : Byte) (pair : Nat) (s : State) : Result :=
  .next (s.submit (.restartPairLink tag pair))

/-- TRIM_TRACK (R132). -/
def execTrimTrack (tag : Byte) (pair : Nat) (count : Nat) (s : State) : Result :=
  .next (s.submit (.trimTrack tag pair count))

/-- COLLECT_CHARGES (R162). -/
def execCollectCharges (tag : Byte) (maximum : Nat) (unlisted : Bool) (s : State) : Result :=
  .next (s.submit (.collectCharges tag maximum unlisted))

/-- RESET_DEVICE (R181). -/
def execResetDevice (tag : Byte) (discard : Bool) (s : State) : Result :=
  .next (s.submit (.resetDevice tag discard))

/-- GO_RUN (R180). -/
def execGoRun (tag : Byte) (s : State) : Result :=
  .next (s.submit (.goRun tag))

/-- RETURN_SETUP (R180). -/
def execReturnSetup (tag : Byte) (s : State) : Result :=
  .next (s.submit (.returnSetup tag))

/-- READ_LANE (R182). -/
def execReadLane (tag : Byte) (lane : Nat) (s : State) : Result :=
  .next (s.submit (.readLane tag lane))

/-- READ_SESSION (R182). -/
def execReadSession (tag : Byte) (session : Nat) (s : State) : Result :=
  .next (s.submit (.readSession tag session))

/-- READ_DEVICE (R182). -/
def execReadDevice (tag : Byte) (s : State) : Result :=
  .next (s.submit (.readDevice tag))

/-- READ_RETURN (R134). -/
def execReadReturn (tag : Byte) (pair : Nat) (s : State) : Result :=
  .next (s.submit (.readReturn tag pair))

/-- READ_TARIFF (R148). -/
def execReadTariff (tag : Byte) (copy : TariffCopy) (s : State) : Result :=
  .next (s.submit (.readTariff tag copy))

/-- READ_NOTICE_STATUS (R178). -/
def execReadNoticeStatus (tag : Byte) (s : State) : Result :=
  .next (s.submit (.readNoticeStatus tag))

/-- OPEN_LANE (R14). -/
def execOpenLane (tag : Byte) (lane : Nat) (terms : TermSelectors)
    (bowlers : List BowlerEntry) (s : State) : Result :=
  .next (s.submit (.openLane tag lane terms bowlers))

/-- OPEN_PAIR_PLAY (R15). -/
def execOpenPairPlay (tag : Byte) (pair : Nat) (terms : TermSelectors)
    (team1 : List BowlerEntry) (team2 : List BowlerEntry) (s : State) : Result :=
  .next (s.submit (.openPairPlay tag pair terms team1 team2))

/-- ADD_BOWLER (R16). -/
def execAddBowler (tag : Byte) (session : Nat) (bowler : BowlerEntry) (s : State) : Result :=
  .next (s.submit (.addBowler tag session bowler))

/-- WITHDRAW_BOWLER (R17). -/
def execWithdrawBowler (tag : Byte) (session : Nat) (slot : Nat) (s : State) : Result :=
  .next (s.submit (.withdrawBowler tag session slot))

/-- CLOSE_LANE (R19). -/
def execCloseLane (tag : Byte) (lane : Nat) (session : Option Nat) (s : State) : Result :=
  .next (s.submit (.closeLane tag lane session))

/-- MOVE_SESSION (R22). -/
def execMoveSession (tag : Byte) (session : Nat) (target : Nat) (resume : MoveResume)
    (s : State) : Result :=
  .next (s.submit (.moveSession tag session target resume))

/-- START_MACHINE (R98). -/
def execStartMachine (tag : Byte) (lane : Nat) (resume : Option Resume) (s : State) : Result :=
  .next (s.submit (.startMachine tag lane resume))

/-- STOP_MACHINE (R99). -/
def execStopMachine (tag : Byte) (lane : Nat) (kind : StopKind) (s : State) : Result :=
  .next (s.submit (.stopMachine tag lane kind))

/-- RE_RACK (R100). -/
def execReRack (tag : Byte) (lane : Nat) (s : State) : Result :=
  .next (s.submit (.reRack tag lane))

/-- ENTER_MANUAL (R102). -/
def execEnterManual (tag : Byte) (lane : Nat) (s : State) : Result :=
  .next (s.submit (.enterManual tag lane))

/-- LEAVE_MANUAL (R104). -/
def execLeaveManual (tag : Byte) (lane : Nat) (s : State) : Result :=
  .next (s.submit (.leaveManual tag lane))

/-- MANUAL_COMMAND (R103). -/
def execManualCommand (tag : Byte) (lane : Nat) (body : List Byte) (s : State) : Result :=
  .next (s.submit (.manualCommand tag lane body))

/-- ENTER_BALL (R58). -/
def execEnterBall (tag : Byte) (lane : Nat) (session : Nat) (pins : List Nat)
    (s : State) : Result :=
  .next (s.submit (.enterBall tag lane session pins))

/-- CORRECT_BALL (R56). -/
def execCorrectBall (tag : Byte) (session : Nat) (slot : Nat) (game : Nat) (frame : Nat)
    (ball : Nat) (pinfall : Nat) (s : State) : Result :=
  .next (s.submit (.correctBall tag session slot game frame ball pinfall))

/-- EXTEND_LIMIT (R158). -/
def execExtendLimit (tag : Byte) (session : Nat) (value : Nat) (s : State) : Result :=
  .next (s.submit (.extendLimit tag session value))

/-- RESYNC_READER (R80). -/
def execResyncReader (tag : Byte) (lane : Nat) (s : State) : Result :=
  .next (s.submit (.resyncReader tag lane))

/-- CLEAR_FAULT (R117). -/
def execClearFault (tag : Byte) (lane : Nat) (classCode : Nat) (serviceDone : Bool)
    (resume : Option Nat) (s : State) : Result :=
  .next (s.submit (.clearFault tag lane classCode serviceDone resume))

end Sys2Proof.Machine
end

