-- ==== Sys2Proof/Machine/Dispatch.lean ====
section
/-! DEFINITION. The dispatch: one arm per constructor of `Instr`, each a direct call of its meaning. -/

namespace Sys2Proof.Machine

open Sys2Proof

def exec (i : Instr) (s : State) : Host.Outcome State Fault Refusal :=
  match i with
  | .powerOnReset => Sys2Proof.Machine.execPowerOnReset s
  | .trunkFrameReceived bytes => Sys2Proof.Machine.execTrunkFrameReceived bytes s
  | .unknownRequest tag code => Sys2Proof.Machine.execUnknownRequest tag code s
  | .transmitComplete => Sys2Proof.Machine.execTransmitComplete s
  | .setLaneMap tag entries => Sys2Proof.Machine.execSetLaneMap tag entries s
  | .setProfile tag number profile => Sys2Proof.Machine.execSetProfile tag number profile s
  | .setFaultAction tag items => Sys2Proof.Machine.execSetFaultAction tag items s
  | .setNoticePriority tag items => Sys2Proof.Machine.execSetNoticePriority tag items s
  | .setPollOrder tag pair addresses timeout threshold => Sys2Proof.Machine.execSetPollOrder tag pair addresses timeout threshold s
  | .setDefaults tag fields => Sys2Proof.Machine.execSetDefaults tag fields s
  | .setReturn tag items => Sys2Proof.Machine.execSetReturn tag items s
  | .setClock tag fields => Sys2Proof.Machine.execSetClock tag fields s
  | .adjustClock tag => Sys2Proof.Machine.execAdjustClock tag s
  | .stageEntry tag slot entry => Sys2Proof.Machine.execStageEntry tag slot entry s
  | .stageClassDefault tag tariffClass fields => Sys2Proof.Machine.execStageClassDefault tag tariffClass fields s
  | .stageSpecialDay tag day month weekday => Sys2Proof.Machine.execStageSpecialDay tag day month weekday s
  | .commitTariff tag count check => Sys2Proof.Machine.execCommitTariff tag count check s
  | .cancelCommit tag => Sys2Proof.Machine.execCancelCommit tag s
  | .passThrough tag lane payload => Sys2Proof.Machine.execPassThrough tag lane payload s
  | .restartPairLink tag pair => Sys2Proof.Machine.execRestartPairLink tag pair s
  | .trimTrack tag pair count => Sys2Proof.Machine.execTrimTrack tag pair count s
  | .collectCharges tag maximum unlisted => Sys2Proof.Machine.execCollectCharges tag maximum unlisted s
  | .resetDevice tag discard => Sys2Proof.Machine.execResetDevice tag discard s
  | .goRun tag => Sys2Proof.Machine.execGoRun tag s
  | .returnSetup tag => Sys2Proof.Machine.execReturnSetup tag s
  | .readLane tag lane => Sys2Proof.Machine.execReadLane tag lane s
  | .readSession tag session => Sys2Proof.Machine.execReadSession tag session s
  | .readDevice tag => Sys2Proof.Machine.execReadDevice tag s
  | .readReturn tag pair => Sys2Proof.Machine.execReadReturn tag pair s
  | .readTariff tag copy => Sys2Proof.Machine.execReadTariff tag copy s
  | .readNoticeStatus tag => Sys2Proof.Machine.execReadNoticeStatus tag s
  | .openLane tag lane terms bowlers => Sys2Proof.Machine.execOpenLane tag lane terms bowlers s
  | .openPairPlay tag pair terms team1 team2 => Sys2Proof.Machine.execOpenPairPlay tag pair terms team1 team2 s
  | .addBowler tag session bowler => Sys2Proof.Machine.execAddBowler tag session bowler s
  | .withdrawBowler tag session slot => Sys2Proof.Machine.execWithdrawBowler tag session slot s
  | .closeLane tag lane session => Sys2Proof.Machine.execCloseLane tag lane session s
  | .moveSession tag session target resume => Sys2Proof.Machine.execMoveSession tag session target resume s
  | .startMachine tag lane resume => Sys2Proof.Machine.execStartMachine tag lane resume s
  | .stopMachine tag lane kind => Sys2Proof.Machine.execStopMachine tag lane kind s
  | .reRack tag lane => Sys2Proof.Machine.execReRack tag lane s
  | .enterManual tag lane => Sys2Proof.Machine.execEnterManual tag lane s
  | .leaveManual tag lane => Sys2Proof.Machine.execLeaveManual tag lane s
  | .manualCommand tag lane body => Sys2Proof.Machine.execManualCommand tag lane body s
  | .enterBall tag lane session pins => Sys2Proof.Machine.execEnterBall tag lane session pins s
  | .correctBall tag session slot game frame ball pinfall => Sys2Proof.Machine.execCorrectBall tag session slot game frame ball pinfall s
  | .extendLimit tag session value => Sys2Proof.Machine.execExtendLimit tag session value s
  | .resyncReader tag lane => Sys2Proof.Machine.execResyncReader tag lane s
  | .clearFault tag lane classCode serviceDone resume => Sys2Proof.Machine.execClearFault tag lane classCode serviceDone resume s
  | .answerReceived pair frame => Sys2Proof.Machine.execAnswerReceived pair frame s
  | .wrongAddressAnswer pair => Sys2Proof.Machine.execWrongAddressAnswer pair s
  | .damagedAnswer pair => Sys2Proof.Machine.execDamagedAnswer pair s
  | .abandonedAnswer pair => Sys2Proof.Machine.execAbandonedAnswer pair s
  | .answerTimeout pair => Sys2Proof.Machine.execAnswerTimeout pair s
  | .slotCommandPlace pair address => Sys2Proof.Machine.execSlotCommandPlace pair address s
  | .owedCommandPlace lane => Sys2Proof.Machine.execOwedCommandPlace lane s
  | .stepWatchExpiry lane => Sys2Proof.Machine.execStepWatchExpiry lane s
  | .jamWatchExpiry pair => Sys2Proof.Machine.execJamWatchExpiry pair s
  | .settleExpiry lane => Sys2Proof.Machine.execSettleExpiry lane s
  | .retryExpiry lane => Sys2Proof.Machine.execRetryExpiry lane s
  | .readingDeadlineExpiry lane => Sys2Proof.Machine.execReadingDeadlineExpiry lane s
  | .heldResultApply lane => Sys2Proof.Machine.execHeldResultApply lane s
  | .owedCycleRun lane => Sys2Proof.Machine.execOwedCycleRun lane s
  | .followOnPark lane => Sys2Proof.Machine.execFollowOnPark lane s
  | .followOnStart lane => Sys2Proof.Machine.execFollowOnStart lane s
  | .pendingResumeApply session => Sys2Proof.Machine.execPendingResumeApply session s
  | .secondTick => Sys2Proof.Machine.execSecondTick s
  | .expiryWaitEnd session => Sys2Proof.Machine.execExpiryWaitEnd session s
  | .minuteBoundary => Sys2Proof.Machine.execMinuteBoundary s
  | .closeSequence session => Sys2Proof.Machine.execCloseSequence session s
  | .moveComplete lane => Sys2Proof.Machine.execMoveComplete lane s

end Sys2Proof.Machine
end

