-- ==== Sys2Proof/Machine/Step.lean ====
section
/-! DEFINITION. One step of the LC32: the command at the front of the queue, or a millisecond. -/

namespace Sys2Proof.Machine

open Sys2Proof

/-- One step: the command at the front is taken and run with the queue's rest; on an empty queue one
millisecond passes (log entry 1). -/
def step (s : State) : Host.Outcome State Fault Refusal :=
  match s.pending with
  | [] => .next (s.pass 1)
  | i :: rest => exec i { s with pending := rest }

/-- `s` with the command that a word of the opcode table spells put at the front of its queue; `s`
unchanged where the word spells none. -/
def State.withFetchWord (s : State) (nbits w : Nat) : State :=
  match decodeTableWord nbits w with
  | some i => { s with pending := i :: s.pending }
  | none => s

end Sys2Proof.Machine
end

