-- ==== Sys2Proof/Safety.lean ====
section
/-! DEFINITION. The terms that claims about the LC32 use: a trunk at which a request is taken at once,
how a response leaves, what every state of a safe run satisfies, and what a decision, a ball or a passage
may make of a state. -/

namespace Sys2Proof.Machine

open Sys2Proof

/-! ## Requests taken at once -/

/-- Nothing is before an arriving request: the response slot and the request queue are empty (R176). -/
def State.TrunkFree (s : State) : Prop := s.trunk.response = none ∧ s.trunk.requests = []

/-- R176, R177: the state once a response has been placed: on the line where the transmitter is free,
else in the response slot. -/
def State.reply (s : State) (r : Response) : State :=
  match s.trunk.transmitting with
  | none => { s with trunk := { s.trunk with transmitting := some (.response r) } }
  | some _ => { s with trunk := { s.trunk with response := some r } }

/-- R176, R177: the trunk has done what it can: an idle line has nothing to send, and no request
waits behind an empty response slot. -/
structure TrunkSettled (s : State) : Prop where
  line : s.trunk.transmitting = none →
    s.trunk.response = none ∧ ∀ n ∈ s.notices, eligible n = false
  queue : s.trunk.response = none → s.trunk.requests = []

/-- No session waits to leave its lane: none is CLOSING and none is MOVING. -/
def State.NoneLeaving (s : State) : Prop :=
  ∀ i x, s.session i = some x → x.state ≠ .closing ∧ x.state ≠ .moving

/-- R27: the Score Engine holds no ball result back on a lane. -/
def State.NothingHeld (s : State) (l : LaneId) : Prop :=
  ∀ i x, (s.entry l).holder = some i → s.session i = some x → x.held = none

/-! ## Safe states -/

/-- R178: at most one entry per source and kind, with a merge count from 1 to 255. -/
structure NoticesOk (ns : List Notice) : Prop where
  distinct : (ns.map fun n => (n.source, payloadKind n.payload)).Nodup
  merges : ∀ n ∈ ns, 1 ≤ n.merges ∧ n.merges ≤ 255

/-- R176: the request queue holds up to 8 requests, and nothing but requests. -/
structure QueueOk (t : Trunk) : Prop where
  bounded : t.requests.length ≤ requestCapacity
  requests : ∀ i ∈ t.requests, (asked i).isSome

/-- Section 5.3: the parameters of a profile lie in their ranges. -/
structure ProfileOk (f : Profile) : Prop where
  watches : ∀ n ∈ [f.deckDown, f.lift, f.sweep, f.respot, f.newRack, f.home, f.halt, f.guardDown,
    f.deckUp, f.powerDown], 1 ≤ n ∧ n ≤ 200
  powerUp : 1 ≤ f.powerUp ∧ f.powerUp ≤ 60
  settle : 500 ≤ f.settle ∧ f.settle ≤ 5000
  readingDeadline : 200 ≤ f.readingDeadline ∧ f.readingDeadline ≤ 5000
  retry : 100 ≤ f.retry ∧ f.retry ≤ 1000

/-- R63: the debounce values of a pair lie in their ranges. -/
structure DebounceOk (d : Debounce) : Prop where
  foul : 5 ≤ d.foul ∧ d.foul ≤ 50
  pit : 5 ≤ d.pit ∧ d.pit ≤ 100
  lift : 5 ≤ d.lift ∧ d.lift ≤ 100
  rack : 50 ≤ d.rack ∧ d.rack ≤ 2000

/-- R7, R13: a limit value lies in the range of its kind. -/
def LimitOk : Limit → Prop
  | .none => True
  | .games n => 1 ≤ n ∧ n ≤ 255
  | .minutes n => 1 ≤ n ∧ n ≤ 1440

/-- Section 1.2, R7: the values of the centre default record lie in their ranges, and its limit kind
goes with its billing mode. -/
structure DefaultsOk (d : CentreDefaults) : Prop where
  limit : LimitOk d.terms.limit
  fits : limitFits d.terms.billing d.terms.limit = true
  warning : d.terms.warning ≤ warningTop d.terms.limit
  basis : d.terms.basis ≤ 300
  percent : d.terms.percent ≤ 100
  cap : d.terms.cap ≤ 300
  expiryWait : d.expiryWait ≤ 30

/-- R163, R164: the poll order lists of a pair link hold 1 to 12 addresses, and the current slot is one
of the list in force. -/
structure OrdersOk (q : Poller) : Prop where
  order : 1 ≤ q.order.length ∧ q.order.length ≤ 12
  pendingOrder : ∀ order, q.pendingOrder = some order → 1 ≤ order.length ∧ order.length ≤ 12
  current : q.current < q.order.length

/-- R142: a period entry lies in its ranges. -/
structure PeriodOk (p : Period) : Prop where
  classes : p.classes ≠ 0
  weekdays : p.weekdays ≠ 0
  minutes : p.startMinute < p.endMinute ∧ p.endMinute ≤ 1440
  gamePrice : p.gamePrice ≤ 10000
  hourlyRate : p.hourlyRate ≤ 60000

/-- R143: a class default lies in its ranges. -/
structure ClassDefaultOk (d : ClassDefault) : Prop where
  gamePrice : d.gamePrice ≤ 10000
  hourlyRate : d.hourlyRate ≤ 60000
  minimum : d.minimum ≤ 60000
  grace : d.grace ≤ 59

/-- R144: a special day is a day of its month, treated as weekday 1 to 7. -/
structure SpecialDayOk (d : SpecialDay) : Prop where
  month : 1 ≤ d.month ∧ d.month ≤ 12
  day : 1 ≤ d.day ∧ d.day ≤ monthLength d.month true
  weekday : 1 ≤ d.weekday ∧ d.weekday ≤ 7

/-- R144, R146: special days in strictly ascending order of month and day, at most 16. -/
structure DaysOk (ds : List SpecialDay) : Prop where
  ascending : ds.Pairwise fun a b => dayBefore b.month b.day a = true
  bounded : ds.length ≤ specialDayCapacity

/-- R140, R142 to R146: the records of the active copy and of the staging copy lie in their ranges, the
active table holds at most 24 entries, and so does a pending commit. -/
structure TariffOk (t : Tariff) : Prop where
  table : t.activeTable.length ≤ 24 ∧ ∀ p ∈ t.activeTable, PeriodOk p
  activeDefaults : ∀ c : Fin 8, ClassDefaultOk t.activeDefaults[c]
  activeDays : DaysOk t.activeDays ∧ ∀ d ∈ t.activeDays, SpecialDayOk d
  slots : ∀ n : Fin 24, ∀ p, t.slots[n] = some p → PeriodOk p
  stagedDefaults : ∀ c : Fin 8, ClassDefaultOk t.stagedDefaults[c]
  stagedDays : DaysOk t.stagedDays ∧ ∀ d ∈ t.stagedDays, SpecialDayOk d
  pending : ∀ c, t.pending = some c → c.count ≤ 24

/-- The loaded tables hold values in their ranges (R4, R63, R83, R107, R123, R142 to R144, R163, R164,
R179). -/
structure SettingsOk (s : State) : Prop where
  profiles : ∀ n : Fin 4, ProfileOk s.profiles[n]
  debounce : ∀ p, DebounceOk (s.filter p).debounce
  timeout : ∀ p, 2 ≤ (s.poller p).timeout ∧ (s.poller p).timeout ≤ 50
  threshold : ∀ p, 1 ≤ (s.poller p).threshold ∧ (s.poller p).threshold ≤ 15
  capacity : ∀ p, 1 ≤ (s.ballReturn p).capacity ∧ (s.ballReturn p).capacity ≤ 12
  jamSeconds : ∀ p, 4 ≤ (s.ballReturn p).jamSeconds ∧ (s.ballReturn p).jamSeconds ≤ 60
  faultPriority : ∀ n : Fin 15, s.faultTable[n].priority ≤ 15
  noticePriority : ∀ n : Fin 20, s.priorities[n] ≤ 15
  defaults : DefaultsOk s.defaults
  orders : ∀ p, OrdersOk (s.poller p)
  tariff : TariffOk s.tariff

/-- The bounded collections hold no more than their capacity (R122, R144, R161, R172). -/
structure StoresOk (s : State) : Prop where
  days : DaysOk s.tariff.stagedDays
  charges : s.charges.lines.length ≤ chargeCapacity
  tracks : ∀ p, (s.ballReturn p).track.length ≤ trackCapacity
  frames : ∀ p, (s.poller p).queue.length ≤ displayCapacity

/-- What every state of a safe run satisfies. -/
structure Safe (s : State) : Prop where
  notices : NoticesOk s.notices
  queue : QueueOk s.trunk
  stores : StoresOk s
  settings : SettingsOk s
  calendar : calendarInRange s.clock.calendar = true

/-! ## What equipment decisions may change -/

/-- `t` comes from `s` by decisions about the equipment of one pair: its machines, play states,
faults, command slots, owed commands, lift and jam watch, with the notices they raise. Sessions,
charges, the clock, the tariff, the loaded tables, the trunk, every lane table entry and meter, every
filter, track list and poll, and everything of every other pair stand as they were. -/
structure OnPair (p : PairId) (s t : State) : Prop where
  others : t = { s with lanes := t.lanes, pairs := t.pairs, notices := t.notices }
  lanes : ∀ k, pairOf k ≠ p → t.lane k = s.lane k
  pairs : ∀ q, q ≠ p → t.pair q = s.pair q
  entry : ∀ k, t.entry k = s.entry k
  meter : ∀ k, t.meter k = s.meter k
  classes : ∀ k, (t.lane k).faults.map (·.cls) = (s.lane k).faults.map (·.cls)
  pairFaults : ∀ q, (t.pair q).faults = (s.pair q).faults
  pitCount : ∀ k, (t.tracker k).pitCount = (s.tracker k).pitCount
  filter : ∀ q, t.filter q = s.filter q
  track : ∀ q, (t.ballReturn q).track = (s.ballReturn q).track
  poll : ∀ q, (t.poller q).poll = (s.poller q).poll

/-! ## Balls and frames -/

/-- A ball result that a session in use takes as the first ball of a frame 1 to 9 by bowler `b` in slot
`k`: it faces the full rack, is no foul and leaves pins, and neither a withdrawal nor a resume waits for
it. -/
structure PlainFirstBall (x : Session) (r : BallResult) (k f : Nat) (b : Bowler) : Prop where
  faces : x.nextBall = ⟨k, f, 1, .full, fullRack, none⟩
  frame : 1 ≤ f ∧ f ≤ 9
  noFoul : r.foul = false
  leaves : pinCount r.after ≠ 0
  bowler : bowlerAt x k = some b
  stays : b.withdrawalPending = false
  empty : ∃ fr, nth1 b.game.frames f = some fr ∧ fr.balls = []
  noResume : x.pendingResume = none

/-- R44: the first ball of bowler `b` in frame `f` makes a game charge. -/
def ChargeDue (x : Session) (f : Nat) (b : Bowler) : Prop :=
  x.terms.billing = .game ∧ f = 1 ∧ b.game.charged = false

/-- R28 to R31, R33, R44: the session after such a ball: the ball in its frame, the
game charged where the ball is the first of frame 1 under GAME billing, the next ball the second of the
frame on the leave, nothing held; every other field as it was. -/
def afterFirstBall (x : Session) (r : BallResult) (k f : Nat) (b : Bowler) : Session :=
  let ball : Ball := ⟨10 - pinCount r.after, .full, fullRack, r.after, false,
    isSplit .full false r.after, r.source, false, r.stamp⟩
  { x with
    bowlers := x.bowlers.set (k - 1) { b with game := { recordBall f ball b.game with
      charged := b.game.charged || decide (x.terms.billing = .game ∧ f = 1) } }
    nextBall := ⟨k, f, 2, .leave, r.after, some (pinCount r.after)⟩
    held := none }

/-- The session as it was, but for the billing state, which follows a lane's credit (R150). -/
def SameButBillingState (x y : Session) : Prop :=
  y = { x with billing := { x.billing with state := y.billing.state } }

/-- R34: a complete frame `n` of a game, `later` being the balls of the frames after it: a strike in
frames 1 to 9 is SCORED with 10 and the next two balls, a spare with 10 and the next one, another frame 1
to 9 with the sum of its balls, frame 10 with the sum of its balls; a strike or spare whose bonus balls
are not all recorded is AWAITING_BONUS without a score. -/
def FrameScored (n : Nat) (f : Frame) (later : List Ball) : Prop :=
  let scored := fun k : Nat => f.status = .scored ∧ f.score = some k
  let awaits := f.status = .awaitingBonus ∧ f.score = none
  (∀ x, n ≤ 9 → f.balls = [x] → x.pinfall = 10 → x.foul = false →
    (∀ y z rest, later = y :: z :: rest → scored (10 + y.pinfall + z.pinfall)) ∧
    (later.length < 2 → awaits)) ∧
  (∀ x y, n ≤ 9 → f.balls = [x, y] → ¬ (x.pinfall = 10 ∧ x.foul = false) →
    (x.pinfall + y.pinfall = 10 →
      (∀ z rest, later = z :: rest → scored (10 + z.pinfall)) ∧ (later = [] → awaits)) ∧
    (x.pinfall + y.pinfall ≠ 10 → scored (x.pinfall + y.pinfall))) ∧
  (n = 10 → scored (f.balls.map (·.pinfall)).sum)

/-- R31, R32: the balls complete frame `n`: in frames 1 to 9 a strike or a second ball, in frame 10 a
third ball, or a second that neither follows a strike nor makes ten (with the first on a leave, alone on
a full rack). -/
def CompleteFrame (n : Nat) (balls : List Ball) : Prop :=
  if n = 10 then
    3 ≤ balls.length ∨ ∃ x y, balls = [x, y] ∧
      (y.faced = .leave → x.pinfall + y.pinfall ≠ 10) ∧
      (y.faced = .full → ¬ (y.pinfall = 10 ∧ y.foul = false) ∧ ¬ (x.pinfall = 10 ∧ x.foul = false))
  else 2 ≤ balls.length ∨ ∃ x, balls = [x] ∧ x.pinfall = 10 ∧ x.foul = false

/-- R31, R32: what the next ball of a frame `n` that goes on faces: FULL as its first ball, after a foul,
and in frame 10 after a strike or a spare; else the leave of the ball before it. -/
def FacesNext (n : Nat) (balls : List Ball) (faced : Faced) (before : PinSet) : Prop :=
  let full := faced = .full ∧ before = fullRack
  let leave := fun x : Ball => faced = .leave ∧ before = x.after
  (balls = [] → full) ∧
  (∀ x, balls = [x] →
    (x.foul = true ∨ n = 10 ∧ x.pinfall = 10 → full) ∧
    (x.foul = false → ¬ (n = 10 ∧ x.pinfall = 10) → leave x)) ∧
  (∀ x y, balls = [x, y] →
    (y.foul = true ∨ y.faced = .leave ∨ y.pinfall = 10 → full) ∧
    (y.foul = false → y.faced = .full → y.pinfall ≠ 10 → leave y))

/-- R55: the four conditions of the structural check, on the balls `bs` of frame `f` with the new pinfall
in place: (1) every later ball faced what the progression gives for it; (2) the frame is complete as it
was, and where the next-ball record names it, the next ball faces what the record holds; (3) from a ball
that faced FULL through each that faced LEAVE the pinfalls make at most ten; (4) a foul has no pins. -/
structure CorrectionFits (x : Session) (slot frame : Nat) (f : Frame) (bs : List Ball) : Prop where
  faces : ∀ j b, 1 ≤ j → bs[j]? = some b → ¬ CompleteFrame frame (bs.take j) ∧
    ∃ before, FacesNext frame (bs.take j) b.faced before
  ends : CompleteFrame frame bs ↔ f.status = .scored ∨ f.status = .awaitingBonus
  next : ¬ CompleteFrame frame bs → x.nextBall.slot = slot → x.nextBall.frame = frame →
    ∃ before, FacesNext frame bs x.nextBall.faced before
  leaves : ∀ i j, i ≤ j → j < bs.length → (i = 0 ∨ bs[i]?.map (·.faced) = some .full) →
    (∀ m, i < m → m ≤ j → bs[m]?.map (·.faced) = some .leave) →
    bs[j]?.map (·.faced) = some .leave →
    (((bs.take (j + 1)).drop i).map (·.pinfall)).sum ≤ 10
  fouls : ∀ b ∈ bs, b.foul = true → b.pinfall = 0

/-! ## Passages and arming -/

/-- R90, R70: the arming check has left a tracker as it is, or moved it between NOT_ARMED and ARMED, with
foul pending cleared where it left ARMED. -/
def Rearmed (k x : Tracker) : Prop :=
  x = k ∨ k.play = .notArmed ∧ x = { k with play := .armed } ∨
    k.play = .armed ∧ x = { k with play := .notArmed, foulPending := none }

/-- `t` comes from `s` by a change of the return of pair `p` and the arming checks of its lanes that
follow (R91, R130), with the notices these raise; all else stands. -/
structure ReturnAlone (p : PairId) (s t : State) : Prop where
  others : t = { s with lanes := t.lanes, pairs := t.pairs, notices := t.notices }
  pairs : ∀ q, t.pair q = if q = p then { s.pair p with ballReturn := t.ballReturn p } else s.pair q
  lanes : ∀ k, t.lane k = { s.lane k with tracker := t.tracker k }
  trackers : ∀ k, t.tracker k = s.tracker k ∨ pairOf k = p ∧ Rearmed (s.tracker k) (t.tracker k)

/-- `t` comes from `s` by decisions about the equipment of pair `p`, and by billing states that follow the
credit of its lanes (R112, R150), with the notices they raise; all else stands. -/
structure CreditFollows (p : PairId) (s t : State) : Prop where
  others : t = { s with
    lanes := t.lanes, pairs := t.pairs, sessions := t.sessions, notices := t.notices }
  lanes : ∀ k, pairOf k ≠ p → t.lane k = s.lane k
  pairs : ∀ q, q ≠ p → t.pair q = s.pair q
  entry : ∀ k, t.entry k = s.entry k
  meter : ∀ k, t.meter k = s.meter k
  filter : ∀ q, t.filter q = s.filter q
  free : ∀ i, s.session i = none → t.session i = none
  used : ∀ i x, s.session i = some x → ∃ y, t.session i = some y ∧ SameButBillingState x y

/-- R128: the jam watch of a return decided afresh at device time `now`, `alive` telling whether the lane
I/O node is ALIVE: STOPPED once expired; where it may run it runs, on to the deadline it has or from now;
else a RUNNING one is SUSPENDED. -/
def WatchDecided (now : Nat) (alive : Prop) (r : BallReturn) (w : JamWatch) : Prop :=
  let may := r.track ≠ [] ∧ r.liftOn = true ∧ r.rackFull = false ∧ alive
  (r.watchExpired = true → w = .stopped) ∧
  (r.watchExpired = false → may →
    w = match r.watch with
      | .running base deadline => .running base deadline
      | _ => .running now (now + r.jamSeconds * 1000)) ∧
  (r.watchExpired = false → ¬ may →
    w = match r.watch with
      | .stopped => .stopped
      | _ => .suspended)

/-- R72: what a foul passage of lane `l` with its stamp makes of state `w`. On an ARMED lane, not MANUAL
or DISABLED, whose holder's foul detection is on, the stamp becomes foul pending; elsewhere the passage is
ignored and counted. -/
def FoulPassed (l : LaneId) (stamp : NodeTime) (w t : State) : Prop :=
  let acts := (w.tracker l).play = .armed ∧ (w.entry l).state ≠ .manual ∧
    (w.entry l).state ≠ .disabled ∧
    ∃ i x, (w.entry l).holder = some i ∧ w.session i = some x ∧ x.terms.foulDetection = true
  (acts → t = w.modTracker l fun k => { k with foulPending := some stamp }) ∧
  (¬ acts → t = w.modTracker l fun k => { k with ignoredFouls := min 65535 (k.ignoredFouls + 1) })

/-- R73, R74: the tracker of lane `l` after a pit passage with its stamp: the pit count goes up; on an
ARMED lane a ball begins, a foul where foul pending lies at most 8 seconds before it; elsewhere the ball
is a stray, counted on a CLOSED, OPEN or PAIR_PLAY lane. -/
def pitTaken (w : State) (l : LaneId) (stamp : NodeTime) : Tracker :=
  let k := w.tracker l
  let strays := match (w.entry l).state with
    | .closed | .opened | .pairPlay => min 65535 (k.strays + 1)
    | .manual | .disabled => k.strays
  if k.play = .armed then
    { k with
      play := .settling, pitCount := k.pitCount + 1, foulPending := none
      settleTimer := some (w.deviceTime + (w.profileOf l).settle)
      ball := some ⟨stamp, w.deviceTime,
        (match k.foulPending with
          | none => false
          | some e => decide ((stamp - e).toNat ≤ 8000)), 0⟩ }
  else { k with pitCount := k.pitCount + 1, strays := strays }

/-- R73, R74, R124, R130: what a pit passage of lane `l` of pair `p` makes of state `w`: first the tracker,
where a stray on a lane in the desk's hands is told by STRAY_BALL; then the track. Below 16 entries the
ball enters the track, at capacity is worked out, the jam watch is decided, and no lane of the pair stays
ARMED at capacity. At 16 overflow is set and counted and RETURN_JAM raised, here with a table action of
NONE or HOLD. -/
def PitPassed (p : PairId) (l : LaneId) (stamp : NodeTime) (w t : State) : Prop :=
  let u := w.modTracker l fun _ => pitTaken w l stamp
  let r := w.ballReturn p
  let action := w.faultTable[faultIndex .returnJam].action
  ((w.tracker l).play ≠ .armed → (w.entry l).state ≠ .manual → (w.entry l).state ≠ .disabled →
    r.track.length < 16 ∨ action = .none ∨ action = .hold →
    ∃ n ∈ t.notices, n.source = laneSource l ∧ payloadKind n.payload = .strayBall) ∧
  (r.track.length < 16 →
    let longer := { r with
      track := r.track ++ [⟨l, w.deviceTime⟩], atCapacity := decide (r.capacity ≤ r.track.length + 1) }
    ReturnAlone p u t ∧ t.ballReturn p = { longer with watch := (t.ballReturn p).watch } ∧
    WatchDecided w.deviceTime ((w.node p laneIoAddr).state = .alive) longer (t.ballReturn p).watch ∧
    (longer.atCapacity = true → ∀ d, (t.tracker (laneAt p d)).play ≠ .armed)) ∧
  (16 ≤ r.track.length → action = .none ∨ action = .hold →
    t.ballReturn p = { r with overflow := true, overflows := min 65535 (r.overflows + 1) } ∧
    (∃ f ∈ (t.pair p).faults, f.cls = .returnJam ∧ f.present = true) ∧
    (∀ k, t.tracker k = u.tracker k ∨ pairOf k = p ∧ Rearmed (u.tracker k) (t.tracker k)) ∧
    CreditFollows p u t)

/-- R125, R128, R129: what a LIFT passage of pair `p` makes of state `w`. An empty track counts a phantom.
Else the oldest entry leaves, watch expired and overflow become no, at capacity is worked out, and the jam
watch starts afresh where it may run. With no jam condition before, nothing else changes but the arming of
the pair's lanes; one that ends takes RETURN_JAM from the pair's set, or latches it where its action is
STOP or PARK. -/
def LiftPassed (p : PairId) (w t : State) : Prop :=
  let r := w.ballReturn p
  (r.track = [] → t = w.modReturn p fun r => { r with phantoms := min 65535 (r.phantoms + 1) }) ∧
  ∀ e rest, r.track = e :: rest →
    let may := rest ≠ [] ∧ r.liftOn = true ∧ r.rackFull = false ∧
      (w.node p laneIoAddr).state = .alive
    let jammed := r.watchExpired = true ∨ r.overflow = true
    let b := t.ballReturn p
    b.track = rest ∧ b.watchExpired = false ∧ b.overflow = false ∧
    b.atCapacity = decide (r.capacity ≤ rest.length) ∧
    (¬ jammed → ReturnAlone p w t ∧
      b = { r with
        track := rest, watchExpired := false, overflow := false
        atCapacity := decide (r.capacity ≤ rest.length), watch := b.watch } ∧
      (may → b.watch = .running w.deviceTime (w.deviceTime + r.jamSeconds * 1000)) ∧
      (¬ may → b.watch = match r.watch with
        | .stopped => .stopped
        | _ => .suspended)) ∧
    (jammed → CreditFollows p w t ∧ ∀ before f after, (w.pair p).faults = before ++ f :: after → f.cls = .returnJam →
      (∀ g ∈ before ++ after, g.cls ≠ .returnJam) →
      (f.action = .none ∨ f.action = .hold → (t.pair p).faults = before ++ after) ∧
      (f.action = .stop ∨ f.action = .park →
        (t.pair p).faults = before ++ { f with present := false, latched := true } :: after))

/-- R126 to R128: what a rack level handed on for pair `p` makes of state `w`. The level already held
changes nothing. Another is kept, RETURN_STATE is raised, the lift runs where the pair is in use and the
rack has room, SET_OUTPUTS goes to an ALIVE lane I/O node with an empty slot where the lift changes, and
the jam watch is decided. -/
def RackBecomes (p : PairId) (full : Bool) (w t : State) : Prop :=
  let r := w.ballReturn p
  let n := w.node p laneIoAddr
  let on := w.pairInUse p && !full
  let moved := { r with rackFull := full, inUse := w.pairInUse p, liftOn := on }
  (r.rackFull = full → t = w) ∧
  (r.rackFull ≠ full →
    t = { w with pairs := t.pairs, notices := t.notices } ∧ (∀ q, q ≠ p → t.pair q = w.pair q) ∧
    (t.pair p).faults = (w.pair p).faults ∧ t.filter p = w.filter p ∧
    t.ballReturn p = { moved with watch := (t.ballReturn p).watch } ∧
    WatchDecided w.deviceTime (n.state = .alive) moved (t.ballReturn p).watch ∧
    (∃ x ∈ t.notices, x.source = pairSource p ∧ payloadKind x.payload = .returnState) ∧
    (on = r.liftOn ∨ n.state ≠ .alive → t.poller p = w.poller p) ∧
    (on ≠ r.liftOn → n.state = .alive → n.slot = none →
      t.poller p = (w.modNode p laneIoAddr fun n =>
        { n with slot := some ⟨.setOutputs on, n.nextSerial, none⟩
                 nextSerial := n.nextSerial + 1 }).poller p))

/-- R69, R72 to R74, R124 to R126: what a passage of a detector of pair `p`, handed on with its stamp,
makes of state `w`. -/
def Passed (p : PairId) (e : Detector) (stamp : NodeTime) (w t : State) : Prop :=
  match e with
  | .foulLeft => FoulPassed (laneAt p .left) stamp w t
  | .foulRight => FoulPassed (laneAt p .right) stamp w t
  | .pitLeft => PitPassed p (laneAt p .left) stamp w t
  | .pitRight => PitPassed p (laneAt p .right) stamp w t
  | .lift => LiftPassed p w t
  | .rack => RackBecomes p true w t

/-- R66: what the re-arming of a detector of pair `p` makes of state `w`: a RACK is no longer full. -/
def Released (p : PairId) (e : Detector) (w t : State) : Prop :=
  match e with
  | .rack => RackBecomes p false w t
  | .foulLeft | .foulRight | .pitLeft | .pitRight | .lift => t = w

/-- A fault or a refusal has not been met. -/
def Completes (r : Host.Outcome State Fault Refusal) : Prop :=
  match r with
  | .next _ => True
  | .fault _ => False
  | .refused _ => False

end Sys2Proof.Machine
end

