-- ==== Sys2Proof/WellFormed.lean ====
section
/-! DEFINITION. Well-formed commands: a request whose numbers fit the fields of its frame and whose
lists fit a one-byte count (section 11.7), with the command body that MANUAL_COMMAND admits (R103).
Events carry lanes, pairs, nodes and sessions that exist, and answers of any bytes. -/

namespace Sys2Proof

/-- A number that one byte holds. -/
def fits1 (n : Nat) : Bool := n < 256

/-- A number that two bytes hold. -/
def fits2 (n : Nat) : Bool := n < 65536

/-- A list that a one-byte count numbers. -/
def countFits {α : Type} (xs : List α) : Bool := fits1 xs.length

/-- A selector byte, and the value of a VALUE selector. A code that names no selector is above 2. -/
def Selector.fits {α : Type} (value : α → Bool) : Selector α → Bool
  | .value v => value v
  | .centreDefault => true
  | .keep => true
  | .unlisted code => fits1 code && decide (2 < code)

/-- The ten selectors with their values (section 11.7). -/
def TermSelectors.fits (t : TermSelectors) : Bool :=
  t.billing.fits fits1 && t.tariffClass.fits fits1 &&
    t.limit.fits (fun v => fits1 v.1 && fits2 v.2) && t.warning.fits fits1 &&
    t.foulDetection.fits fits1 && t.reRackAllowed.fits fits1 && t.resume.fits fits1 &&
    t.basis.fits fits2 && t.percent.fits fits1 && t.cap.fits fits2

/-- A bowler entry. -/
def BowlerEntry.fits (e : BowlerEntry) : Bool :=
  fits2 e.handle && fits2 e.average && fits1 e.modeCode && fits2 e.fixedValue

/-- A bowler list. -/
def bowlersFit (es : List BowlerEntry) : Bool := countFits es && es.all BowlerEntry.fits

/-- A pair entry of SET_LANE_MAP. -/
def LaneMapPair.fits (e : LaneMapPair) : Bool :=
  fits1 e.pair && fits1 e.left.profile && fits1 e.right.profile && fits1 e.foul && fits1 e.pit &&
    fits1 e.lift && fits2 e.rack

/-- The parameters of a machine profile. -/
def Profile.fits (f : Profile) : Bool :=
  fits1 f.deckDown && fits1 f.lift && fits1 f.sweep && fits1 f.respot && fits1 f.newRack &&
    fits1 f.home && fits1 f.powerUp && fits1 f.halt && fits1 f.guardDown && fits1 f.deckUp &&
    fits1 f.powerDown && fits2 f.settle && fits2 f.readingDeadline && fits2 f.retry

/-- An item of SET_FAULT_ACTION. -/
def FaultActionItem.fits (x : FaultActionItem) : Bool :=
  fits1 x.classCode && fits1 x.actionCode && fits1 x.priority

/-- An item of SET_NOTICE_PRIORITY. -/
def NoticePriorityItem.fits (x : NoticePriorityItem) : Bool := fits1 x.kind && fits1 x.priority

/-- An item of SET_RETURN. -/
def ReturnItem.fits (x : ReturnItem) : Bool :=
  fits1 x.pair && fits1 x.capacity && fits1 x.jamSeconds

/-- The centre default record of SET_DEFAULTS. -/
def DefaultsFields.fits (f : DefaultsFields) : Bool :=
  fits1 f.billing && fits1 f.tariffClass && fits1 f.limitKind && fits2 f.limitValue &&
    fits1 f.warning && fits1 f.foulDetection && fits1 f.reRackAllowed && fits1 f.resume &&
    fits2 f.basis && fits1 f.percent && fits2 f.cap && fits1 f.expiryWait

/-- The calendar fields of SET_CLOCK. -/
def Calendar.fits (c : Calendar) : Bool :=
  fits1 c.second && fits1 c.minute && fits1 c.hour && fits1 c.weekday && fits1 c.day &&
    fits1 c.month && fits2 c.year

/-- A period entry. -/
def PeriodFields.fits (f : PeriodFields) : Bool :=
  fits1 f.classSet && fits1 f.weekdaySet && fits2 f.startMinute && fits2 f.endMinute &&
    fits2 f.gamePrice && fits2 f.hourlyRate

/-- A class default. -/
def ClassDefault.fits (d : ClassDefault) : Bool :=
  fits2 d.gamePrice && fits2 d.hourlyRate && fits2 d.minimum && fits1 d.grace

/-- R103: the body of MANUAL_COMMAND, 1 to 32 bytes. -/
def manualBodyFits (body : List Byte) : Bool := decide (1 ≤ body.length ∧ body.length ≤ 32)

/-- The command is one that its frame, or the event it stands for, can carry. -/
def WellFormed (i : Instr) : Bool :=
  match i with
  | .setLaneMap _ es => countFits es && es.all LaneMapPair.fits
  | .setProfile _ n f => fits1 n && f.fits
  | .setFaultAction _ xs => countFits xs && xs.all FaultActionItem.fits
  | .setNoticePriority _ xs => countFits xs && xs.all NoticePriorityItem.fits
  | .setPollOrder _ p as time misses =>
    fits1 p && countFits as && as.all fits1 && fits1 time && fits1 misses
  | .setDefaults _ f => f.fits
  | .setReturn _ xs => countFits xs && xs.all ReturnItem.fits
  | .setClock _ c => c.fits
  | .stageEntry _ n e => fits1 n && e.all PeriodFields.fits
  | .stageClassDefault _ c d => fits1 c && d.fits
  | .stageSpecialDay _ d m w => fits1 d && fits1 m && w.all fits1
  | .commitTariff _ n k => fits1 n && fits2 k
  | .passThrough _ l b => fits1 l && countFits b
  | .restartPairLink _ p => fits1 p
  | .trimTrack _ p n => fits1 p && fits1 n
  | .collectCharges _ n _ => fits1 n
  | .readLane _ l => fits1 l
  | .readSession _ i => fits1 i
  | .readReturn _ p => fits1 p
  | .openLane _ l t es => fits1 l && t.fits && bowlersFit es
  | .openPairPlay _ p t e1 e2 => fits1 p && t.fits && bowlersFit e1 && bowlersFit e2
  | .addBowler _ i e => fits1 i && e.fits
  | .withdrawBowler _ i k => fits1 i && fits1 k
  | .closeLane _ l i => fits1 l && i.all fits1
  | .moveSession _ i l _ => fits1 i && fits1 l
  | .startMachine _ l _ => fits1 l
  | .stopMachine _ l _ => fits1 l
  | .reRack _ l => fits1 l
  | .enterManual _ l => fits1 l
  | .leaveManual _ l => fits1 l
  | .manualCommand _ l b => fits1 l && manualBodyFits b
  | .enterBall _ l i ps => fits1 l && fits1 i && countFits ps && ps.all fits1
  | .correctBall _ i k g f n pins =>
    fits1 i && fits1 k && fits1 g && fits1 f && fits1 n && fits1 pins
  | .extendLimit _ i v => fits1 i && fits2 v
  | .resyncReader _ l => fits1 l
  | .clearFault _ l c _ r => fits1 l && fits1 c && r.all fits1
  | .powerOnReset | .trunkFrameReceived _ | .unknownRequest _ _ | .transmitComplete
  | .adjustClock _ | .cancelCommit _ | .resetDevice _ _ | .goRun _ | .returnSetup _
  | .readDevice _ | .readTariff _ _ | .readNoticeStatus _
  | .answerReceived _ _ | .wrongAddressAnswer _ | .damagedAnswer _ | .abandonedAnswer _
  | .answerTimeout _ | .slotCommandPlace _ _ | .owedCommandPlace _ | .stepWatchExpiry _
  | .jamWatchExpiry _ | .settleExpiry _ | .retryExpiry _ | .readingDeadlineExpiry _
  | .heldResultApply _ | .owedCycleRun _ | .followOnPark _ | .followOnStart _
  | .pendingResumeApply _ | .secondTick | .expiryWaitEnd _ | .minuteBoundary | .closeSequence _
  | .moveComplete _ => true

end Sys2Proof
end

