-- ==== Sys2Proof/Certificates/Slice0/Obligations.lean ====
section
/-! DEFINITION. The statements about the LC32. A request is stated where nothing is before it
(`TrunkFree`): its next state is the state its rule gives, with the response placed (`State.reply`).
An event is stated with the trunk's part of the same command (`settleTrunk`, log entry 4). -/

section Statements

open Sys2Proof Sys2Proof.Machine

/-! ## The block as a whole -/

/-- A step takes the command at the front of the queue and runs it with the queue's rest; with no
command waiting, one millisecond of device time passes and nothing else changes. The queue and the
idle millisecond are the model's own (log entries 1 and 2). -/
def Obligations.StepRunsFrontCommand : Prop :=
  (∀ (s : State) (c : Instr) (rest : List Instr),
    step { s with pending := c :: rest } = exec c { s with pending := rest }) ∧
  (∀ s : State, s.pending = [] →
    step s = .next
      { s with
        deviceTime := s.deviceTime + 1
        clock := { s.clock with phase := min 999 (s.clock.phase + 1) } })

/-- POWER_ON_RESET puts the whole part in its reset state; and what that state holds where the spec
gives it: the device state and the lane map loaded flag (R181), the lane table (R1), the free session
records (R6), the clock (R135), the Charge List (R161), the queue, the response slot and the notice
set (R176, R178). That the waiting commands stay and that device time starts at 0 are the model's
choices (log entries 1 and 2). -/
def Obligations.PowerOnResetState : Prop :=
  (∀ s : State, exec .powerOnReset s = .next { State.reset with pending := s.pending }) ∧
  State.reset.device = .setup ∧ State.reset.laneMapLoaded = false ∧
  (∀ l, State.reset.entry l = ⟨false, 0, false, .disabled, none, none, none, none⟩) ∧
  (∀ i, State.reset.session i = none) ∧
  State.reset.clock.calendar = ⟨0, 0, 0, 6, 1, 1, 2000⟩ ∧ State.reset.clock.valid = false ∧
  State.reset.clock.phase = 0 ∧
  State.reset.charges = ⟨[], false⟩ ∧ (∀ l, (State.reset.meter l).unlisted = ⟨0, false, 0⟩) ∧
  State.reset.trunk.requests = [] ∧ State.reset.trunk.response = none ∧ State.reset.notices = []

/-- The state after reset is a safe state with its trunk settled. -/
def Obligations.ResetIsSafe : Prop := Safe State.reset ∧ TrunkSettled State.reset

/-! ## What every step keeps -/

/-- R178: every step keeps the pending notice set to one entry per source and kind, with merge counts
from 1 to 255. -/
def Obligations.StepKeepsNoticesDistinct : Prop :=
  ∀ s t : State, NoticesOk s.notices → step s = .next t → NoticesOk t.notices

/-- R176: every step keeps the request queue to at most 8 entries, all of them requests. -/
def Obligations.StepKeepsQueueBounded : Prop :=
  ∀ s t : State, QueueOk s.trunk → step s = .next t → QueueOk t.trunk

/-- R122, R144, R161, R172: every step keeps the Charge List to 256 lines, the staging special days to 16
in ascending order, each track list to 16 entries and each pass-through queue to 4 frames. (The order of
the days is the model's canonical form, log entry 34: R140 calls them unordered, and R144 gives their
number alone.) -/
def Obligations.StepKeepsStoresBounded : Prop :=
  ∀ s t : State, StoresOk s → step s = .next t → StoresOk t

/-- R4, R7, R63, R83, R107, R123, R142 to R144, R163, R164, R179: every step keeps the loaded tables
within their ranges: profiles, debounce values, answer timeouts and lost thresholds, poll order lists (1
to 12 slots, the current one among them), return settings, fault and notice priorities, the centre
defaults (the limit value and the combination of limit kind and billing mode with them), and the records
of the active and the staging tariff. -/
def Obligations.StepKeepsSettingsInRange : Prop :=
  ∀ s t : State, SettingsOk s → step s = .next t → SettingsOk t

/-- R135, R136, R138, R139: every step keeps the calendar a date and time that exists. -/
def Obligations.StepKeepsCalendarInRange : Prop :=
  ∀ s t : State, calendarInRange s.clock.calendar = true → step s = .next t →
    calendarInRange t.clock.calendar = true

/-- R176, R177: no step leaves the line idle with something to send, or a request waiting behind an
empty response slot. -/
def Obligations.StepLeavesTrunkSettled : Prop :=
  ∀ s t : State, QueueOk s.trunk → TrunkSettled s → step s = .next t → TrunkSettled t

/-! ## Requests on the trunk -/

/-- R176: a request that finds the response slot and the queue empty is taken at once: its command
completes, and its response, with the tag and the request code of the request, is on the line or in
the slot. -/
def Obligations.RequestTakenAtOnce : Prop :=
  ∀ (i : Instr) (a : Asked) (s : State), asked i = some a → s.TrunkFree →
    ∃ (t : State) (r : Reply), t.TrunkFree ∧ t.pending = s.pending ∧
      exec i s = .next (t.reply ⟨a.tag, a.code, r⟩)

/-- R176: a request that arrives while the response slot is filled and a frame is on the line enters
the queue behind the requests there; where the queue holds 8 it is dropped, counted, and reported by
REQUEST_DROPPED with its tag, its request code and the counter. -/
def Obligations.RequestWaitsOrIsDropped : Prop :=
  ∀ (i : Instr) (a : Asked) (s : State) (f : TxFrame) (r : Response), asked i = some a →
    s.trunk.transmitting = some f → s.trunk.response = some r →
    exec i s = .next
      (if s.trunk.requests.length < 8 then
        { s with trunk := { s.trunk with requests := s.trunk.requests ++ [i] } }
      else
        ({ s with trunk := { s.trunk with dropped := min 65535 (s.trunk.dropped + 1) } }).raise 0
          (.requestDropped a.tag a.code (min 65535 (s.trunk.dropped + 1))))

/-- R176, R180: the refusals before any check of a request's own rule. In SETUP every request marked RUN
only (request codes 27 to 44) is answered NOT_RUNNING, whatever its fields. Any other request whose code
names no request, or whose payload does not fit, is answered RANGE. Nothing else changes. (That
NOT_RUNNING goes before RANGE for a payload that does not fit is log entry 13.) -/
def Obligations.RequestsRefusedAtOnce : Prop :=
  (∀ (s : State) (tag code : Byte), s.TrunkFree →
    (s.device = .run ∨ code.toNat < 27 ∨ 44 < code.toNat) →
    exec (.unknownRequest tag code) s = .next (s.reply ⟨tag, code, ⟨.range, .nothing⟩⟩)) ∧
  (∀ (i : Instr) (a : Asked) (s : State), asked i = some a → 27 ≤ a.code.toNat →
    a.code.toNat ≤ 44 → s.device = .setup → s.TrunkFree →
    exec i s = .next (s.reply ⟨a.tag, a.code, ⟨.notRunning, .nothing⟩⟩))

/-- R175, section 11.7: the bytes of a request frame (delimiter A5, the length, kind 1, tag, request
code and fields, and the CRC over the length, kind, tag and payload) bring about what the command of
that request does. -/
def Obligations.RequestFrameRunsItsRequest : Prop :=
  ∀ (s : State) (tag code hi lo : Byte) (fields : List Byte) (i : Instr),
    s.TrunkFree → TrunkSettled s → s.trunk.received = [] → fields.length ≤ 512 →
    [hi, lo] = bytes2 (fields.length + 3) → requestOf tag code fields = some i →
    exec (.trunkFrameReceived
      ([0xA5#8, hi, lo, 1#8, tag, code] ++ fields ++
        bytes2 (crc16 ([hi, lo, 1#8, tag, code] ++ fields)).toNat)) s = exec i s

/-- R175: a frame whose length is below 3 or above 515, whose CRC differs, or whose kind is not
REQUEST is dropped, and the one counter of its case goes up by one, to at most 65,535; nothing else
changes. (No byte behind the delimiter is a delimiter, so the hunt that goes on finds nothing. That a
frame of bad CRC counts as such whatever its kind, and as a kind error only with a good CRC, is log
entry 44.) -/
def Obligations.BadFrameIsCountedAndDropped : Prop :=
  ∀ (s : State) (hi lo : Byte) (body : List Byte) (x y : Byte),
    TrunkSettled s → s.trunk.received = [] → 0xA5#8 ∉ [hi, lo] ++ body ++ [x, y] →
    (word2 hi lo < 3 ∨ 515 < word2 hi lo →
      exec (.trunkFrameReceived ([0xA5#8, hi, lo] ++ body ++ [x, y])) s = .next
        { s with trunk :=
          { s.trunk with lengthErrors := min 65535 (s.trunk.lengthErrors + 1) } }) ∧
    (3 ≤ word2 hi lo → word2 hi lo ≤ 515 → body.length = word2 hi lo →
      crc16 ([hi, lo] ++ body) ≠ BitVec.ofNat 16 (word2 x y) →
      exec (.trunkFrameReceived ([0xA5#8, hi, lo] ++ body ++ [x, y])) s = .next
        { s with trunk := { s.trunk with crcErrors := min 65535 (s.trunk.crcErrors + 1) } }) ∧
    (3 ≤ word2 hi lo → word2 hi lo ≤ 515 → body.length = word2 hi lo →
      crc16 ([hi, lo] ++ body) = BitVec.ofNat 16 (word2 x y) → body.head? ≠ some 1#8 →
      exec (.trunkFrameReceived ([0xA5#8, hi, lo] ++ body ++ [x, y])) s = .next
        { s with trunk := { s.trunk with kindErrors := min 65535 (s.trunk.kindErrors + 1) } })

/-- R177, R176: when a frame's transmission ends, the response in the slot goes next, and the oldest
waiting request is then taken; with no response, the eligible notice of highest priority, then lowest
source, then lowest kind number leaves the set and is sent; with neither, the line stays free.

R175, section 11.7: a frame sent is the delimiter A5, the length, the kind (2 RESPONSE, 3 NOTICE), the
tag (0 for a notice), the payload and the CRC over length, kind, tag and payload. A response payload
begins with the echoed request code and the response code 0 to 10, a notice payload with kind number,
source, merge count and priority; the length is 3 to 515. In the response of READ_TARIFF (R148) the tariff
records stand in order: period entries of 10 bytes, class defaults of 7, special days of 3, each number
most significant byte first. (The bytes before each record and behind the last, and those of all other
fields, are free values, log entry 9.) -/
def Obligations.TransmitCompleteSendsNext : Prop :=
  (∀ f : TxFrame, ∃ (kind : Nat) (tag : Byte) (payload : List Byte),
    let covered := bytes2 (payload.length + 2) ++ [BitVec.ofNat 8 kind, tag] ++ payload
    f.bytes = [0xA5#8] ++ covered ++ bytes2 (crc16 covered).toNat ∧
    3 ≤ payload.length + 2 ∧ payload.length + 2 ≤ 515 ∧
    (∀ r, f = .response r → kind = 2 ∧ tag = r.tag ∧ ∃ (n : Nat) (fields : List Byte),
      [Code.ok, .busy, .badState, .noLane, .notFound, .range, .structureFails, .full, .check,
        .condition, .notRunning][n]? = some r.reply.code ∧
      payload = [r.requestCode, BitVec.ofNat 8 n] ++ fields ∧
      ∀ (slots : List (Option Period)) (defaults : Vector ClassDefault 8) (days : List SpecialDay),
        slots.length ≤ 24 → days.length ≤ 16 →
        ((∃ (table : List Period) (version : BitVec 8) (once : Bool) (waiting : Option PendingCommit),
            slots = table.map some ∧
            r.reply.data = .tariff (.active table defaults days) version once waiting) ∨
          ∃ (staged : Vector (Option Period) 24) (crc : BitVec 16) (version : BitVec 8) (once : Bool)
            (waiting : Option PendingCommit), slots = staged.toList ∧
            r.reply.data = .tariff (.staging staged defaults days crc) version once waiting) →
        let records := slots.map (fun x => match x with
            | none => []
            | some p => [p.classes, p.weekdays.zeroExtend 8] ++ bytes2 p.startMinute ++
              bytes2 p.endMinute ++ bytes2 p.gamePrice ++ bytes2 p.hourlyRate) ++
          defaults.toList.map (fun d => bytes2 d.gamePrice ++ bytes2 d.hourlyRate ++
            bytes2 d.minimum ++ [BitVec.ofNat 8 d.grace]) ++
          days.map (fun d => [d.day, d.month, d.weekday].map (BitVec.ofNat 8))
        ∃ before : Nat → List Byte, fields =
          (records.zipIdx.flatMap fun x => before x.2 ++ x.1) ++ before records.length) ∧
    (∀ n, f = .notice n → kind = 3 ∧ tag = 0 ∧ ∃ fields : List Byte,
      payload = [kindNumber (payloadKind n.payload), n.source, n.merges, n.priority].map
        (BitVec.ofNat 8) ++ fields)) ∧
  ∀ s : State, TrunkSettled s →
    (∀ r, s.trunk.response = some r → s.trunk.requests = [] →
      exec .transmitComplete s = .next { s with trunk :=
        { s.trunk with response := none, transmitting := some (.response r) } }) ∧
    (∀ r i a rest, s.trunk.response = some r → s.trunk.requests = i :: rest → asked i = some a →
      let u := { s with trunk :=
        { s.trunk with response := none, transmitting := some (.response r), requests := rest } }
      exec .transmitComplete s = .next { (a.act u).1 with trunk :=
        { (a.act u).1.trunk with response := some ⟨a.tag, a.code, (a.act u).2⟩ } }) ∧
    (s.trunk.response = none → (∃ n ∈ s.notices, 1 ≤ n.priority) →
      ∃ n ∈ s.notices, 1 ≤ n.priority ∧
        (∀ m ∈ s.notices, 1 ≤ m.priority → m.priority < n.priority ∨
          (m.priority = n.priority ∧ (n.source < m.source ∨ (n.source = m.source ∧
            kindNumber (payloadKind n.payload) ≤ kindNumber (payloadKind m.payload))))) ∧
        exec .transmitComplete s = .next { s with
          notices := s.notices.erase n
          trunk := { s.trunk with transmitting := some (.notice n) } }) ∧
    (s.trunk.response = none → (∀ n ∈ s.notices, n.priority = 0) →
      exec .transmitComplete s = .next { s with trunk := { s.trunk with transmitting := none } })

/-! ## Loads -/

/-- R2, R63: SET_LANE_MAP for one pair, in SETUP or with the pair at rest, and with neither lane a
move target: each lane takes enabled, profile and has console; a lane enabled that was DISABLED
becomes CLOSED and a lane disabled becomes DISABLED; holder, waiting, move pending and memory stay;
the pair takes the debounce values, clamped, and the response names each clamped one; the lane map
loaded flag is set. What a load does not name stands: the lanes' faults, meters and machines, and but for
an arming (R90) their trackers; the rest of the filter; the pair's faults; the track, capacity, jam watch
time and flags of its return; the nodes, but for what follows.

R127: pair in use and the lift are decided afresh. Where the lift changes, SET_OUTPUTS enters the empty
slot of an ALIVE lane I/O node and the jam watch is decided; where not, watch and node stand. R164: the
default order becomes the pending list exactly where a node newly required is missing from the list in
force or from a pending list. R172: a console whose has-console field goes from yes to no loses the frame
in its slot and those queued for it, counted as discarded; the other console's stay. Other pairs, the
sessions and the rest of the device stand. -/
def Obligations.SetLaneMapLoadsPair : Prop :=
  ∀ (s : State) (tag : Byte) (e : LaneMapPair) (p : PairId), s.TrunkFree →
    pairOf? e.pair = some p → e.left.profile ≤ 3 → e.right.profile ≤ 3 →
    (s.device = .run → s.pairAtRest p = true) → s.isMoveTarget (laneAt p .left) = false →
    s.isMoveTarget (laneAt p .right) = false →
    let loaded := fun d : Side => match d with
      | .left => e.left
      | .right => e.right
    let console := fun d : Side => s.node p (consoleAddr d)
    let loses := fun d : Side => (s.entry (laneAt p d)).hasConsole && !(loaded d).hasConsole
    let gone := fun d : Side => ((s.poller p).queue.filter fun f => f.side = d).length +
      (if (console d).slot.isSome then 1 else 0)
    let before := s.ballReturn p
    let node := s.node p laneIoAddr
    ∃ (t : State) (fields : List (Nat × PairField)),
      let lacks := fun order : List NodeAddr =>
        ∃ a, t.required p a = true ∧ s.required p a = false ∧ a ∉ order
      let lift := t.pairInUse p && !before.rackFull
      let moved := { before with inUse := t.pairInUse p, liftOn := lift }
      exec (.setLaneMap tag [e]) s =
        .next (t.reply ⟨tag, 1, ⟨.ok, .clampedPairFields fields⟩⟩) ∧
      (∀ f, f ∈ fields ↔ f.1 = e.pair ∧
        ((f.2 = .foul ∧ (e.foul < 5 ∨ 50 < e.foul)) ∨ (f.2 = .pit ∧ (e.pit < 5 ∨ 100 < e.pit)) ∨
        (f.2 = .lift ∧ (e.lift < 5 ∨ 100 < e.lift)) ∨
        (f.2 = .rack ∧ (e.rack < 50 ∨ 2000 < e.rack)))) ∧
      (∀ d : Side, ∃ n : Fin 4, n.val = (loaded d).profile ∧
        Rearmed (s.tracker (laneAt p d)) (t.tracker (laneAt p d)) ∧
        t.lane (laneAt p d) =
          { s.lane (laneAt p d) with
            tracker := t.tracker (laneAt p d)
            entry := { s.entry (laneAt p d) with
              enabled := (loaded d).enabled, profile := n, hasConsole := (loaded d).hasConsole
              state :=
                if (loaded d).enabled = false then .disabled
                else if (s.entry (laneAt p d)).state = .disabled then .closed
                else (s.entry (laneAt p d)).state } }) ∧
      t.filter p = { s.filter p with debounce := ⟨max 5 (min 50 e.foul), max 5 (min 100 e.pit),
        max 5 (min 100 e.lift), max 50 (min 2000 e.rack)⟩ } ∧
      (t.pair p).faults = (s.pair p).faults ∧
      t.ballReturn p = { moved with watch := (t.ballReturn p).watch } ∧
      (lift = before.liftOn →
        (t.ballReturn p).watch = before.watch ∧ t.node p laneIoAddr = node) ∧
      (lift ≠ before.liftOn →
        WatchDecided s.deviceTime (node.state = .alive) moved (t.ballReturn p).watch ∧
        (node.state ≠ .alive → t.node p laneIoAddr = node) ∧
        (node.state = .alive → node.slot = none → t.node p laneIoAddr =
          { node with slot := some ⟨.setOutputs lift, node.nextSerial, none⟩
                      nextSerial := node.nextSerial + 1 })) ∧
      t.poller p =
        { s.poller p with
          queue := (s.poller p).queue.filter fun f => !loses f.side
          pendingOrder := (t.poller p).pendingOrder, nodes := (t.poller p).nodes } ∧
      (lacks (s.poller p).order ∨ (∃ o, (s.poller p).pendingOrder = some o ∧ lacks o) →
        (t.poller p).pendingOrder = some [0, 1, 4, 2, 3, 4, 5, 6]) ∧
      (¬ lacks (s.poller p).order → (∀ o, (s.poller p).pendingOrder = some o → ¬ lacks o) →
        (t.poller p).pendingOrder = (s.poller p).pendingOrder) ∧
      (∀ d : Side,
        (loses d = false → t.node p (consoleAddr d) = console d) ∧
        (loses d = true → t.node p (consoleAddr d) =
          { console d with
            slot := none, framesDiscarded := min 65535 ((console d).framesDiscarded + gone d) })) ∧
      (∀ a, a ≠ laneIoAddr → (∀ d, a ≠ consoleAddr d) → t.node p a = s.node p a) ∧
      (∀ k, pairOf k ≠ p → t.lane k = s.lane k) ∧ (∀ q, q ≠ p → t.pair q = s.pair q) ∧
      t = { s with
        laneMapLoaded := true, lanes := t.lanes, pairs := t.pairs, notices := t.notices }

/-- R83: SET_PROFILE replaces the profile named, each parameter clamped to the nearest limit of its
range, and leaves the other profiles and everything else; a profile number above 3 is refused RANGE. -/
def Obligations.SetProfileReplacesProfile : Prop :=
  ∀ (s : State) (tag : Byte) (n : Nat) (f : Profile), s.TrunkFree →
    (3 < n → exec (.setProfile tag n f) s = .next (s.reply ⟨tag, 2, ⟨.range, .nothing⟩⟩)) ∧
    (∀ h : n < 4, ∃ fields : List ProfileField,
      let g : Profile :=
        { deckDown := max 1 (min 200 f.deckDown), lift := max 1 (min 200 f.lift)
          sweep := max 1 (min 200 f.sweep), respot := max 1 (min 200 f.respot)
          newRack := max 1 (min 200 f.newRack), home := max 1 (min 200 f.home)
          powerUp := max 1 (min 60 f.powerUp), halt := max 1 (min 200 f.halt)
          guardDown := max 1 (min 200 f.guardDown), deckUp := max 1 (min 200 f.deckUp)
          powerDown := max 1 (min 200 f.powerDown), settle := max 500 (min 5000 f.settle)
          readingDeadline := max 200 (min 5000 f.readingDeadline)
          retry := max 100 (min 1000 f.retry) }
      exec (.setProfile tag n f) s = .next
        (State.reply { s with profiles := s.profiles.set n g } ⟨tag, 2, ⟨.ok, .clampedProfile fields⟩⟩))

/-- R107: SET_FAULT_ACTION. A list that is not empty, whose items name classes of the fifteen but
PARK_FAILED, with an action NONE, HOLD, STOP or PARK, a priority of at most 15 and no class twice,
replaces the entries of the classes it names and leaves the others and everything else; any other list
is refused RANGE and changes nothing. (That an empty list is refused is log entry 12.) -/
def Obligations.SetFaultActionReplacesEntries : Prop :=
  ∀ (s : State) (tag : Byte) (items : List FaultActionItem), s.TrunkFree →
    let valid := items ≠ [] ∧ (items.map (·.classCode)).Nodup ∧
      ∀ x ∈ items, 1 ≤ x.classCode ∧ x.classCode ≤ 14 ∧ x.actionCode ≤ 3 ∧ x.priority ≤ 15
    (¬ valid → exec (.setFaultAction tag items) s =
      .next (s.reply ⟨tag, 3, ⟨.range, .nothing⟩⟩)) ∧
    (valid → ∃ table : Vector FaultAction 15,
      exec (.setFaultAction tag items) s =
        .next (State.reply { s with faultTable := table } ⟨tag, 3, ⟨.ok, .nothing⟩⟩) ∧
      (∀ x ∈ items, ∀ c a, faultClassOf? x.classCode = some c → actionOf? x.actionCode = some a →
        table[faultIndex c] = ⟨a, x.credit, x.priority⟩) ∧
      (∀ c, (∀ x ∈ items, faultClassOf? x.classCode ≠ some c) →
        table[faultIndex c] = s.faultTable[faultIndex c]))

/-- R179: SET_NOTICE_PRIORITY. A list that is not empty, whose items name kinds 1 to 20 but
FAULT_RAISED with priorities of at most 15 and no kind twice, replaces the priorities of the kinds it
names, in the table and in every pending entry of those kinds, and leaves everything else; any other
list is refused RANGE and changes nothing. (That an empty list is refused is log entry 12.) -/
def Obligations.SetNoticePriorityReplacesPriorities : Prop :=
  ∀ (s : State) (tag : Byte) (items : List NoticePriorityItem), s.TrunkFree →
    let valid := items ≠ [] ∧ (items.map (·.kind)).Nodup ∧
      ∀ x ∈ items, 1 ≤ x.kind ∧ x.kind ≤ 20 ∧ x.kind ≠ 7 ∧ x.priority ≤ 15
    (¬ valid → exec (.setNoticePriority tag items) s =
      .next (s.reply ⟨tag, 4, ⟨.range, .nothing⟩⟩)) ∧
    (valid → ∃ table : Vector Nat 20,
      exec (.setNoticePriority tag items) s = .next
        (State.reply
          { s with
            priorities := table
            notices := s.notices.map fun n =>
              if kindNumber (payloadKind n.payload) ∈ items.map (·.kind) then
                { n with priority := table[kindIndex (payloadKind n.payload)] }
              else n }
          ⟨tag, 4, ⟨.ok, .nothing⟩⟩) ∧
      (∀ x ∈ items, ∀ k, kindNumber k = x.kind → table[kindIndex k] = x.priority) ∧
      (∀ k, kindNumber k ∉ items.map (·.kind) → table[kindIndex k] = s.priorities[kindIndex k]))

/-- R164: SET_POLL_ORDER with 1 to 12 addresses 1 to 7 that name every node the lane map requires:
the list becomes the pending list, and the answer timeout and the lost threshold take their clamped
values at once; the list in force, the poll that waits and everything else stand. -/
def Obligations.SetPollOrderMakesPendingList : Prop :=
  ∀ (s : State) (tag : Byte) (n : Nat) (p : PairId) (addresses : List Nat)
    (order : List NodeAddr) (timeout threshold : Nat), s.TrunkFree → pairOf? n = some p →
    1 ≤ addresses.length → addresses.length ≤ 12 →
    addresses = order.map (fun a => a.val + 1) →
    (∀ a, s.required p a = true → a ∈ order) →
    exec (.setPollOrder tag n addresses timeout threshold) s = .next
      (State.reply
        (s.modPoller p fun q =>
          { q with
            pendingOrder := some order, timeout := max 2 (min 50 timeout)
            threshold := max 1 (min 15 threshold) })
        ⟨tag, 5, ⟨.ok, .clampedPoll (decide (timeout < 2 ∨ 50 < timeout))
          (decide (threshold < 1 ∨ 15 < threshold))⟩⟩)

/-- R4, R7: SET_DEFAULTS. A listed billing mode and limit kind, a tariff class 0 to 7, and a combination
of the two that R7 allows replace the whole record, every other value clamped to its range, the warning
threshold to that of the limit kind; everything else stands. Anything else is refused RANGE and changes
nothing. (Section 11.7 gives the codes. That a resume, re-rack or foul code above its listed values is
clamped like a number, and not refused, is the model's reading, log entry 13; that foul detection code 0
is ENABLED is log entry 8.) -/
def Obligations.SetDefaultsReplacesRecord : Prop :=
  ∀ (s : State) (tag : Byte) (f : DefaultsFields), s.TrunkFree →
    let valid := f.billing ≤ 1 ∧ f.tariffClass ≤ 7 ∧ f.limitKind ≤ 2 ∧
      ¬ (f.billing = 0 ∧ f.limitKind = 2) ∧ ¬ (f.billing = 1 ∧ f.limitKind = 1)
    (¬ valid → exec (.setDefaults tag f) s = .next (s.reply ⟨tag, 6, ⟨.range, .nothing⟩⟩)) ∧
    (valid → ∃ (c : Fin 8) (fields : List ClampedField), c.val = f.tariffClass ∧
      exec (.setDefaults tag f) s = .next
        (State.reply
          { s with defaults :=
            { terms :=
                { billing := if f.billing = 0 then .game else .time
                  tariffClass := c
                  limit :=
                    if f.limitKind = 0 then .none
                    else if f.limitKind = 1 then .games (max 1 (min 255 f.limitValue))
                    else .minutes (max 1 (min 1440 f.limitValue))
                  warning :=
                    if f.limitKind = 0 then 0
                    else if f.limitKind = 1 then min 15 f.warning else min 60 f.warning
                  foulDetection := decide (f.foulDetection = 0)
                  reRackAllowed := decide (f.reRackAllowed ≠ 0)
                  resume := if f.resume = 0 then .clamp else .replay
                  basis := min 300 f.basis, percent := min 100 f.percent, cap := min 300 f.cap }
              expiryWait := min 30 f.expiryWait } }
          ⟨tag, 6, ⟨.ok, .clampedFields fields⟩⟩))

/-- R123, R130: SET_RETURN for one pair: the capacity and the jam watch time take their clamped values,
at capacity is worked out afresh from the list length, a RUNNING watch keeps its deadline, and a capacity
that the list reaches holds both lanes: neither stays ARMED. R90, R70: of the lanes only the trackers of
the pair may change, and only by arming: NOT_ARMED becomes ARMED, or ARMED becomes NOT_ARMED with foul
pending cleared. Nothing else but the pair's return and the notices changes. -/
def Obligations.SetReturnHoldsAtCapacity : Prop :=
  ∀ (s : State) (tag : Byte) (x : ReturnItem) (p : PairId), s.TrunkFree →
    pairOf? x.pair = some p →
    ∃ (t : State) (fields : List (Nat × PairField)),
      exec (.setReturn tag [x]) s =
        .next (t.reply ⟨tag, 7, ⟨.ok, .clampedPairFields fields⟩⟩) ∧
      (∀ f, f ∈ fields ↔ f.1 = x.pair ∧
        ((f.2 = .capacity ∧ (x.capacity < 1 ∨ 12 < x.capacity)) ∨
          (f.2 = .jamSeconds ∧ (x.jamSeconds < 4 ∨ 60 < x.jamSeconds)))) ∧
      t.ballReturn p =
        { s.ballReturn p with
          capacity := max 1 (min 12 x.capacity), jamSeconds := max 4 (min 60 x.jamSeconds)
          atCapacity := decide (max 1 (min 12 x.capacity) ≤ (s.ballReturn p).track.length) } ∧
      (max 1 (min 12 x.capacity) ≤ (s.ballReturn p).track.length →
        ∀ d, (t.tracker (laneAt p d)).play ≠ .armed) ∧
      OnPair p s t ∧ t.pair p = { s.pair p with ballReturn := t.ballReturn p } ∧
      ∀ k, ∃ x : Tracker, t.lane k = { s.lane k with tracker := x } ∧
        (x = s.tracker k ∨
          pairOf k = p ∧ (s.tracker k).play = .notArmed ∧ x = { s.tracker k with play := .armed } ∨
          pairOf k = p ∧ (s.tracker k).play = .armed ∧
            x = { s.tracker k with play := .notArmed, foulPending := none })

/-! ## The clock and the tariff -/

/-- R138: SET_CLOCK. Fields within their ranges become the calendar, the valid flag becomes yes, the
sub-second phase 0, and CLOCK_SET is raised with source 0, cause SET, the fields after and before and
the valid flag before; nothing else changes, a pending commit least of all. Fields outside their
ranges are refused RANGE and change nothing. -/
def Obligations.SetClockSetsCalendar : Prop :=
  ∀ (s : State) (tag : Byte) (c : Calendar), s.TrunkFree →
    let valid := c.second ≤ 59 ∧ c.minute ≤ 59 ∧ c.hour ≤ 23 ∧ 1 ≤ c.weekday ∧ c.weekday ≤ 7 ∧
      1 ≤ c.month ∧ c.month ≤ 12 ∧ 2000 ≤ c.year ∧ c.year ≤ 2099 ∧ 1 ≤ c.day ∧
      c.day ≤ (if c.month = 2 then (if c.year % 4 = 0 then 29 else 28)
        else if c.month ∈ [4, 6, 9, 11] then 30 else 31)
    (¬ valid → exec (.setClock tag c) s = .next (s.reply ⟨tag, 8, ⟨.range, .nothing⟩⟩)) ∧
    (valid → exec (.setClock tag c) s = .next
      (State.reply
        (({ s with clock := { s.clock with calendar := c, valid := true, phase := 0 } }).raise 0
          (.clockSet ⟨some s.clock.valid, c, s.clock.calendar⟩))
        ⟨tag, 8, ⟨.ok, .nothing⟩⟩))

/-- R139: ADJUST_CLOCK. While the valid flag is no it is refused BAD_STATE and changes nothing.
Otherwise a second below 30 becomes 0 with the fields above it as they stand, and a second of 30 or
above becomes 0 with one minute added as counting on from second 59 would; the sub-second phase
becomes 0, CLOCK_SET is raised with cause ADJUST and the fields after and before, no minute boundary
is produced, and the response carries the new fields. -/
def Obligations.AdjustClockTrimsToMinute : Prop :=
  ∀ (s : State) (tag : Byte), s.TrunkFree →
    (s.clock.valid = false →
      exec (.adjustClock tag) s = .next (s.reply ⟨tag, 9, ⟨.badState, .nothing⟩⟩)) ∧
    (s.clock.valid = true →
      let c :=
        if s.clock.calendar.second < 30 then { s.clock.calendar with second := 0 }
        else addSecond { s.clock.calendar with second := 59 }
      exec (.adjustClock tag) s = .next
        (State.reply
          (({ s with clock := { s.clock with calendar := c, phase := 0 } }).raise 0
            (.clockSet ⟨none, c, s.clock.calendar⟩))
          ⟨tag, 9, ⟨.ok, .clock c⟩⟩))

/-- R142, R143: STAGE_ENTRY and STAGE_CLASS_DEFAULT. While a commit is pending both are refused BUSY.
A slot outside 1 to 24 is refused RANGE; an entry with a field that fails is refused RANGE naming the
first such field; an accepted entry replaces the slot's contents, and CLEAR makes it EMPTY. A class
default with a field that fails is refused RANGE naming the first such field; an accepted one replaces
the staging class default of its class. A refusal changes nothing, and an acceptance nothing else.

R144: STAGE_SPECIAL_DAY, in the order of its checks: BUSY while a commit is pending; RANGE for a
month, a day (by a leap year) or a weekday outside its range; NOT_FOUND for REMOVE of a date not held;
FULL for a new date beside 16. An accepted weekday replaces the entry of its date, the count
unchanged, or adds one; an accepted REMOVE deletes the entry; the other dates stand, the response
carries the number then held, and nothing else changes. (The premise is the canonical order of the
list, which every step keeps.) -/
def Obligations.StagingReplacesEntries : Prop :=
  (∀ (s : State) (tag : Byte), s.TrunkFree →
     (∀ n e, s.tariff.pending.isSome = true →
       exec (.stageEntry tag n e) s = .next (s.reply ⟨tag, 10, ⟨.busy, .nothing⟩⟩)) ∧
     (∀ c d, s.tariff.pending.isSome = true →
       exec (.stageClassDefault tag c d) s = .next (s.reply ⟨tag, 11, ⟨.busy, .nothing⟩⟩)) ∧
     (s.tariff.pending = none →
       (∀ n e, n < 1 ∨ 24 < n →
         exec (.stageEntry tag n e) s = .next (s.reply ⟨tag, 10, ⟨.range, .nothing⟩⟩)) ∧
       (∀ n : Fin 24,
         exec (.stageEntry tag (n.val + 1) none) s = .next
           (State.reply { s with tariff := { s.tariff with slots := s.tariff.slots.set n none } }
             ⟨tag, 10, ⟨.ok, .nothing⟩⟩) ∧
         (∀ f : PeriodFields,
           let bad : List TariffField :=
             (if f.classSet = 0 ∨ 255 < f.classSet then [.classSet] else []) ++
             (if f.weekdaySet = 0 ∨ 127 < f.weekdaySet then [.weekdaySet] else []) ++
             (if 1439 < f.startMinute then [.startMinute] else []) ++
             (if f.endMinute < 1 ∨ 1440 < f.endMinute ∨ f.endMinute ≤ f.startMinute then
               [.endMinute] else []) ++
             (if 10000 < f.gamePrice then [.gamePrice] else []) ++
             (if 60000 < f.hourlyRate then [.hourlyRate] else [])
           let entry : Period :=
             ⟨BitVec.ofNat 8 f.classSet, BitVec.ofNat 7 f.weekdaySet, f.startMinute, f.endMinute,
               f.gamePrice, f.hourlyRate⟩
           (∀ x rest, bad = x :: rest →
             exec (.stageEntry tag (n.val + 1) (some f)) s =
               .next (s.reply ⟨tag, 10, ⟨.range, .tariffField x⟩⟩)) ∧
           (bad = [] → exec (.stageEntry tag (n.val + 1) (some f)) s = .next
             (State.reply
               { s with tariff := { s.tariff with slots := s.tariff.slots.set n (some entry) } }
               ⟨tag, 10, ⟨.ok, .nothing⟩⟩)))) ∧
       (∀ (c : Nat) (d : ClassDefault),
         let bad : List TariffField :=
           (if 7 < c then [.tariffClass] else []) ++ (if 10000 < d.gamePrice then [.gamePrice] else []) ++
           (if 60000 < d.hourlyRate then [.hourlyRate] else []) ++
           (if 60000 < d.minimum then [.minimum] else []) ++ (if 59 < d.grace then [.grace] else [])
         (∀ x rest, bad = x :: rest →
           exec (.stageClassDefault tag c d) s =
             .next (s.reply ⟨tag, 11, ⟨.range, .tariffField x⟩⟩)) ∧
         (bad = [] → ∀ h : c < 8, exec (.stageClassDefault tag c d) s = .next
           (State.reply
             { s with tariff :=
               { s.tariff with stagedDefaults := s.tariff.stagedDefaults.set c d } }
             ⟨tag, 11, ⟨.ok, .nothing⟩⟩))))) ∧
  (∀ (s : State) (tag : Byte) (day month : Nat) (w : Option Nat), s.TrunkFree →
     DaysOk s.tariff.stagedDays →
     let days := s.tariff.stagedDays
     let held := ∃ d ∈ days, d.day = day ∧ d.month = month
     let inRange := 1 ≤ month ∧ month ≤ 12 ∧ 1 ≤ day ∧
       day ≤ (if month = 2 then 29 else if month ∈ [4, 6, 9, 11] then 30 else 31) ∧
       ∀ n ∈ w, 1 ≤ n ∧ n ≤ 7
     let refused := fun c : Code =>
       exec (.stageSpecialDay tag day month w) s = .next (s.reply ⟨tag, 12, ⟨c, .nothing⟩⟩)
     (s.tariff.pending.isSome = true → refused .busy) ∧
     (s.tariff.pending = none → ¬ inRange → refused .range) ∧
     (s.tariff.pending = none → inRange → w = none → ¬ held → refused .notFound) ∧
     (s.tariff.pending = none → inRange → w.isSome = true → ¬ held → days.length = 16 →
       refused .full) ∧
     (s.tariff.pending = none → inRange → (w = none → held) →
       (w.isSome = true → held ∨ days.length < 16) →
       ∃ ds : List SpecialDay,
         exec (.stageSpecialDay tag day month w) s = .next
           (State.reply { s with tariff := { s.tariff with stagedDays := ds } }
             ⟨tag, 12, ⟨.ok, .dayCount ds.length⟩⟩) ∧
         (∀ d, d ∈ ds ↔ (d ∈ days ∧ ¬ (d.day = day ∧ d.month = month)) ∨
           w = some d.weekday ∧ d.day = day ∧ d.month = month) ∧
         (w.isSome = true → held → ds.length = days.length) ∧
         (w.isSome = true → ¬ held → ds.length = days.length + 1) ∧
         (w = none → ds.length + 1 = days.length)))

/-- R145, R146: COMMIT_TARIFF with no commit pending, a count of at most 24, every slot up to the
count filled, and the check value the CRC of the staged contents. In SETUP the swap is made at once:
the active copy becomes the staged contents, the slots above the count become EMPTY, the version goes
up by one (255 to 0), TARIFF_SWAPPED is raised with source 0, and the response carries the new
version. In RUN the commit becomes pending with its count and the current calendar minute, and the
response carries the current version and PENDING. With another check value it is refused CHECK with
the CRC computed, and changes nothing. -/
def Obligations.CommitTariffSwapsOrPends : Prop :=
  ∀ (s : State) (tag : Byte) (n check : Nat), s.TrunkFree → s.tariff.pending = none → n ≤ 24 →
    (∀ i : Fin 24, i.val < n → s.tariff.slots[i].isSome = true) →
    let crc := stagedCrc s.tariff n
    (crc.toNat ≠ check → exec (.commitTariff tag n check) s =
      .next (s.reply ⟨tag, 13, ⟨.check, .computedCrc crc⟩⟩)) ∧
    (crc.toNat = check → s.device = .run → exec (.commitTariff tag n check) s = .next
      (State.reply
        { s with tariff := { s.tariff with pending := some ⟨n, ⟨s.clock.calendar.year,
          s.clock.calendar.month, s.clock.calendar.day, s.clock.calendar.hour,
          s.clock.calendar.minute⟩⟩ } }
        ⟨tag, 13, ⟨.ok, .pendingVersion s.tariff.version⟩⟩)) ∧
    (crc.toNat = check → s.device = .setup →
      ∃ (table : List Period) (slots : Vector (Option Period) 24),
        exec (.commitTariff tag n check) s = .next
          (State.reply
            (({ s with tariff :=
              { activeTable := table, activeDefaults := s.tariff.stagedDefaults
                activeDays := s.tariff.stagedDays, slots := slots
                stagedDefaults := s.tariff.stagedDefaults, stagedDays := s.tariff.stagedDays
                version := s.tariff.version + 1, committedOnce := true, pending := none } }).raise 0
              (.tariffSwapped (s.tariff.version + 1) n s.tariff.stagedDays.length s.clock.calendar))
            ⟨tag, 13, ⟨.ok, .version (s.tariff.version + 1)⟩⟩) ∧
        table.length = n ∧
        (∀ i : Fin 24, i.val < n → table[i.val]? = s.tariff.slots[i]) ∧
        (∀ i : Fin 24, slots[i] = if i.val < n then s.tariff.slots[i] else none))

/-- R147: CANCEL_COMMIT. With a commit pending it ends the commit, with its count and stamp, and
leaves the staging copy, the active copy, the version and everything else; with none it is refused
BAD_STATE with the current version. -/
def Obligations.CancelCommitEndsPending : Prop :=
  ∀ (s : State) (tag : Byte), s.TrunkFree →
    (s.tariff.pending.isSome = true → exec (.cancelCommit tag) s = .next
      (State.reply { s with tariff := { s.tariff with pending := none } }
        ⟨tag, 14, ⟨.ok, .nothing⟩⟩)) ∧
    (s.tariff.pending = none → exec (.cancelCommit tag) s =
      .next (s.reply ⟨tag, 14, ⟨.badState, .version s.tariff.version⟩⟩))

/-! ## Pair traffic, returns, charges and the device -/

/-- R172: PASS_THROUGH to the ALIVE console of a lane of the map, with a payload of 1 to 64 bytes and
fewer than 4 frames queued: a frame for a console whose slot is busy joins the queue behind the
others; a frame for a console whose slot is empty, with no frame for it waiting, goes into the slot at
once with the node's next serial, untried. Nothing else changes. -/
def Obligations.PassThroughQueuesOrPlaces : Prop :=
  ∀ (s : State) (tag : Byte) (n : Nat) (l : LaneId) (payload : List Byte), s.TrunkFree →
    s.mappedLane? n = some l → 1 ≤ payload.length → payload.length ≤ 64 →
    (s.entry l).hasConsole = true → (s.node (pairOf l) (consoleAddr (sideOf l))).state = .alive →
    (s.poller (pairOf l)).queue.length < 4 →
    ((s.node (pairOf l) (consoleAddr (sideOf l))).slot.isSome = true →
      exec (.passThrough tag n payload) s = .next
        (State.reply
          (s.modPoller (pairOf l) fun q => { q with queue := q.queue ++ [⟨sideOf l, payload⟩] })
          ⟨tag, 15, ⟨.ok, .nothing⟩⟩)) ∧
    ((s.node (pairOf l) (consoleAddr (sideOf l))).slot = none →
      (∀ f ∈ (s.poller (pairOf l)).queue, f.side ≠ sideOf l) →
      exec (.passThrough tag n payload) s = .next
        (State.reply
          (s.modNode (pairOf l) (consoleAddr (sideOf l)) fun x =>
            { x with slot := some ⟨.display payload, x.nextSerial, none⟩
                     nextSerial := x.nextSerial + 1 })
          ⟨tag, 15, ⟨.ok, .nothing⟩⟩))

/-- R173: RESTART_PAIR_LINK with the pair at rest: every node becomes ABSENT with no misses, no command
in its slot and no owed command, its next serial kept; the pass-through queue is empty; a pending list is
in force, the round begins at slot 1, and a poll that waits is abandoned; answer timeout, lost threshold
and pair counters are kept. A SET_COUNT discarded from a reader's slot makes its lane's resync LOST, and
no lane's reader keeps one waiting for such a slot. R64, R131: the pair's filter becomes uninitialised
and keeps all else, its debounce values among it; its return keeps all but the watch, which is STOPPED
once expired and SUSPENDED where it ran. R81: its supervisors lose the command awaiting the slot and
nothing else. Other pairs and their lanes, the lane table, the meters, the charges, the clock, the tariff,
every loaded table but the pair's poll order, the device state and the trunk stand, and so do the
sessions: all of them, where neither lane of the pair has a holder (as no CLOSED or DISABLED lane has),
and but for the billing state that follows a lane's credit in any case. With the pair not at rest it is
refused BAD_STATE and changes nothing. (That a waiting SET_COUNT goes with the one discarded is log entry 50.) -/
def Obligations.RestartPairLinkEmptiesLink : Prop :=
  ∀ (s : State) (tag : Byte) (n : Nat) (p : PairId), s.TrunkFree → pairOf? n = some p →
    (s.pairAtRest p = false →
      exec (.restartPairLink tag n) s = .next (s.reply ⟨tag, 16, ⟨.badState, .nothing⟩⟩)) ∧
    (s.pairAtRest p = true → ∃ t : State,
      exec (.restartPairLink tag n) s = .next (t.reply ⟨tag, 16, ⟨.ok, .nothing⟩⟩) ∧
      (∀ a, (t.node p a).state = .absent ∧ (t.node p a).misses = 0 ∧ (t.node p a).slot = none ∧
        (t.node p a).owed = none ∧ (t.node p a).nextSerial = (s.node p a).nextSerial) ∧
      (∃ nodes, t.poller p =
        { s.poller p with
          order := (s.poller p).pendingOrder.getD (s.poller p).order, pendingOrder := none
          current := 0, queue := [], nodes := nodes
          poll := (s.poller p).poll.map fun x => { x with abandoned := true } }) ∧
      t.filter p = { s.filter p with initialised := false } ∧
      t.ballReturn p = { s.ballReturn p with
        watch :=
          if (s.ballReturn p).watchExpired = true then .stopped
          else match (s.ballReturn p).watch with
            | .stopped => .stopped
            | _ => .suspended } ∧
      (t.pair p).faults = (s.pair p).faults ∧
      (∀ d, t.supervisor (laneAt p d) = { s.supervisor (laneAt p d) with awaiting := none }) ∧
      (∀ q, q ≠ p → t.pair q = s.pair q) ∧ (∀ k, pairOf k ≠ p → t.lane k = s.lane k) ∧
      (∀ l, t.entry l = s.entry l ∧ t.meter l = s.meter l) ∧
      (∀ i, (t.session i).isSome = (s.session i).isSome) ∧
      (∀ i x, s.session i = some x → ∃ b,
        t.session i = some { x with billing := { x.billing with state := b } }) ∧
      ((∀ d, (s.entry (laneAt p d)).holder = none) → t.sessions = s.sessions) ∧
      (∀ d c q u, (s.reader (laneAt p d)).slot = some ⟨.setCount c, q, u⟩ →
        (t.tracker (laneAt p d)).resync = .lost ∧
        (t.tracker (laneAt p d)).countWaiting = false) ∧
      t = { s with
        lanes := t.lanes, pairs := t.pairs, sessions := t.sessions, notices := t.notices })

/-- R132, R125: TRIM_TRACK with a count of 1 to 16 removes the oldest entries of the pair's track, as
many as the count or as the list holds, and answers the number removed and the new length. Where an
entry was removed, watch expired and overflow become no and RETURN_STATE is pending; where the list is
empty, nothing changes. The phantom counter is untouched either way. -/
def Obligations.TrimTrackRemovesOldest : Prop :=
  ∀ (s : State) (tag : Byte) (n count : Nat) (p : PairId), s.TrunkFree → s.NoneLeaving →
    pairOf? n = some p → 1 ≤ count → count ≤ 16 →
    let held := (s.ballReturn p).track.length
    ∃ t : State, exec (.trimTrack tag n count) s =
        .next (t.reply ⟨tag, 17, ⟨.ok, .trimmed (min count held) (held - min count held)⟩⟩) ∧
      (t.ballReturn p).track = (s.ballReturn p).track.drop count ∧
      (∀ q, q ≠ p → (t.ballReturn q).track = (s.ballReturn q).track) ∧
      (t.ballReturn p).phantoms = (s.ballReturn p).phantoms ∧
      (1 ≤ held → (t.ballReturn p).watchExpired = false ∧ (t.ballReturn p).overflow = false ∧
        ∃ x ∈ t.notices, x.source = pairSource p ∧ payloadKind x.payload = .returnState) ∧
      (held = 0 → t = s)

/-- R162: COLLECT_CHARGES. A maximum above 16 is refused RANGE and changes nothing. Otherwise the
oldest lines, at most the maximum, leave the list and stand in the response oldest first, with the
number left; the full flag is cleared where a line was removed; with the unlisted option every total
that is not 0 stands in the response and becomes 0, and without it none does. Nothing else changes.

R161: a line handed to the list. Below 256 lines it is appended as the newest; the append that fills the
list while the full flag is clear sets it and raises CHARGE_LIST_FULL with the count and the lanes whose
unlisted total is not 0. At 256 lines it is folded into its lane's unlisted total, amount and line count
saturating. Nothing else changes. -/
def Obligations.CollectChargesTakesOldest : Prop :=
  (∀ (s : State) (x : ChargeLine),
    let longer := s.charges.lines ++ [x]
    (s.charges.lines.length < 255 ∨ s.charges.lines.length = 255 ∧ s.charges.full = true →
      s.appendLine x = { s with charges := { s.charges with lines := longer } }) ∧
    (s.charges.lines.length = 255 → s.charges.full = false → ∃ lanes : List LaneId,
      s.appendLine x =
        State.raise { s with charges := ⟨longer, true⟩ } 0 (.chargeListFull 256 lanes) ∧
      ∀ l, l ∈ lanes ↔ (s.meter l).unlisted.amount ≠ 0 ∨ (s.meter l).unlisted.lines ≠ 0) ∧
    (256 ≤ s.charges.lines.length →
      s.appendLine x = s.modMeter x.lane fun m =>
        { m with unlisted :=
          { amount := min 4294967295 (m.unlisted.amount + x.amount)
            saturated := m.unlisted.saturated ||
              decide (4294967295 ≤ m.unlisted.amount + x.amount)
            lines := min 65535 (m.unlisted.lines + 1) } })) ∧
  ∀ (s : State) (tag : Byte) (n : Nat) (unlisted : Bool), s.TrunkFree →
    (16 < n → exec (.collectCharges tag n unlisted) s =
      .next (s.reply ⟨tag, 18, ⟨.range, .nothing⟩⟩)) ∧
    (n ≤ 16 → ∃ (lanes : Vector Lane 32) (totals : List (LaneId × Unlisted)),
      let full := if n = 0 ∨ s.charges.lines = [] then s.charges.full else false
      let t := { s with lanes := lanes, charges := ⟨s.charges.lines.drop n, full⟩ }
      exec (.collectCharges tag n unlisted) s = .next
        (t.reply ⟨tag, 18, ⟨.ok, .charges (s.charges.lines.take n) totals
          (s.charges.lines.length - n)⟩⟩) ∧
      (unlisted = false → totals = [] ∧ lanes = s.lanes) ∧
      (unlisted = true →
        (∀ l u, (l, u) ∈ totals ↔ u = (s.meter l).unlisted ∧ (u.amount ≠ 0 ∨ u.lines ≠ 0)) ∧
        (∀ l, t.lane l =
          { s.lane l with meter :=
            { s.meter l with unlisted :=
              if (s.meter l).unlisted.amount ≠ 0 ∨ (s.meter l).unlisted.lines ≠ 0 then ⟨0, false, 0⟩
              else (s.meter l).unlisted } })))

/-- R181, R1, R6, R64, R70, R81, R103, R122, R161, R163: RESET_DEVICE. With a lane open or a machine not
at rest it is refused BAD_STATE; with charges owed and discard charges not set it is refused BUSY; a
refusal changes nothing. An accepted one makes the device SETUP, frees every session record, empties the
notice set and the queue, clears the tracks and the trunk counters, sets every enabled lane CLOSED with
holder, waiting and move pending absent, and discards the charges where it may. Every tracker is as at
power-on but for its pit count, every supervisor but for machine state and cycle number; the counters of
the detector filters, nodes, pollers and returns become 0, and the filters' states, the nodes' states,
misses, owed commands and serials, the poll orders and the round stand (a node's slot too, but that the
lane I/O node may be sent its outputs afresh). It keeps the fault sets (but for a RETURN_JAM whose
condition ends with the track, R129), the loaded tables, the lane memories, the tariff and the clock. The
response carries the requests discarded (none: the queue was empty when it was taken) and, when
discarding, the number of lines and the amount, each that of the Charge List and of the unlisted totals
of all lanes together. (That these two numbers are exact sums is log entry 29, that a node's misses are
kept log entry 61; that the bytes of a trunk frame not yet complete are kept is log entry 41, the model's
choice.) -/
def Obligations.ResetDeviceClearsBlocks : Prop :=
  ∀ (s : State) (tag : Byte) (discard : Bool), s.TrunkFree →
    let rests := ∀ l, ((s.entry l).state = .closed ∨ (s.entry l).state = .disabled) ∧
      ((s.supervisor l).machine = .off ∨ (s.supervisor l).machine = .parked ∨
        (s.supervisor l).machine = .outOfService)
    let owes := s.charges.lines ≠ [] ∨
      ∃ l, (s.meter l).unlisted.amount ≠ 0 ∨ (s.meter l).unlisted.lines ≠ 0
    let others := fun fs : List FaultEntry => fs.filter fun f => f.cls != .returnJam
    let cleared := fun x : DetectorState => { x with passages := 0, glitches := 0 }
    let zeroed := fun x : Node =>
      { x with totalMisses := 0, commandsDropped := 0, framesDropped := 0, framesDiscarded := 0 }
    (¬ rests → exec (.resetDevice tag discard) s =
      .next (s.reply ⟨tag, 19, ⟨.badState, .nothing⟩⟩)) ∧
    (rests → owes → discard = false → exec (.resetDevice tag discard) s =
      .next (s.reply ⟨tag, 19, ⟨.busy, .nothing⟩⟩)) ∧
    (rests → (owes → discard = true) → ∃ t : State,
      exec (.resetDevice tag discard) s = .next
        (t.reply ⟨tag, 19, ⟨.ok, .resetDone 0
          (if discard then some
            (s.charges.lines.length +
              ((List.finRange 32).map fun l => (s.meter l).unlisted.lines).sum,
            (s.charges.lines.map (·.amount)).sum +
              ((List.finRange 32).map fun l => (s.meter l).unlisted.amount).sum)
          else none)⟩⟩) ∧
      t.device = .setup ∧ t.notices = [] ∧ (∀ i, t.session i = none) ∧
      t.trunk = { s.trunk with lengthErrors := 0, crcErrors := 0, kindErrors := 0, dropped := 0 } ∧
      (∀ l, t.entry l =
        { s.entry l with
          state := if (s.entry l).enabled then .closed else .disabled
          holder := none, waiting := none, movePending := none }) ∧
      (∀ l, t.tracker l = ⟨.notArmed, (s.tracker l).pitCount, none, none, none, none, none, .none,
          false, false, 0, 0, 0, 0, 0⟩ ∧
        t.supervisor l = ⟨(s.supervisor l).machine, (s.supervisor l).cycle, none, none, none, none,
          .none, none, 0, 0, none⟩ ∧
        (t.lane l).faults = (s.lane l).faults) ∧
      (∀ p, others (t.pair p).faults = others (s.pair p).faults ∧
        ((s.ballReturn p).watchExpired = false → (s.ballReturn p).overflow = false →
          (t.pair p).faults = (s.pair p).faults) ∧
        (∃ watch on use, t.ballReturn p =
          { s.ballReturn p with
            track := [], liftOn := on, inUse := use, watch := watch, watchExpired := false
            overflow := false, atCapacity := false, phantoms := 0, overflows := 0, expiries := 0 }) ∧
        t.filter p =
          { s.filter p with
            foulLeft := cleared (s.filter p).foulLeft, pitLeft := cleared (s.filter p).pitLeft
            foulRight := cleared (s.filter p).foulRight, pitRight := cleared (s.filter p).pitRight
            lift := cleared (s.filter p).lift, rack := cleared (s.filter p).rack
            reinits := 0, mismatches := 0, discarded := 0 } ∧
        t.poller p =
          { s.poller p with
            nodes := (t.poller p).nodes, pollsSent := 0, wrongAddress := 0, damaged := 0
            abandoned := 0 } ∧
        ∀ a, (a ≠ laneIoAddr → t.node p a = zeroed (s.node p a)) ∧
          t.node p a = { zeroed (s.node p a) with
            slot := (t.node p a).slot, nextSerial := (t.node p a).nextSerial }) ∧
      (discard = true → t.charges = ⟨[], false⟩ ∧
        ∀ l, t.meter l = ⟨none, 0, false, ⟨0, false, 0⟩⟩) ∧
      (discard = false → t.charges = s.charges) ∧
      t = { s with
        device := .setup, notices := [], trunk := t.trunk, lanes := t.lanes, pairs := t.pairs
        sessions := t.sessions, charges := t.charges })

/-- R180: GO_RUN and RETURN_SETUP. GO_RUN in RUN is refused BAD_STATE; in SETUP it is refused
BAD_STATE naming the first of lane map, clock and tariff that fails, and with none failing makes the
device RUN. RETURN_SETUP in SETUP is refused NOT_RUNNING; in RUN it makes the device SETUP where every
lane is CLOSED or DISABLED and every machine OFF, PARKED or OUT_OF_SERVICE, and is refused BAD_STATE
otherwise. Nothing else changes. -/
def Obligations.DeviceStateRequests : Prop :=
  ∀ (s : State) (tag : Byte), s.TrunkFree →
    let goes := fun r : Reply => exec (.goRun tag) s = .next (s.reply ⟨tag, 20, r⟩)
    let rests := ∀ l, ((s.entry l).state = .closed ∨ (s.entry l).state = .disabled) ∧
      ((s.supervisor l).machine = .off ∨ (s.supervisor l).machine = .parked ∨
        (s.supervisor l).machine = .outOfService)
    (s.device = .run → goes ⟨.badState, .nothing⟩) ∧
    (s.device = .setup → s.laneMapLoaded = false → goes ⟨.badState, .runCondition .laneMap⟩) ∧
    (s.device = .setup → s.laneMapLoaded = true → s.clock.valid = false →
      goes ⟨.badState, .runCondition .clock⟩) ∧
    (s.device = .setup → s.laneMapLoaded = true → s.clock.valid = true →
      s.tariff.committedOnce = false → goes ⟨.badState, .runCondition .tariff⟩) ∧
    (s.device = .setup → s.laneMapLoaded = true → s.clock.valid = true →
      s.tariff.committedOnce = true →
      exec (.goRun tag) s =
        .next (State.reply { s with device := .run } ⟨tag, 20, ⟨.ok, .nothing⟩⟩)) ∧
    (s.device = .setup →
      exec (.returnSetup tag) s = .next (s.reply ⟨tag, 44, ⟨.notRunning, .nothing⟩⟩)) ∧
    (s.device = .run → rests →
      exec (.returnSetup tag) s =
        .next (State.reply { s with device := .setup } ⟨tag, 44, ⟨.ok, .nothing⟩⟩)) ∧
    (s.device = .run → ¬ rests →
      exec (.returnSetup tag) s = .next (s.reply ⟨tag, 44, ⟨.badState, .nothing⟩⟩))

/-- R134, R148, R178, R182: the six read requests change nothing but the trunk, where the response
goes. READ_LANE, READ_SESSION and READ_RETURN answer the records of a lane of the map, a session in
use and a pair (the age of the oldest track entry being the device time less its entry time), and
refuse any other number, NO_LANE, NOT_FOUND and NO_LANE; READ_TARIFF answers the copy asked for with
the version, committed once and the pending commit; READ_DEVICE and READ_NOTICE_STATUS answer always,
the latter every pending entry with its source, kind, priority and merge count. (That READ_LANE returns
the lane table entry without its lane memory, which R5 lets only KEEP read, is log entry 49; that the
staging CRC passes over an EMPTY slot is log entry 55.) -/
def Obligations.ReadsAnswerAndChangeNothing : Prop :=
  ∀ (s : State) (tag : Byte), s.TrunkFree →
    (∀ n l, s.mappedLane? n = some l → ∃ r : LaneReading,
      exec (.readLane tag n) s = .next (s.reply ⟨tag, 21, ⟨.ok, .lane r⟩⟩) ∧
      r.entry = ⟨(s.entry l).enabled, (s.entry l).profile, (s.entry l).hasConsole,
        (s.entry l).state, (s.entry l).holder, (s.entry l).waiting, (s.entry l).movePending⟩ ∧
      r.play = (s.tracker l).play ∧ r.pitCount = (s.tracker l).pitCount ∧
      r.ball = (s.tracker l).ball ∧ r.machine = (s.supervisor l).machine ∧
      r.record = (s.supervisor l).record ∧ r.laneFaults = (s.lane l).faults ∧
      r.pairFaults = (s.pair (pairOf l)).faults ∧ r.effective = s.effective l ∧
      r.meter = s.meter l ∧ r.filter = s.filter (pairOf l) ∧
      r.nodes = (s.poller (pairOf l)).nodes) ∧
    (∀ n, s.mappedLane? n = none →
      exec (.readLane tag n) s = .next (s.reply ⟨tag, 21, ⟨.noLane, .nothing⟩⟩)) ∧
    (∀ (i : SessionId) (x : Session), s.session i = some x →
      exec (.readSession tag (i.val + 1)) s = .next (s.reply ⟨tag, 22, ⟨.ok, .session i x⟩⟩)) ∧
    (∀ n, (∀ i : SessionId, n = i.val + 1 → s.session i = none) →
      exec (.readSession tag n) s = .next (s.reply ⟨tag, 22, ⟨.notFound, .nothing⟩⟩)) ∧
    (∀ p : PairId, exec (.readReturn tag (p.val + 1)) s = .next
      (s.reply ⟨tag, 23, ⟨.ok, .ballReturn (s.ballReturn p)
        ((s.ballReturn p).track.head?.map fun e => s.deviceTime - e.entered) s.deviceTime⟩⟩)) ∧
    (∀ n, n < 1 ∨ 16 < n →
      exec (.readReturn tag n) s = .next (s.reply ⟨tag, 23, ⟨.noLane, .nothing⟩⟩)) ∧
    (exec (.readTariff tag .active) s = .next
      (s.reply ⟨tag, 24, ⟨.ok, .tariff
        (.active s.tariff.activeTable s.tariff.activeDefaults s.tariff.activeDays)
        s.tariff.version s.tariff.committedOnce s.tariff.pending⟩⟩)) ∧
    (exec (.readTariff tag .staging) s = .next
      (s.reply ⟨tag, 24, ⟨.ok, .tariff
        (.staging s.tariff.slots s.tariff.stagedDefaults s.tariff.stagedDays
          (stagedCrc s.tariff (highestFilled s.tariff)))
        s.tariff.version s.tariff.committedOnce s.tariff.pending⟩⟩)) ∧
    (∃ r : DeviceReading,
      exec (.readDevice tag) s = .next (s.reply ⟨tag, 25, ⟨.ok, .device r⟩⟩) ∧
      r.device = s.device ∧ r.laneMapLoaded = s.laneMapLoaded ∧ r.calendar = s.clock.calendar ∧
      r.valid = s.clock.valid ∧ r.version = s.tariff.version ∧
      r.lines = s.charges.lines.length ∧ r.full = s.charges.full ∧
      r.notices = s.notices.length) ∧
    (∃ rs : List NoticeReading,
      exec (.readNoticeStatus tag) s = .next (s.reply ⟨tag, 26, ⟨.ok, .noticeStatus rs⟩⟩) ∧
      rs.map (fun r => (r.source, r.kind, r.priority, r.merges)) =
        s.notices.map (fun n => (n.source, payloadKind n.payload, n.priority, n.merges)) ∧
      ∀ r ∈ rs, 4 ≤ r.payloadLength ∧ r.payloadLength ≤ 513)

/-! ## Sessions -/

/-- R12 to R14, R25, R40, R96, R149: OPEN_LANE in RUN on a CLOSED lane of the map that is no move
target, with an openable machine, fields that resolve, 1 to 8 entries, a limit that fits the billing
and a free record. The lowest free record `i` is taken: OPEN, SINGLE, on the lane, with the resolved
fields, game 1, frame 1 and the turn at slot 1, every bowler a member with its game 1 of ten empty
frames, the first ball facing the full rack, and a new billing record (warned as the warning test of
R156 leaves it). The lane becomes OPEN with the session as holder. Below STOP, an OFF or PARKED machine
whose slot is empty begins START. Everything else stands, but for the equipment of the pair and the
notices raised. The response carries the id and the clamped fields. -/
def Obligations.OpenLaneTakesSession : Prop :=
  ∀ (s : State) (tag : Byte) (n : Nat) (sel : TermSelectors) (es : List BowlerEntry) (l : LaneId)
    (r : Resolved) (bs : List Bowler) (i : SessionId) (free : List SessionId),
    s.TrunkFree → s.device = .run → s.mappedLane? n = some l → (s.entry l).state = .closed →
    s.isMoveTarget l = false → openableMachine (s.supervisor l).machine = true →
    resolveTerms s.defaults.terms (s.entry l).memory sel = some r → bowlersOf? es = some bs →
    1 ≤ es.length → es.length ≤ 8 → limitFits r.terms.billing r.terms.limit = true →
    s.freeSessions = i :: free →
    ∃ (t : State) (x : Session),
      exec (.openLane tag n sel es) s = .next
        (t.reply ⟨tag, 27, ⟨.ok, .opened i (r.clamped ++ listClamps 1 es)⟩⟩) ∧
      t.session i = some x ∧ x.state = .opened ∧ x.mode = .single ∧ x.lane = l ∧
      x.terms = r.terms ∧ x.expiryDue = false ∧ x.game = 1 ∧ x.frame = 1 ∧ x.slot = some 1 ∧
      x.nextBall = ⟨1, 1, 1, .full, fullRack, none⟩ ∧ x.held = none ∧ x.pendingResume = none ∧
      x.bowlers.map (fun b => (b.handle, b.average, b.handicapMode)) =
        bs.map (fun b => (b.handle, b.average, b.handicapMode)) ∧
      (∀ b ∈ x.bowlers, b.member = true ∧ b.joinsNext = false ∧ b.withdrawalPending = false ∧
        b.gamesCompleted = 0 ∧ b.totals = [] ∧ b.game.number = 1 ∧
        b.game.handicap = handicapOf r.terms b ∧ b.game.charged = false ∧
        b.game.frames = List.replicate 10 ⟨.notBowled, [], none, none⟩) ∧
      x.billing = { newBilling r.terms.billing (s.credit l) s.defaults.expiryWait with
        warned := x.billing.warned } ∧
      OnPair (pairOf l)
        ((s.setSession i (some x)).modEntry l fun e => { e with state := .opened, holder := some i })
        t ∧
      (s.belowStop l = true →
        ((s.supervisor l).machine = .off ∨ (s.supervisor l).machine = .parked) →
        (s.pinsetter l).slot = none →
        (t.supervisor l).machine = .starting ∧
        (t.pinsetter l).slot = some ⟨.cycle .start ((s.supervisor l).cycle + 1),
          (s.pinsetter l).nextSerial, none⟩) ∧
      (s.belowStop l = false → (t.supervisor l).machine = (s.supervisor l).machine)

/-- R15, R47: OPEN_PAIR_PLAY in RUN on a pair whose lanes are both CLOSED, no move targets and with
openable machines, with both teams' fields resolving to GAME billing and no MINUTES limit, two lists
of 1 to 8 entries and two free records. Team 1 takes the lower record on the left lane, team 2 the
next on the right lane; both are OPEN in PAIR_PLAY mode, with game 1 started; both lanes become
PAIR_PLAY, held by their team with nobody waiting. Everything else stands, but for the equipment of
the pair and the notices raised.

R48 to R52: after the opening. A completed frame releases the lane, then requests the other. While the
other lane is held, the session waits for it, with no notice. Where the other lane is free it is granted
at once, and where a session waits for the released lane, that lane is granted to it first; each grant
sets holder and lane, empties the waiting slot, and is told by TURN_CHANGED. A session that leaves
releases its lane likewise, or gives up its waiting place. A completed frame 10 starts the next game, then
reports the completion. -/
def Obligations.OpenPairPlayTakesBothLanes : Prop :=
  (∀ (s : State) (p : PairId) (d e : Side) (i : SessionId) (x : Session), d ≠ e →
    let l := laneAt p d
    let k := laneAt p e
    let told := fun (t : State) (m : LaneId) (j : SessionId) (y : Session) (w : Option SessionId) =>
      ∃ n ∈ t.notices, n.source = laneSource m ∧ ∃ c, n.payload = .turnChanged c ∧ c.pair = p ∧
        c.lane = m ∧ c.session = j ∧ c.game = y.game ∧ c.frame = y.frame ∧ c.slot = y.slot ∧
        c.otherWaiting = w
    let released := s.modEntry l fun e => { e with holder := none }
    let leaves := s.leaveSlots i l
    s.session i = some x → x.mode ≠ .single → x.lane = l →
    ((s.entry l).holder = some i → x.state = .opened →
      (∀ j, (s.entry l).waiting = none → (s.entry k).holder = some j →
        (s.frameCompleted i).notices = s.notices ∧
        OnPair p ((released.modEntry k fun e => { e with waiting := some i }).setSession i
          (some { x with lane := k })) (s.frameCompleted i)) ∧
      ((s.entry l).waiting = none → (s.entry k).holder = none → ∃ y,
        SameButBillingState { x with lane := k } y ∧ told (s.frameCompleted i) k i x none ∧
        OnPair p ((released.modEntry k fun e =>
          { e with holder := some i, waiting := none }).setSession i (some y)) (s.frameCompleted i)) ∧
      (∀ j z, (s.entry l).waiting = some j → j ≠ i → s.session j = some z →
        (s.entry k).holder = none → ∃ y w,
        SameButBillingState { x with lane := k } y ∧ SameButBillingState { z with lane := l } w ∧
        told (s.frameCompleted i) l j z (s.entry k).waiting ∧ told (s.frameCompleted i) k i x none ∧
        OnPair p ((((s.modEntry l fun e =>
          { e with holder := some j, waiting := none }).modEntry k fun e =>
          { e with holder := some i, waiting := none }).setSession j (some w)).setSession i
            (some y)) (s.frameCompleted i))) ∧
    ((s.entry l).holder = some i →
      ((s.entry l).waiting = none → leaves.notices = s.notices ∧ OnPair p released leaves) ∧
      (∀ j z, (s.entry l).waiting = some j → j ≠ i → s.session j = some z → ∃ w,
        SameButBillingState { z with lane := l } w ∧ told leaves l j z (s.entry k).waiting ∧
        OnPair p ((s.modEntry l fun e =>
          { e with holder := some j, waiting := none }).setSession j (some w)) leaves)) ∧
    ((s.entry l).holder ≠ some i → (s.entry l).waiting = some i →
      leaves = s.modEntry l fun e => { e with waiting := none }) ∧
    (∀ slot, x.frame = 10 → (nextGame x).2 = false →
      (∀ m ∈ x.takingPart, slot < m → ∀ b, bowlerAt x m = some b → b.game.status ≠ .inProgress) →
      (nextGame x).1.game = min 255 (x.game + 1) ∧ (nextGame x).1.frame = 1 ∧
      s.passTurnFrom i slot =
        ((s.setSession i (some (nextGame x).1)).armingCheck l).frameCompleted i)) ∧
  ∀ (s : State) (tag : Byte) (n : Nat) (sel : TermSelectors) (es1 es2 : List BowlerEntry)
    (p : PairId) (r1 r2 : Resolved) (bs1 bs2 : List Bowler) (i j : SessionId)
    (free : List SessionId),
    let l := laneAt p .left
    let r := laneAt p .right
    s.TrunkFree → s.device = .run → pairOf? n = some p →
    (s.entry l).state = .closed → (s.entry r).state = .closed →
    s.isMoveTarget l = false → s.isMoveTarget r = false →
    openableMachine (s.supervisor l).machine = true →
    openableMachine (s.supervisor r).machine = true →
    resolveTerms s.defaults.terms (s.entry l).memory sel = some r1 →
    resolveTerms s.defaults.terms (s.entry r).memory sel = some r2 →
    bowlersOf? es1 = some bs1 → bowlersOf? es2 = some bs2 →
    1 ≤ es1.length → es1.length ≤ 8 → 1 ≤ es2.length → es2.length ≤ 8 →
    r1.terms.billing = .game → r2.terms.billing = .game →
    limitFits .game r1.terms.limit = true → limitFits .game r2.terms.limit = true →
    s.freeSessions = i :: j :: free →
    ∃ (t : State) (x y : Session) (clamped : List ClampedField),
      exec (.openPairPlay tag n sel es1 es2) s =
        .next (t.reply ⟨tag, 28, ⟨.ok, .openedPair i j clamped⟩⟩) ∧
      t.session i = some x ∧ x.state = .opened ∧ x.mode = .pairPlay .left ∧ x.lane = l ∧
      x.terms = r1.terms ∧ x.game = 1 ∧ x.frame = 1 ∧ x.slot = some 1 ∧
      x.bowlers.map (·.handle) = bs1.map (·.handle) ∧
      t.session j = some y ∧ y.state = .opened ∧ y.mode = .pairPlay .right ∧ y.lane = r ∧
      y.terms = r2.terms ∧ y.game = 1 ∧ y.frame = 1 ∧ y.slot = some 1 ∧
      y.bowlers.map (·.handle) = bs2.map (·.handle) ∧
      OnPair p
        ((((s.setSession i (some x)).setSession j (some y)).modEntry l fun e =>
          { e with state := .pairPlay, holder := some i, waiting := none }).modEntry r fun e =>
          { e with state := .pairPlay, holder := some j, waiting := none })
        t

/-- R16: ADD_BOWLER to a session in use that is not CLOSING and holds fewer than 8 records, with a
listed handicap mode. A record is appended in the next slot: a member that joins the next game, with
no withdrawal pending, the average and a FIXED handicap clamped to 300, its game NOT_STARTED with ten
empty frames and nothing completed. The game's own handicap is a free value: the spec gives none
before the game starts (log entry 27). Nothing else changes. -/
def Obligations.AddBowlerAppendsRecord : Prop :=
  ∀ (s : State) (tag : Byte) (n : Nat) (e : BowlerEntry) (i : SessionId) (x : Session)
    (h : HandicapMode), s.TrunkFree → s.device = .run → s.sessionInUse? n = some (i, x) →
    x.state ≠ .closing → x.bowlers.length < 8 →
    handicapModeOf? e.modeCode e.fixedValue = some h →
    ∃ b : Bowler,
      exec (.addBowler tag n e) s = .next
        (State.reply (s.setSession i (some { x with bowlers := x.bowlers ++ [b] }))
          ⟨tag, 29, ⟨.ok, .slot (x.bowlers.length + 1)
            (bowlerClamps 1 (x.bowlers.length + 1) e)⟩⟩) ∧
      b.handle = e.handle ∧ b.member = true ∧ b.joinsNext = true ∧ b.withdrawalPending = false ∧
      b.average = min 300 e.average ∧
      b.handicapMode = (match e.modeCode with
        | 0 => .none
        | 1 => .fixed (min 300 e.fixedValue)
        | _ => .basis) ∧
      b.gamesCompleted = 0 ∧ b.totals = [] ∧ b.game.number = x.game ∧
      b.game.status = .notStarted ∧ b.game.charged = false ∧
      b.game.frames = List.replicate 10 ⟨.notBowled, [], none, none⟩

/-- R17, R42, R37, R38: WITHDRAW_BOWLER of a member with no withdrawal pending, in a session in use that
is not CLOSING and keeps another member. With the bowler's ball in flight, withdrawal pending is set and
nothing else changes. Without, the withdrawal takes effect at once: the bowler is no longer a member, and
a game begun or not started becomes WITHDRAWN. A game that was IN_PROGRESS is entered in the bowler's
totals list (its number, its last running total or 0 as scratch, its handicap, their sum, ending
WITHDRAWN), the oldest of 12 entries leaving first, and GAME_DONE is raised. For a bowler who does not
hold the turn nothing else but the notices changes. One who holds it, without expiry due, passes it to
the first higher slot of the game that is IN_PROGRESS, or in frame 1 NOT_STARTED with the games limit not
reached, whose game is then IN_PROGRESS, on a full rack. Where the next-ball record faced LEAVE and the
session holds its lane, FULL (for an EXHAUSTED SINGLE session FULL-then-park, R36) becomes the lane's
owed cycle where one is owed, waits for a sequence in progress to end, and else is taken (R92): owed by a
READY machine at HOLD or above, or run by one below HOLD with an empty slot (here FULL). On no LEAVE, or
without the lane, the machine stands. Besides, only equipment of the pair and notices change. (Log entry
17 tells which lane is meant, log entry 52 when the need is decided.) -/
def Obligations.WithdrawBowlerEndsMembership : Prop :=
  ∀ (s : State) (tag : Byte) (n slot : Nat) (i : SessionId) (x : Session) (b : Bowler),
    s.TrunkFree → s.device = .run → s.sessionInUse? n = some (i, x) → bowlerAt x slot = some b →
    b.member = true → x.state ≠ .closing → b.withdrawalPending = false →
    2 ≤ (x.bowlers.filter fun c => c.member && !c.withdrawalPending).length →
    let withdrawn := { b with
      member := false, joinsNext := false
      game := { b.game with status :=
        if b.game.status = .inProgress ∨ b.game.status = .notStarted then .withdrawn
        else b.game.status }
      totals :=
        if b.game.status = .inProgress then
          let scratch := (b.game.frames.filterMap (·.running)).getLast?.getD 0
          (if b.totals.length < 12 then b.totals else b.totals.drop 1) ++
            [⟨b.game.number, scratch, b.game.handicap, scratch + b.game.handicap, .withdrawn⟩]
        else b.totals }
    let told := fun t : State => b.game.status = .inProgress →
      ∃ e ∈ t.notices, e.source = laneSource x.lane ∧ payloadKind e.payload = .gameDone
    let y := { x with bowlers := x.bowlers.set (slot - 1) withdrawn }
    (s.sessionInFlight i x = true → x.slot = some slot →
      exec (.withdrawBowler tag n slot) s = .next
        (State.reply
          (s.setSession i (some { x with
            bowlers := x.bowlers.set (slot - 1) { b with withdrawalPending := true } }))
          ⟨tag, 30, ⟨.ok, .nothing⟩⟩)) ∧
    (s.NoneLeaving → x.slot ≠ some slot → ∃ t : State,
      exec (.withdrawBowler tag n slot) s = .next (t.reply ⟨tag, 30, ⟨.ok, .nothing⟩⟩) ∧
      t = { s.setSession i (some y) with notices := t.notices } ∧ told t) ∧
    (s.NoneLeaving → x.slot = some slot → s.sessionInFlight i x = false → x.expiryDue = false →
      ∀ k : Nat,
        (x.takingPart.filter fun m => decide (slot < m)).find?
          (fun m => gameStatus x m == some .inProgress ||
            x.frame == 1 && gameStatus x m == some .notStarted) = some k →
        (gameStatus x k = some .notStarted →
          ∀ g, x.terms.limit = .games g → x.billing.gamesCharged < g) →
        ∃ t : State,
          exec (.withdrawBowler tag n slot) s = .next (t.reply ⟨tag, 30, ⟨.ok, .nothing⟩⟩) ∧
          OnPair (pairOf x.lane)
            (s.setSession i (some { y with
              bowlers := y.bowlers.modify (k - 1) fun c =>
                { c with game := { c.game with status := .inProgress } }
              slot := some k, nextBall := ⟨k, x.frame, 1, .full, fullRack, none⟩ })) t ∧
          told t ∧
          let v := s.supervisor x.lane
          let w := t.supervisor x.lane
          let need : Need :=
            if x.mode = .single ∧ x.state = .exhausted then .fullThenPark else .full
          (x.nextBall.faced ≠ .leave ∨ (s.entry x.lane).holder ≠ some i → w = v) ∧
          (x.nextBall.faced = .leave → (s.entry x.lane).holder = some i →
            (v.owed.isSome = true → w = { v with owed := some need }) ∧
            (v.owed = none → v.record.isSome = true → w = { v with deferredNeed := some need }) ∧
            (v.owed = none → v.record = none → v.machine = .ready →
              (s.belowHold x.lane = false → w = { v with owed := some need }) ∧
              (s.belowHold x.lane = true → need = .full → (s.pinsetter x.lane).slot = none →
                w = { v with
                  machine := .cycling, cycle := v.cycle + 1
                  record := some ⟨.fullCycle, v.cycle + 1, .step .sweep [.newRack, .home], false,
                    none, none⟩ } ∧
                (t.pinsetter x.lane).slot = some ⟨.cycle .fullCycle (v.cycle + 1),
                  (s.pinsetter x.lane).nextSerial, none⟩))))

/-- R19, R20, R24: CLOSE_LANE of an OPEN lane whose holder is a SINGLE session on it, not CLOSING, with
no ball awaiting entry, while no other session is leaving a lane. Where the lane is not quiet, the
session becomes CLOSING with expiry due cleared and the expiry count absent, and a pending move is
cancelled. Where it is quiet and the billing is GAME, the close sequence is complete in the same
command: the record is free, the lane CLOSED without holder, waiting or move, and the lane memory
holds the session's fields. Everything else stands, but for the equipment of the pair and the notices
raised. A lane already CLOSED or MANUAL is refused BAD_STATE.

R159: the same for TIME billing, with the billing close first (here: no commit pending, an open line of
the tariff in force short of its top count, at most 252 lines in the list, and a charged total that stays
below its top). Seconds above the grace charge one more minute; a carry of 30 or more then adds one unit;
both stand on the open line, which is appended as a TIME line; a time total below the minimum appends a
MINIMUM line of the difference, and credited seconds a DOWNTIME_NOTE. The lane's charged total takes the
amounts. -/
def Obligations.CloseLaneClosesOrWaits : Prop :=
  ∀ (s : State) (tag : Byte) (n : Nat) (l : LaneId), s.TrunkFree → s.device = .run →
    s.mappedLane? n = some l →
    ((s.entry l).state = .closed ∨ (s.entry l).state = .manual → ∀ o,
      exec (.closeLane tag n o) s = .next (s.reply ⟨tag, 31, ⟨.badState, .nothing⟩⟩)) ∧
    (∀ (i : SessionId) (x : Session) (o : Option Nat),
      (s.entry l).state = .opened → (s.entry l).holder = some i → s.session i = some x →
      x.mode = .single → x.lane = l → x.state ≠ .closing → (s.tracker l).play ≠ .awaitingEntry →
      (o = none ∨ o = some (i.val + 1)) →
      (∀ j y, j ≠ i → s.session j = some y → y.state ≠ .closing ∧ y.state ≠ .moving) →
      ∃ t : State,
        exec (.closeLane tag n o) s = .next (t.reply ⟨tag, 31, ⟨.ok, .nothing⟩⟩) ∧
        (s.quiet l = false →
          OnPair (pairOf l)
            ((s.setSession i (some { x with
              state := .closing, expiryDue := false
              billing := { x.billing with expiryCount := none } })).modEntry l fun e =>
                { e with movePending := none }) t) ∧
        (s.quiet l = true → x.terms.billing = .game →
          OnPair (pairOf l)
            ((s.setSession i none).modEntry l fun e =>
              { e with
                state := .closed, holder := none, waiting := none, movePending := none
                memory := some x.terms }) t) ∧
        (∀ u : OpenLine, s.quiet l = true → x.terms.billing = .time → s.tariff.pending = none →
          (s.meter l).openLine = some u → u.minutes < 65535 → s.charges.lines.length ≤ 252 →
          let c := s.clock.calendar
          let k := lookupIn s.tariff x.terms.tariffClass c
          let minute := k.grace < x.billing.secondsInMinute
          let charge := if minute then (k.hourlyRate + x.billing.carry) / 60 else 0
          let carry := if minute then (k.hourlyRate + x.billing.carry) % 60 else x.billing.carry
          let unit := if 30 ≤ carry then 1 else 0
          let total := min 4294967295 (x.billing.timeTotal + charge + unit)
          let due := k.minimum - total
          u.reference = k.reference → u.version = k.version →
          (s.meter l).chargedTotal + charge + unit + due < 4294967295 →
          let lines : List ChargeLine :=
            [⟨l, u.session, .time, u.reference, u.version, if minute then u.minutes + 1 else u.minutes,
              min 4294967295 (u.amount + charge + unit), u.start, none⟩] ++
            (if total < k.minimum then [⟨l, i, .minimum, 0, k.version, 0, due, c, none⟩] else []) ++
            (if 0 < x.billing.credited then
              [⟨l, i, .downtimeNote, 0, k.version, x.billing.credited, 0, c, none⟩] else [])
          OnPair (pairOf l)
            (State.modMeter
              { (s.setSession i none).modEntry l fun e =>
                  { e with
                    state := .closed, holder := none, waiting := none, movePending := none
                    memory := some x.terms } with
                charges := { s.charges with lines := s.charges.lines ++ lines } }
              l fun m =>
                { m with openLine := none, chargedTotal := m.chargedTotal + charge + unit + due })
            t))

/-- R22, R23, R153, R160: MOVE_SESSION of an OPEN SINGLE session that holds its lane, without expiry due,
to another CLOSED lane of the map that is no move target and has an openable machine. Where the lane is
not quiet, the session becomes MOVING and the lane's move pending is set. Where it is quiet, the move
completes in the same command: the lane is CLOSED, the target OPEN with the session as holder, the
session OPEN on the target, and the open time line of the lane has been appended. Other sessions, other
lanes' entries, the lanes of other pairs, the clock, the device state and every loaded table stand:
tariff, profiles, defaults, fault actions, notice priorities, lane map, and each pair's debounce values,
poll order, answer timeout, lost threshold and return settings. -/
def Obligations.MoveSessionMovesOrWaits : Prop :=
  ∀ (s : State) (tag : Byte) (n m : Nat) (choice : MoveResume) (i : SessionId) (x : Session)
    (k : LaneId), s.TrunkFree → s.device = .run → s.sessionInUse? n = some (i, x) →
    x.mode = .single → x.state = .opened → x.expiryDue = false → s.mappedLane? m = some k →
    k ≠ x.lane → (s.entry k).state = .closed → s.isMoveTarget k = false →
    openableMachine (s.supervisor k).machine = true → (s.entry x.lane).holder = some i →
    ∃ t : State,
      exec (.moveSession tag n m choice) s = .next (t.reply ⟨tag, 32, ⟨.ok, .nothing⟩⟩) ∧
      (s.quiet x.lane = false →
        OnPair (pairOf x.lane)
          ((s.setSession i (some { x with state := .moving })).modEntry x.lane fun e =>
            { e with movePending := some ⟨k, choice⟩ }) t) ∧
      (s.quiet x.lane = true →
        (∃ y, t.session i = some y ∧
          y = { x with
            lane := k, bowlers := y.bowlers, nextBall := y.nextBall
            pendingResume := y.pendingResume
            billing := { x.billing with state := y.billing.state } } ∧
          y.bowlers.map (·.handle) = x.bowlers.map (·.handle)) ∧
        (∀ j, j ≠ i → t.session j = s.session j) ∧
        t.entry x.lane =
          { s.entry x.lane with
            state := .closed, holder := none, waiting := none, movePending := none } ∧
        t.entry k = { s.entry k with state := .opened, holder := some i } ∧
        (∀ q, q ≠ x.lane → q ≠ k → t.entry q = s.entry q) ∧
        ((s.meter x.lane).openLine = none → t.charges = s.charges) ∧
        (∀ o, (s.meter x.lane).openLine = some o → s.charges.lines.length < 256 →
          (t.meter x.lane).openLine = none ∧
          t.charges.lines = s.charges.lines ++ [timeLine x.lane o]) ∧
        (∀ q, pairOf q ≠ pairOf x.lane → pairOf q ≠ pairOf k → t.lane q = s.lane q) ∧
        (∀ p, t.filter p = s.filter p ∧ (t.poller p).order = (s.poller p).order ∧
          (t.poller p).pendingOrder = (s.poller p).pendingOrder ∧
          (t.poller p).timeout = (s.poller p).timeout ∧
          (t.poller p).threshold = (s.poller p).threshold ∧
          (t.ballReturn p).capacity = (s.ballReturn p).capacity ∧
          (t.ballReturn p).jamSeconds = (s.ballReturn p).jamSeconds) ∧
        t = { s with
          lanes := t.lanes, pairs := t.pairs, sessions := t.sessions, charges := t.charges
          notices := t.notices })

/-- R158, R156: EXTEND_LIMIT of a session in use, not CLOSING, with a limit. A value that is not above
the present one, or above 255 games or 1,440 minutes, is refused RANGE. Otherwise the limit takes the
value, and the response carries it with the remaining count; warned becomes no when the remaining count
is above the warning threshold. An EXHAUSTED session with a GAMES limit returns to OPEN. A STOPPED record
under a MINUTES limit takes the credit state of the lane, its expiry count becomes absent, and the
session returns from EXPIRED to OPEN, or from expiry due. For any other session nothing else changes but
the notices.

R156: the limit tests after a charge. At a remaining count of 0 LIMIT_REACHED is raised with limit,
charged count and, for MINUTES, the expiry wait; a MINUTES limit stops the record with seconds 0 and
expires the session by R8: an OPEN one, and a MOVING one, whose move is cancelled and whose lane's
machine is not parked by the leaving (a follow-on of PARK and a FULL-then-park are taken back, log entry
58). At a remaining count from 1 to the threshold, and not yet warned, LIMIT_WARNING is raised and warned
becomes yes. Else, and without a limit, nothing changes. -/
def Obligations.ExtendLimitRaisesLimit : Prop :=
  (∀ (s : State) (i : SessionId) (x : Session), s.session i = some x →
    (x.terms.limit = .none → s.limitTests i = s) ∧
    (∀ value charged, (x.terms.limit = .games value ∧ charged = x.billing.gamesCharged ∨
        x.terms.limit = .minutes value ∧ charged = x.billing.chargedMinutes) →
      (value ≤ charged →
        (∃ n ∈ (s.limitTests i).notices, n.source = laneSource x.lane ∧ n.payload = .limitReached
          ⟨i, x.lane, x.terms.limit, charged, 0,
            match x.terms.limit with
            | .minutes _ => some x.billing.expiryWait
            | _ => none⟩) ∧
        (x.terms.limit = .games value →
          s.limitTests i = { s with notices := (s.limitTests i).notices }) ∧
        (x.terms.limit = .minutes value →
          x.state = .opened ∧ (s.entry x.lane).movePending = none ∨ x.state = .moving → ∃ y,
          OnPair (pairOf x.lane) ((s.setSession i (some y)).modEntry x.lane fun e =>
            { e with movePending := none }) (s.limitTests i) ∧
          (x.state = .moving →
            let v := s.supervisor x.lane
            let w := (s.limitTests i).supervisor x.lane
            w.followOn = (if v.followOn = .park then .none else v.followOn) ∧
            w.owed = (if v.owed = some .fullThenPark then some .full else v.owed) ∧
            w.deferredNeed =
              (if v.deferredNeed = some .fullThenPark then some .full else v.deferredNeed)) ∧
          y = { x with
            state := y.state, expiryDue := y.expiryDue
            billing := { x.billing with
              state := .stopped, secondsInMinute := 0, expiryCount := y.billing.expiryCount } } ∧
          (frameNotBegun x = true → s.sessionInFlight i x = false → y.expiryDue = false ∧
            (0 < x.billing.expiryWait → y.state = .expired ∧
              y.billing.expiryCount = some (60 * x.billing.expiryWait)) ∧
            (x.billing.expiryWait = 0 → y.state = .closing ∧ y.billing.expiryCount = none)) ∧
          (frameNotBegun x = false ∨ s.sessionInFlight i x = true →
            y.state = .opened ∧ y.expiryDue = true ∧
            y.billing.expiryCount = x.billing.expiryCount))) ∧
      (charged < value → x.billing.warned = false → value - charged ≤ x.terms.warning → ∃ t,
        s.limitTests i = t ∧ t = { s.setSession i (some { x with
          billing := { x.billing with warned := true } }) with notices := t.notices } ∧
        ∃ n ∈ t.notices, n.source = laneSource x.lane ∧ n.payload = .limitWarning
          ⟨i, x.lane, x.terms.limit, charged, value - charged, none⟩) ∧
      (charged < value → x.billing.warned = true ∨ x.terms.warning < value - charged →
        s.limitTests i = s))) ∧
  ∀ (s : State) (tag : Byte) (n value : Nat) (i : SessionId) (x : Session), s.TrunkFree →
    s.device = .run → s.sessionInUse? n = some (i, x) → x.state ≠ .closing →
    let charged := match x.terms.limit with
      | .minutes _ => x.billing.chargedMinutes
      | _ => x.billing.gamesCharged
    (∀ (k : Limit) (old top : Nat),
      (x.terms.limit = .games old ∧ k = .games value ∧ top = 255 ∨
        x.terms.limit = .minutes old ∧ k = .minutes value ∧ top = 1440) →
      (value ≤ old ∨ top < value →
        exec (.extendLimit tag n value) s = .next (s.reply ⟨tag, 41, ⟨.range, .nothing⟩⟩)) ∧
      (old < value → value ≤ top → ∃ (t : State) (y : Session),
        exec (.extendLimit tag n value) s = .next
          (t.reply ⟨tag, 41, ⟨.ok, .limit k (value - charged)⟩⟩) ∧
        t.session i = some y ∧ y.terms = { x.terms with limit := k } ∧
        (∀ j, j ≠ i → t.session j = s.session j) ∧ t.charges = s.charges ∧
        (x.terms.warning < value - charged → y.billing.warned = false) ∧
        (x.state = .exhausted → k = .games value → y.state = .opened) ∧
        (x.billing.state = .stopped → k = .minutes value →
          y = { x with
            state := if x.state = .expired then .opened else x.state
            expiryDue := false
            terms := { x.terms with limit := k }
            billing := { x.billing with
              state := if s.credit x.lane then .crediting else .running
              expiryCount := none, warned := y.billing.warned } } ∧
          OnPair (pairOf x.lane) (s.setSession i (some y)) t ∧
          ∃ n ∈ t.notices, n.source = laneSource x.lane ∧ payloadKind n.payload = .sessionState) ∧
        ((x.state = .exhausted → k ≠ .games value) →
          (x.billing.state = .stopped → k ≠ .minutes value) →
          y = { x with
            terms := { x.terms with limit := k }
            billing := { x.billing with warned := y.billing.warned } } ∧
          t = { s.setSession i (some y) with notices := t.notices })))

/-! ## Machines -/

/-- R82, R98, R100: the requests that begin a sequence, with the pinsetter's slot empty. START_MACHINE
on an OFF, PARKED or HALTED machine (HALTED with its HALT ended, no command awaiting the slot and none
owed), below STOP, begins START and clears the follow-on; the START carries a restart mark with the
resume choice given where the machine was HALTED or PARKED and the lane has a holder. RE_RACK on a READY
machine with no owed cycle, the play state NOT_ARMED or ARMED, no holder facing LEAVE, below HOLD, begins
RE_RACK and leaves the lane NOT_ARMED. Either takes the next cycle number into the slot with the node's
next serial, untried, and awaits the sequence's first step, unacknowledged, with no watch. At STOP, or
at HOLD, they are refused CONDITION; in another machine state BAD_STATE. Nothing else changes but the
equipment of the pair and the notices.

R101, R171: the keystrokes of the lane's console, ALIVE and polled with no command, while no session is
leaving a lane. RE_RACK begins RE_RACK likewise where the holder allows it, the lane is ARMED and the
next ball faces FULL; else RE_RACK_REFUSED tells lane, holder and the first failing reason, and nothing
else changes. CALL_DESK raises CONSOLE_CALL with lane, holder, current slot and handle, and changes
nothing else. -/
def Obligations.StartAndReRackBeginSequences : Prop :=
  ∀ (s : State) (tag : Byte) (n : Nat) (l : LaneId), s.TrunkFree → s.device = .run →
    s.mappedLane? n = some l →
    let v := s.supervisor l
    let begun := fun (t : State) (k : Sequence) (m : MachineState) (e : Expected)
        (mark : Option RestartMark) =>
      OnPair (pairOf l) s t ∧ (t.supervisor l).machine = m ∧ (t.supervisor l).cycle = v.cycle + 1 ∧
      (t.supervisor l).record = some ⟨k, v.cycle + 1, e, false, none, mark⟩ ∧
      (t.pinsetter l).slot =
        some ⟨.cycle k (v.cycle + 1), (s.pinsetter l).nextSerial, none⟩
    (∀ r : Option Resume,
      (v.machine ≠ .off ∧ v.machine ≠ .parked ∧ v.machine ≠ .halted →
        exec (.startMachine tag n r) s = .next (s.reply ⟨tag, 33, ⟨.badState, .nothing⟩⟩)) ∧
      (v.machine = .halted → v.record.isSome = true ∨ v.awaiting.isSome = true ∨
          (s.pinsetter l).owed.isSome = true →
        exec (.startMachine tag n r) s = .next (s.reply ⟨tag, 33, ⟨.busy, .nothing⟩⟩)) ∧
      (v.machine = .off ∨ v.machine = .parked ∨ v.machine = .halted ∧ v.record = none ∧
          v.awaiting = none ∧ (s.pinsetter l).owed = none →
        (s.belowStop l = false → exec (.startMachine tag n r) s =
          .next (s.reply ⟨tag, 33, ⟨.condition, .nothing⟩⟩)) ∧
        (s.belowStop l = true → (s.pinsetter l).slot = none → ∃ t : State,
          exec (.startMachine tag n r) s = .next (t.reply ⟨tag, 33, ⟨.ok, .nothing⟩⟩) ∧
          (t.supervisor l).followOn = .none ∧
          begun t .start .starting (.step .powerUp [.home, .newRack])
            (if v.machine ≠ .off ∧ (s.entry l).holder.isSome then some ⟨r⟩ else none)))) ∧
    (v.machine ≠ .ready ∨ v.owed.isSome = true →
      exec (.reRack tag n) s = .next (s.reply ⟨tag, 35, ⟨.badState, .nothing⟩⟩)) ∧
    (v.machine = .ready → v.owed = none →
      ((s.tracker l).play = .notArmed ∨ (s.tracker l).play = .armed) → s.facesLeave l = false →
      (s.belowHold l = false →
        exec (.reRack tag n) s = .next (s.reply ⟨tag, 35, ⟨.condition, .nothing⟩⟩)) ∧
      (s.belowHold l = true → (s.pinsetter l).slot = none → ∃ t : State,
        exec (.reRack tag n) s = .next (t.reply ⟨tag, 35, ⟨.ok, .nothing⟩⟩) ∧
        (t.tracker l).play = .notArmed ∧
        begun t .reRack .cycling (.step .sweep [.newRack, .home]) none)) ∧
    (∀ d : Nat, let p := pairOf l; let a := consoleAddr (sideOf l)
      (s.poller p).poll = some ⟨a, none, d, false⟩ → (s.node p a).state = .alive →
      (s.entry l).enabled = true → (s.entry l).hasConsole = true → s.NoneLeaving →
      let key := fun b : Byte =>
        let covered := [BitVec.ofNat 8 (a.val + 1), 2#8, 0#8, 1#8, b]
        exec (.answerReceived p ([0x5A#8] ++ covered ++ bytes2 (crc16 covered).toNat)) s
      let told := fun (b : Byte) (shows : NoticePayload → Prop) => ∃ t : State,
        key b = .next (t.nextPoll p).settleTrunk ∧
        t = { s.modNode p a fun n => { n with misses := 0 } with notices := t.notices } ∧
        ∃ n ∈ t.notices, n.source = laneSource l ∧ shows n.payload
      let refused := fun r : ReRackReason => told 1 (· = .reRackRefused l (s.entry l).holder r)
      let held := fun x : Session => ∃ i, (s.entry l).holder = some i ∧ s.session i = some x
      (¬ (∃ x, held x ∧ x.terms.reRackAllowed = true) → refused .notAllowed) ∧
      (∀ x, held x → x.terms.reRackAllowed = true →
        ((s.tracker l).play ≠ .armed → refused .notArmed) ∧
        ((s.tracker l).play = .armed → x.nextBall.faced = .leave → refused .facesLeave) ∧
        ((s.tracker l).play = .armed → x.nextBall.faced = .full → (s.pinsetter l).slot = none →
          ∃ t : State, key 1 = .next (t.nextPoll p).settleTrunk ∧
            (t.tracker l).play = .notArmed ∧
            begun t .reRack .cycling (.step .sweep [.newRack, .home]) none)) ∧
      told 2 (fun payload => ∃ c, payload = .consoleCall c ∧ c.lane = l ∧
        c.holder = (s.entry l).holder ∧
        ((s.entry l).holder = none → c.slot = none ∧ c.handle = none) ∧
        (∀ x, held x → c.slot = x.slot ∧
          ∀ k b, x.slot = some k → bowlerAt x k = some b → c.handle = some b.handle)))

/-- R99, R94, R95, R93, R87: STOP_MACHINE of a STARTING, READY or CYCLING machine (PARK: or HALTED), with the
pinsetter not LOST and no command owed to it, while no session is leaving a lane. Where the slot is
empty or holds a CYCLE, the HALT or PARK is placed: a new sequence with the next cycle number, the one
in progress superseded, the owed cycle gone, the machine HALTED or PARKING. Where the HALT of a HALTED
machine is still in the slot, the PARK awaits it and the machine stays HALTED. Any other machine state
is refused BAD_STATE. Nothing else changes but the equipment of the pair and the notices, where the
sequence superseded holds no ball result back. One that it holds back is applied with its end (here: a
plain first ball), and a RESOLVED tracker becomes NOT_ARMED. (That the result meets the HALTED or PARKING
machine is log entry 18.) -/
def Obligations.StopMachineSupersedes : Prop :=
  ∀ (s : State) (tag : Byte) (n : Nat) (kind : StopKind) (l : LaneId), s.TrunkFree →
    s.device = .run → s.mappedLane? n = some l → s.NoneLeaving →
    let v := s.supervisor l
    let running := v.machine = .starting ∨ v.machine = .ready ∨ v.machine = .cycling
    let placed := fun t : State =>
      (t.supervisor l).cycle = v.cycle + 1 ∧ (t.supervisor l).owed = none ∧
      (∀ r, v.record = some r → (t.supervisor l).superseded = some r.number) ∧
      (kind = .halt →
        (t.supervisor l).machine = .halted ∧
        (t.supervisor l).record = some ⟨.halt, v.cycle + 1, .step .halt [], false, none, none⟩ ∧
        (t.pinsetter l).slot = some ⟨.halt (v.cycle + 1), (s.pinsetter l).nextSerial, none⟩) ∧
      (kind = .park →
        (t.supervisor l).machine = .parking ∧
        (t.supervisor l).record = some ⟨.park, v.cycle + 1,
          .step .halt [.guardDown, .deckUp, .powerDown], false, none, none⟩ ∧
        (t.pinsetter l).slot = some ⟨.park (v.cycle + 1), (s.pinsetter l).nextSerial, none⟩)
    (¬ running → ¬ (v.machine = .halted ∧ kind = .park) →
      exec (.stopMachine tag n kind) s = .next (s.reply ⟨tag, 34, ⟨.badState, .nothing⟩⟩)) ∧
    (running ∨ v.machine = .halted ∧ kind = .park → (s.pinsetter l).state ≠ .lost →
      (s.pinsetter l).owed = none →
      ((s.pinsetter l).slot = none ∨
        (∃ k m q u, (s.pinsetter l).slot = some ⟨.cycle k m, q, u⟩) →
        (v.record = none ∨ s.NothingHeld l → ∃ t : State,
          exec (.stopMachine tag n kind) s = .next (t.reply ⟨tag, 34, ⟨.ok, .nothing⟩⟩) ∧
          OnPair (pairOf l) s t ∧ placed t) ∧
        (∀ (i : SessionId) (x : Session) (r : BallResult) (k f : Nat) (b : Bowler),
          v.record.isSome = true → (s.entry l).holder = some i → s.session i = some x →
          x.held = some r → PlainFirstBall x r k f b → ¬ ChargeDue x f b → ∃ t : State,
          exec (.stopMachine tag n kind) s = .next (t.reply ⟨tag, 34, ⟨.ok, .nothing⟩⟩) ∧
          OnPair (pairOf l) (s.setSession i (some (afterFirstBall x r k f b))) t ∧ placed t ∧
          ((s.tracker l).play = .resolved → (t.tracker l).play = .notArmed))) ∧
      (∀ m q u, (s.pinsetter l).slot = some ⟨.halt m, q, u⟩ → v.machine = .halted →
        v.record.isSome = true → ∃ t : State,
        exec (.stopMachine tag n kind) s = .next (t.reply ⟨tag, 34, ⟨.ok, .nothing⟩⟩) ∧
        OnPair (pairOf l) s t ∧ (t.supervisor l).awaiting = some .park ∧
        (t.supervisor l).machine = .halted ∧ (t.supervisor l).record = v.record ∧
        (t.pinsetter l).slot = (s.pinsetter l).slot))

/-- R102 to R104: manual mode. ENTER_MANUAL of a CLOSED lane that is no move target, with its machine
OFF, PARKED or READY and no command awaiting the slot, makes lane and machine MANUAL, the owed cycle,
the follow-on and the superseded number absent, and keeps the cycle number. LEAVE_MANUAL of a MANUAL
lane makes the lane CLOSED and the machine OFF, and drops a manual body still in the slot.
MANUAL_COMMAND with a body of 1 to 32 bytes for a MANUAL lane whose pinsetter is ALIVE places the body
in its empty slot, and changes nothing else; with the slot full it is refused BUSY. Nothing else
changes but the equipment of the pair and the notices. -/
def Obligations.ManualModeRequests : Prop :=
  ∀ (s : State) (tag : Byte) (n : Nat) (l : LaneId), s.TrunkFree → s.device = .run →
    s.mappedLane? n = some l →
    ((s.entry l).state = .closed → s.isMoveTarget l = false →
      ((s.supervisor l).machine = .off ∨ (s.supervisor l).machine = .parked ∨
        (s.supervisor l).machine = .ready) → (s.supervisor l).awaiting = none →
      ∃ t : State, exec (.enterManual tag n) s = .next (t.reply ⟨tag, 36, ⟨.ok, .nothing⟩⟩) ∧
        OnPair (pairOf l) (s.modEntry l fun e => { e with state := .manual }) t ∧
        t.supervisor l = { s.supervisor l with
          machine := .manual, owed := none, followOn := .none, superseded := none
          deferredNeed := none }) ∧
    ((s.entry l).state ≠ .closed →
      exec (.enterManual tag n) s = .next (s.reply ⟨tag, 36, ⟨.badState, .nothing⟩⟩)) ∧
    ((s.entry l).state = .manual →
      ∃ t : State, exec (.leaveManual tag n) s = .next (t.reply ⟨tag, 37, ⟨.ok, .nothing⟩⟩) ∧
        OnPair (pairOf l) (s.modEntry l fun e => { e with state := .closed }) t ∧
        t.supervisor l = { s.supervisor l with machine := .off } ∧
        (∀ b q u, (s.pinsetter l).slot = some ⟨.manual b, q, u⟩ → (t.pinsetter l).slot = none)) ∧
    ((s.entry l).state ≠ .manual →
      exec (.leaveManual tag n) s = .next (s.reply ⟨tag, 37, ⟨.badState, .nothing⟩⟩)) ∧
    (∀ body : List Byte, 1 ≤ body.length → body.length ≤ 32 → (s.entry l).state = .manual →
      (s.pinsetter l).state = .alive →
      ((s.pinsetter l).slot = none →
        exec (.manualCommand tag n body) s = .next
          (State.reply
            (s.modNode (pairOf l) (pinsetterAddr (sideOf l)) fun x =>
              { x with slot := some ⟨.manual body, x.nextSerial, none⟩
                       nextSerial := x.nextSerial + 1 })
            ⟨tag, 38, ⟨.ok, .nothing⟩⟩)) ∧
      ((s.pinsetter l).slot.isSome = true →
        exec (.manualCommand tag n body) s = .next (s.reply ⟨tag, 38, ⟨.busy, .nothing⟩⟩)))

/-! ## Balls -/

/-- R58, R27 to R31, R33, R36: ENTER_BALL for the holder of a lane in AWAITING_ENTRY, not CLOSING, with
pin numbers 1 to 10, while no session is leaving a lane. READING_OVERDUE leaves the lane's set, and the
response names the entered pins that were not standing before. While a sequence is in progress the
result is held: the entered set within the standing set, the ball's foul flag, source ENTERED and the
expected stamp. Otherwise it is applied: a plain first ball of a frame 1 to 9 (`PlainFirstBall`) is
recorded with its pinfall, and the frame goes on with ball 2 on the leave (`afterFirstBall`); the lane is
NOT_ARMED, and a READY machine with an empty slot and no other action in force begins FIRST_CYCLE. Where
the ball makes a game charge (R44, R155; here: no commit pending, no limit, room in the list) a GAME line
at the price in force is appended, and the lane's charged total (saturated from its top on, log entry
33) and the games charged take it. Every other field of the session stands but the billing state, which
follows the lane's credit; nothing else changes but the equipment of the pair and the notices. -/
def Obligations.EnterBallHoldsOrScores : Prop :=
  ∀ (s : State) (tag : Byte) (n m : Nat) (pins : List Nat) (l : LaneId) (i : SessionId)
    (x : Session), s.TrunkFree → s.device = .run → s.mappedLane? n = some l →
    s.sessionInUse? m = some (i, x) → (s.entry l).holder = some i → x.state ≠ .closing →
    (s.tracker l).play = .awaitingEntry → (∀ q ∈ pins, 1 ≤ q ∧ q ≤ 10) → s.NoneLeaving →
    (s.supervisor l).owed = none →
    let foul := ((s.tracker l).ball.map (·.foul)).getD false
    let stamp : Stamp := (s.tracker l).pitCount.truncate 6
    let kept := (s.lane l).faults.filter fun f => f.cls != .readingOverdue
    let result : BallResult := ⟨pinSetOf pins &&& x.nextBall.before, foul, .entered, stamp⟩
    ∃ (t : State) (gone : List Nat),
      exec (.enterBall tag n m pins) s = .next (t.reply ⟨tag, 39, ⟨.ok, .droppedPins gone⟩⟩) ∧
      (∀ q, q ∈ gone ↔ q ∈ pins ∧ hasPin x.nextBall.before q = false) ∧
      ((s.supervisor l).record.isSome = true → ∃ y : Session,
        OnPair (pairOf l) ((s.setSession i (some y)).setLaneFaults l kept) t ∧
        SameButBillingState { x with held := some result } y ∧
        (t.tracker l).play = .resolved) ∧
      (∀ (k f : Nat) (b : Bowler), (s.supervisor l).record = none →
        PlainFirstBall x result k f b → x.state ≠ .exhausted →
        (s.supervisor l).deferredNeed = none → (s.pinsetter l).slot = none →
        (ChargeDue x f b → s.tariff.pending = none → x.terms.limit = .none →
          s.charges.lines.length < 255 →
          let c := s.clock.calendar
          let g := lookupIn s.tariff x.terms.tariffClass c
          ∃ y : Session,
          SameButBillingState { afterFirstBall x result k f b with billing :=
            { x.billing with gamesCharged := min 65535 (x.billing.gamesCharged + 1) } } y ∧
          OnPair (pairOf l)
            (State.modMeter
              { (s.setSession i (some y)).setLaneFaults l kept with charges :=
                { s.charges with lines := s.charges.lines ++ [⟨l, i, .game, g.reference, g.version, 1,
                  g.gamePrice, c, some (k, b.game.number)⟩] } }
              l fun m =>
                { m with
                  chargedTotal := min 4294967295 (m.chargedTotal + g.gamePrice)
                  saturated := m.saturated || decide (4294967295 ≤ m.chargedTotal + g.gamePrice) })
            t) ∧
        (¬ ChargeDue x f b → ∃ y : Session,
        OnPair (pairOf l) ((s.setSession i (some y)).setLaneFaults l kept) t ∧
        SameButBillingState (afterFirstBall x result k f b) y ∧
        (t.tracker l).play = .notArmed ∧
        ((s.supervisor l).machine = .ready →
          (∀ e ∈ s.faultsOn l, e.cls ≠ .readingOverdue → e.action = .none) →
          (∀ e ∈ (s.pair (pairOf l)).faults, e.action = .none) →
          (t.supervisor l).machine = .cycling ∧
          (t.supervisor l).record = some ⟨.firstCycle, (s.supervisor l).cycle + 1,
            .step .deckDown [.lift, .sweep, .respot, .home], false, none, none⟩)))

/-- R54 to R56: CORRECT_BALL of a recorded ball of a bowler's current game, not WITHDRAWN, with a
pinfall of 0 to 10. Where the structural check holds, the ball takes the pinfall and its corrected
flag; its sets, faced value, foul, split, source and stamp stay, as do the other balls of the game and
the other bowlers. Every complete frame, the earlier ones whose bonus takes the ball among them, is
scored by R34 from the corrected balls, and the running totals are filled forward by R35. A COMPLETE game
corrects its newest totals entry. Where the next-ball record faces LEAVE in this frame, its expected
standing count is computed afresh. Only the session and the notices change. Where one of the four
conditions of the check fails (`CorrectionFits`), the request is refused STRUCTURE and changes nothing; a
pinfall, frame or ball outside its range is refused RANGE. -/
def Obligations.CorrectBallReplacesPinfall : Prop :=
  ∀ (s : State) (tag : Byte) (n slot game frame index pinfall : Nat) (i : SessionId) (x : Session),
    s.TrunkFree → s.device = .run → s.sessionInUse? n = some (i, x) →
    (10 < pinfall ∨ frame < 1 ∨ 10 < frame ∨ index < 1 ∨ 3 < index →
      exec (.correctBall tag n slot game frame index pinfall) s =
        .next (s.reply ⟨tag, 40, ⟨.range, .nothing⟩⟩)) ∧
    (∀ (b : Bowler) (f : Frame) (ball : Ball), pinfall ≤ 10 → 1 ≤ frame → frame ≤ 10 →
      1 ≤ index → index ≤ 3 → bowlerAt x slot = some b → nth1 b.game.frames frame = some f →
      nth1 f.balls index = some ball → b.game.number = game → b.game.status ≠ .withdrawn →
      let corrected := f.balls.set (index - 1) { ball with pinfall := pinfall, corrected := true }
      (¬ CorrectionFits x slot frame f corrected →
        exec (.correctBall tag n slot game frame index pinfall) s =
          .next (s.reply ⟨tag, 40, ⟨.structureFails, .nothing⟩⟩)) ∧
      (CorrectionFits x slot frame f corrected →
        ∃ (t : State) (y : Session) (c : Bowler) (g : Frame),
          exec (.correctBall tag n slot game frame index pinfall) s = .next
            (t.reply ⟨tag, 40, ⟨.ok, .corrected g.status g.score (latestRunning c.game)⟩⟩) ∧
          t = { s.setSession i (some y) with notices := t.notices } ∧
          bowlerAt y slot = some c ∧ nth1 c.game.frames frame = some g ∧
          g.balls = corrected ∧
          c = { b with game := { b.game with frames := c.game.frames }, totals := c.totals } ∧
          (∀ m h, nth1 c.game.frames m = some h →
            (m ≠ frame → ∃ o, nth1 b.game.frames m = some o ∧ h.balls = o.balls) ∧
            (h.status = .scored ∨ h.status = .awaitingBonus →
              FrameScored m h ((c.game.frames.drop m).flatMap (·.balls))) ∧
            h.running = if (c.game.frames.take m).all (fun x => x.status == .scored) then
              some ((c.game.frames.take m).map fun x => x.score.getD 0).sum else none) ∧
          (b.game.status ≠ .complete → c.totals = b.totals) ∧
          (∀ init e, b.game.status = .complete → b.totals = init ++ [e] → c.totals = init ++
            [{ e with
              scratch := (latestRunning c.game).getD 0
              total := (latestRunning c.game).getD 0 + b.game.handicap }]) ∧
          (∀ k, k ≠ slot → bowlerAt y k = bowlerAt x k) ∧
          y = { x with bowlers := y.bowlers, nextBall := y.nextBall } ∧
          (x.nextBall.slot = slot ∧ x.nextBall.frame = frame ∧ x.nextBall.faced = .leave →
            y.nextBall = { x.nextBall with expected := some (expectedStanding g.balls) }) ∧
          (¬ (x.nextBall.slot = slot ∧ x.nextBall.frame = frame ∧ x.nextBall.faced = .leave) →
            y.nextBall = x.nextBall) ∧
          (∀ b1 b2, frame ≤ 9 → g.balls = [b1, b2] → b1.pinfall + b2.pinfall < 10 →
            (f.status = .scored ∨ f.status = .awaitingBonus) →
            g.status = .scored ∧ g.score = some (b1.pinfall + b2.pinfall))))

/-- R80: RESYNC_READER for a lane whose reader is ALIVE. In SETTLING or READING, with a READ in the
reader's slot, or with the resync state SENT, it is refused BUSY and changes nothing. Otherwise, with
the slot empty, a SET_COUNT with the pit count modulo 64 is placed with the node's next serial,
untried, and the resync state becomes SENT; nothing else changes. Behind a SET_COUNT that a device reset
kept in the slot (R163) the state becomes SENT, and the new one waits for the slot (R168).

R169: the reader's ACK of the SET_COUNT its poll carried empties the slot and makes the resync state
DONE; one that waits is then placed with the pit count of that moment, and the state is SENT again. (A
READ is not waiting, and no session is leaving a lane.) What a SET_COUNT that waits does is log entry
50. -/
def Obligations.ResyncReaderPlacesSetCount : Prop :=
  ∀ (s : State) (tag : Byte) (n : Nat) (l : LaneId), s.TrunkFree → s.device = .run →
    s.mappedLane? n = some l → (s.reader l).state = .alive →
    ((s.tracker l).play = .settling ∨ (s.tracker l).play = .reading ∨
        (s.tracker l).resync = .sent ∨ (∃ c q u, (s.reader l).slot = some ⟨.read c, q, u⟩) →
      exec (.resyncReader tag n) s = .next (s.reply ⟨tag, 42, ⟨.busy, .nothing⟩⟩)) ∧
    ((s.tracker l).play ≠ .settling → (s.tracker l).play ≠ .reading →
      (s.tracker l).resync ≠ .sent → (s.reader l).slot = none →
      exec (.resyncReader tag n) s = .next
        (State.reply
          ((s.modNode (pairOf l) (readerAddr (sideOf l)) fun x =>
            { x with
              slot := some ⟨.setCount (BitVec.ofNat 6 ((s.tracker l).pitCount.toNat % 64)),
                x.nextSerial, none⟩
              nextSerial := x.nextSerial + 1 }).modTracker l fun k => { k with resync := .sent })
          ⟨tag, 42, ⟨.ok, .nothing⟩⟩)) ∧
    (∀ c q u, (s.tracker l).play ≠ .settling → (s.tracker l).play ≠ .reading →
      (s.tracker l).resync ≠ .sent → (s.reader l).slot = some ⟨.setCount c, q, u⟩ →
      exec (.resyncReader tag n) s = .next
        (State.reply (s.modTracker l fun k => { k with resync := .sent, countWaiting := true })
          ⟨tag, 42, ⟨.ok, .nothing⟩⟩)) ∧
    (∀ c q u d, let p := pairOf l; let a := readerAddr (sideOf l)
      (s.reader l).slot = some ⟨.setCount c, q, u⟩ → u.isSome = true → s.NoneLeaving →
      (s.poller p).poll = some ⟨a, some (.setCount c, q), d, false⟩ →
      (s.tracker l).readWaiting = false →
      let covered := [BitVec.ofNat 8 (a.val + 1), 2#8, BitVec.ofNat 8 (16 + q.toNat), 0#8]
      let run :=
        exec (.answerReceived p ([0x5A#8] ++ covered ++ bytes2 (crc16 covered).toNat)) s
      ((s.tracker l).countWaiting = false → run = .next ((((s.modNode p a fun n =>
        { n with misses := 0, slot := none }).modTracker l fun k =>
          { k with resync := .done }).nextPoll p).settleTrunk)) ∧
      ((s.tracker l).countWaiting = true → run = .next ((((s.modNode p a fun n =>
        { n with
          misses := 0, nextSerial := n.nextSerial + 1
          slot := some ⟨.setCount (BitVec.ofNat 6 ((s.tracker l).pitCount.toNat % 64)),
            n.nextSerial, none⟩ }).modTracker l fun k =>
          { k with resync := .sent, countWaiting := false }).nextPoll p).settleTrunk)))

/-! ## Faults -/

/-- R117, R118, R114, R116, R120: CLEAR_FAULT of one class, which stands once on the lane, in the
lane's own set, while no session is leaving a lane. An entry that is neither latched nor of a desk-
cleared class with its condition ended is kept, and the answer is CONDITION with the lists. One that
may go is removed on a CLOSED lane without holder: the answer is OK with the lists and no restart;
the rest of the set, and everything but the equipment of the pair, stands, and FAULT_CLEARED is
pending. PARK_FAILED goes with the service done flag, and an OUT_OF_SERVICE machine becomes PARKED.
On an OPEN lane with an OPEN holder, the machine HALTED with its HALT ended, nothing awaiting or owed,
no owed cycle and the slot empty, and every other action below STOP, the removal is followed by START
with the restart mark. A class not on the lane is refused NOT_FOUND. -/
def Obligations.ClearFaultRemovesEntry : Prop :=
  ∀ (s : State) (tag : Byte) (n code : Nat) (c : FaultClass) (l : LaneId), s.TrunkFree →
    s.device = .run → s.mappedLane? n = some l → faultClassOf? code = some c → s.NoneLeaving →
    let kept := (s.lane l).faults.filter fun f => f.cls != c
    ((∀ f ∈ s.faultsOn l, f.cls ≠ c) →
      exec (.clearFault tag n code false none) s =
        .next (s.reply ⟨tag, 43, ⟨.notFound, .nothing⟩⟩)) ∧
    (∀ f : FaultEntry, (s.lane l).faults.filter (fun e => e.cls == c) = [f] →
      (∀ e ∈ (s.pair (pairOf l)).faults, e.cls ≠ c) →
      (f.latched = false → (selfClearing c = true ∨ f.present = true ∨ c = .readingOverdue ∨
          c = .parkFailed) →
        exec (.clearFault tag n code false none) s = .next
          (s.reply ⟨tag, 43, ⟨.condition, .cleared [] ((s.faultsOn l).map (·.cls))
            (s.effective l) (s.credit l) .none⟩⟩)) ∧
      (c ≠ .parkFailed → c ≠ .returnJam →
        f.latched = true ∨ selfClearing c = false ∧ f.present = false ∧ c ≠ .readingOverdue →
        ((s.entry l).state = .closed → (s.entry l).holder = none → ∃ t : State,
          exec (.clearFault tag n code false none) s = .next
            (t.reply ⟨tag, 43, ⟨.ok, .cleared [c] ((t.faultsOn l).map (·.cls))
              (t.effective l) (t.credit l) .none⟩⟩) ∧
          OnPair (pairOf l) (s.setLaneFaults l kept) t ∧
          (t.lane l).faults.map (·.cls) = kept.map (·.cls) ∧
          ∃ x ∈ t.notices, x.source = laneSource l ∧ payloadKind x.payload = .faultCleared) ∧
        (∀ (i : SessionId) (x : Session) (r : Option Nat) (choice : Option Resume),
          (s.entry l).state = .opened → (s.entry l).holder = some i → s.session i = some x →
          x.state = .opened → (s.supervisor l).machine = .halted →
          (s.supervisor l).record = none → (s.supervisor l).awaiting = none →
          (s.supervisor l).owed = none → (s.pinsetter l).owed = none →
          (s.pinsetter l).slot = none →
          (∀ e ∈ s.faultsOn l, e.cls ≠ c → severity e.action < severity .stop) →
          (r = none ∧ choice = none ∨ r = some 0 ∧ choice = some .clamp ∨
            r = some 1 ∧ choice = some .replay) →
          ∃ t : State,
            exec (.clearFault tag n code false r) s = .next
              (t.reply ⟨tag, 43, ⟨.ok, .cleared [c] ((t.faultsOn l).map (·.cls))
                (t.effective l) (t.credit l) .begun⟩⟩) ∧
            (t.lane l).faults.map (·.cls) = kept.map (·.cls) ∧
            (t.supervisor l).machine = .starting ∧
            (t.supervisor l).record = some ⟨.start, (s.supervisor l).cycle + 1,
              .step .powerUp [.home, .newRack], false, none, some ⟨choice⟩⟩)) ∧
      (c = .parkFailed → (s.entry l).state = .closed → (s.entry l).holder = none →
        (s.supervisor l).machine = .outOfService → ∃ t : State,
        exec (.clearFault tag n code true none) s = .next
          (t.reply ⟨tag, 43, ⟨.ok, .cleared [c] ((t.faultsOn l).map (·.cls))
            (t.effective l) (t.credit l) .none⟩⟩) ∧
        OnPair (pairOf l) (s.setLaneFaults l kept) t ∧ (t.supervisor l).machine = .parked))

/-! ## Pair links -/

/-- R165, R169, R170, R84, R85, R87, R109, R113: an answer from a pinsetter that is ALIVE with nothing
owed, for a lane of the map that is not MANUAL, while no session is leaving a lane. The frame is
delimiter 5A, address, kind 2, command result, item count, items and the CRC. With no item, no command
carried and no watch running it ends the poll: the misses become 0 and the next poll is sent. A STEP_DONE
with the record's number and its expected step makes the next step expected and starts its watch, which
ends a STEP_OVERDUE or START_FAILED condition, or awaits SEQUENCE_DONE after the last. The expected
SEQUENCE_DONE (with no result held, nothing owed or deferred, no follow-on) ends the sequence: READY,
HALTED or PARKED. (Log entry 30: the superseded number goes whichever sequence ends.) A JAM raises
MACHINE_JAM as a new entry with the table's action. NONE and HOLD leave the machine as it is. R94, R95,
R111: a rise to STOP or PARK of a STARTING, READY or CYCLING machine places a HALT or PARK at once (slot
empty or with a CYCLE, nothing awaiting it): a sequence with the next number supersedes the one in
progress, the owed cycle goes (FULL-then-park leaves a follow-on of PARK), and so does a START set by
CLEAR_FAULT; a plain first ball that the superseded sequence held is applied (log entry 18). An ACK
of the command carried empties the slot, and acknowledges the record, whose first watch starts. A CHECK_ERROR below three tries leaves the command in
the slot.

R76, R77: an answer of the lane's ALIVE reader with a reading. Outside READING it counts as late. In
READING the retry timer stops; unsettled, stale (one stamp behind) and skewed readings start it afresh,
the latter two counted, the last told by READING_ANOMALY. A settled reading of the expected stamp
resolves the ball: the pins that stood before, the ball's foul flag, its quality. A pin returned or a
poor quality is counted and told. While a sequence runs the result is held; a plain first ball is applied
at rest. -/
def Obligations.AnswerEndsPollAndIsTaken : Prop :=
  ∀ (s : State) (l : LaneId) (d : Nat), s.NoneLeaving → (s.entry l).enabled = true →
    let p := pairOf l
    let a := pinsetterAddr (sideOf l)
    let v := s.supervisor l
    let frame := fun (from_ : NodeAddr) (result count : Nat) (items : List Byte) =>
      let covered := [BitVec.ofNat 8 (from_.val + 1), 2#8, BitVec.ofNat 8 result,
        BitVec.ofNat 8 count] ++ items
      Instr.answerReceived p ([0x5A#8] ++ covered ++ bytes2 (crc16 covered).toNat)
    let answer := fun items : List Byte => frame a 0 (items.length / 2) items
    let u := s.modNode p a fun n => { n with misses := 0 }
    let watched := fun fs : List FaultEntry => fs.map fun f =>
      if f.cls = .stepOverdue ∨ f.cls = .startFailed then { f with present := false } else f
    ((s.node p a).state = .alive → (s.node p a).owed = none → v.machine ≠ .manual →
      ProfileOk (s.profileOf l) →
    (∀ (c : Command) (q : Serial) (tries : Option Nat),
      (s.poller p).poll = some ⟨a, some (c, q), d, false⟩ →
      (s.node p a).slot = some ⟨c, q, tries⟩ →
      (∀ (k : Sequence) (m : CycleNo) (st : Step) (later : List Step) (mark : Option RestartMark),
        tries.isSome = true →
        v.record = some ⟨k, m, .step st later, false, none, mark⟩ → v.awaiting = none →
        (k = .halt ∧ c = .halt m ∨ k = .park ∧ c = .park m ∨
          k ≠ .halt ∧ k ≠ .park ∧ c = .cycle k m) →
        exec (frame a (16 + q.toNat) 0 []) s = .next ((((s.modNode p a fun n =>
          { n with misses := 0, slot := none }).modSupervisor l fun v => { v with
            record := some ⟨k, m, .step st later, true,
              some (s.deviceTime + stepTime (s.profileOf l) st), mark⟩ }).nextPoll
            p).settleTrunk)) ∧
      (tries.getD 0 < 3 → v.record.bind (·.watch) = none →
        exec (frame a (32 + q.toNat) 0 []) s = .next (u.nextPoll p).settleTrunk)) ∧
    ((s.poller p).poll = some ⟨a, none, d, false⟩ →
    (v.record.bind (·.watch) = none → exec (answer []) s = .next (u.nextPoll p).settleTrunk) ∧
    (∀ (k : Sequence) (m : CycleNo) (st : Step) (later : List Step) (w : Option Nat)
      (mark : Option RestartMark), v.record = some ⟨k, m, .step st later, true, w, mark⟩ →
      v.superseded ≠ some m → v.awaiting = none → (∀ e, w = some e → s.deviceTime < e) →
      exec (answer [1#8, BitVec.ofNat 8 (m.toNat * 16 + stepCode st)]) s = .next
        ((((u.modSupervisor l fun v => { v with
          record := some
            { kind := k, number := m, acknowledged := true, restart := mark
              expected := (match later with
                | [] => .sequenceDone
                | next :: rest => .step next rest)
              watch := (match later with
                | [] => w
                | next :: _ => some (s.deviceTime + stepTime (s.profileOf l) next)) }
            }).setLaneFaults l (match later with
              | [] => (s.lane l).faults
              | _ :: _ => watched (s.lane l).faults)).nextPoll p).settleTrunk)) ∧
    (∀ (k : Sequence) (m : CycleNo) (w : Option Nat),
      v.record = some ⟨k, m, .sequenceDone, true, w, none⟩ → v.superseded ≠ some m →
      v.awaiting = none → v.owed = none → v.followOn = .none → v.deferredNeed = none →
      (∀ i x, (s.entry l).holder = some i → s.session i = some x → x.held = none) → ∃ t : State,
      exec (answer [2#8, BitVec.ofNat 8 (m.toNat * 16)]) s = .next (t.nextPoll p).settleTrunk ∧
      OnPair p s t ∧
      t.supervisor l = { v with
        machine := (match k with
          | .halt => .halted
          | .park => .parked
          | _ => .ready)
        record := none, superseded := none } ∧
      (t.lane l).faults = watched (s.lane l).faults ∧
      ∃ x ∈ t.notices, x.source = laneSource l ∧ payloadKind x.payload = .machineState) ∧
    (v.record.bind (·.watch) = none → (∀ f ∈ (s.lane l).faults, f.cls ≠ .machineJam) →
      (s.faultTable[faultIndex .machineJam].action = .none ∨
        s.faultTable[faultIndex .machineJam].action = .hold) →
      ∃ t : State, exec (answer [3#8, 0#8]) s = .next (t.nextPoll p).settleTrunk ∧
        (t.lane l).faults = (s.lane l).faults ++
          [⟨.machineJam, s.faultTable[faultIndex .machineJam].action,
            s.faultTable[faultIndex .machineJam].credit, false, false, 1, s.deviceTime,
            s.deviceTime⟩] ∧
        t.supervisor l = v ∧ t.charges = s.charges ∧
        (∀ i x, s.session i = some x → ∃ b,
          t.session i = some { x with billing := { x.billing with state := b } }) ∧
        ∃ x ∈ t.notices, x.source = laneSource l ∧ payloadKind x.payload = .faultRaised) ∧
    (∀ kind : StopKind, v.record.bind (·.watch) = none →
      (∀ f ∈ (s.lane l).faults, f.cls ≠ .machineJam) →
      let act := s.faultTable[faultIndex .machineJam]
      act.action = (match kind with
        | .halt => .stop
        | .park => .park) → s.belowStop l = true →
      (v.machine = .starting ∨ v.machine = .ready ∨ v.machine = .cycling) → v.awaiting = none →
      ((s.node p a).slot = none ∨ ∃ k m q w, (s.node p a).slot = some ⟨.cycle k m, q, w⟩) →
      let run := exec (answer [3#8, 0#8]) s
      let stopped := fun t : State => run = .next (t.nextPoll p).settleTrunk ∧
        t.effective l = act.action ∧
        (t.lane l).faults = (if v.record.isSome then watched (s.lane l).faults
            else (s.lane l).faults) ++
          [⟨.machineJam, act.action, act.credit, false, false, 1, s.deviceTime, s.deviceTime⟩] ∧
        t.supervisor l = { v with
          machine := (match kind with
            | .halt => .halted
            | .park => .parking)
          cycle := v.cycle + 1
          record := some (match kind with
            | .halt => ⟨.halt, v.cycle + 1, .step .halt [], false, none, none⟩
            | .park => ⟨.park, v.cycle + 1, .step .halt [.guardDown, .deckUp, .powerDown], false,
                none, none⟩)
          superseded := (match v.record with
            | none => v.superseded
            | some r => some r.number)
          owed := none
          followOn :=
            if v.owed = some .fullThenPark then .park
            else match v.followOn with
              | .restart _ => .none
              | f => f } ∧
        (t.node p a).slot = some ⟨(match kind with
          | .halt => .halt (v.cycle + 1)
          | .park => .park (v.cycle + 1)), (s.node p a).nextSerial, none⟩ ∧
        t.charges = s.charges ∧
        ∀ c, c = .faultRaised ∨ c = .machineState →
          ∃ x ∈ t.notices, x.source = laneSource l ∧ payloadKind x.payload = c
      (v.record = none ∨ v.deferredNeed = none ∧ s.NothingHeld l → ∃ t : State, stopped t ∧
        ∀ i x, s.session i = some x → ∃ y, t.session i = some y ∧ SameButBillingState x y) ∧
      (∀ (i : SessionId) (x : Session) (r : BallResult) (k f : Nat) (b : Bowler),
        v.record.isSome = true → v.deferredNeed = none → (s.entry l).holder = some i →
        s.session i = some x → x.held = some r → PlainFirstBall x r k f b → ¬ ChargeDue x f b →
        x.state ≠ .exhausted → ∃ t : State, stopped t ∧
        (∃ y, t.session i = some y ∧ SameButBillingState (afterFirstBall x r k f b) y) ∧
        (∀ j z, j ≠ i → s.session j = some z →
          ∃ y, t.session j = some y ∧ SameButBillingState z y) ∧
        ((s.tracker l).play = .resolved → (t.tracker l).play = .notArmed))))) ∧
    (∀ (stamp : Stamp) (settled poor : Bool) (standing : PinSet) (reserved : Byte),
      let b := readerAddr (sideOf l)
      (s.poller p).poll = some ⟨b, none, d, false⟩ → (s.node p b).state = .alive →
      let k := s.tracker l
      let expected : Stamp := BitVec.ofNat 6 (k.pitCount.toNat % 64)
      let retry := some (s.deviceTime + (s.profileOf l).retry)
      let run := exec (frame b 0 1 [
        BitVec.ofNat 8 (stamp.toNat + (if settled then 64 else 0) + (if poor then 128 else 0)),
        BitVec.ofNat 8 (standing.toNat / 256), BitVec.ofNat 8 standing.toNat, reserved]) s
      let taken := fun f : Tracker → Tracker =>
        (s.modNode p b fun n => { n with misses := 0 }).modTracker l f
      let resolved := fun f : Tracker → Tracker => taken fun k => { f k with
        play := .resolved, retryTimer := none, deadlineTimer := none, readWaiting := false }
      (k.play ≠ .reading → run = .next (((taken fun k =>
        { k with lateReadings := min 65535 (k.lateReadings + 1) }).nextPoll p).settleTrunk)) ∧
      (k.play = .reading → stamp = expected → settled = false →
        run = .next (((taken fun k => { k with retryTimer := retry }).nextPoll p).settleTrunk)) ∧
      (k.play = .reading → stamp = expected - 1 → run = .next (((taken fun k => { k with
        staleReadings := min 65535 (k.staleReadings + 1)
        retryTimer := retry }).nextPoll p).settleTrunk)) ∧
      (k.play = .reading → stamp ≠ expected → stamp ≠ expected - 1 → ∃ t : State,
        run = .next (t.nextPoll p).settleTrunk ∧
        t = { taken fun k => { k with
            anomalousReadings := min 65535 (k.anomalousReadings + 1)
            retryTimer := retry } with notices := t.notices } ∧
        ∃ n ∈ t.notices, n.source = laneSource l ∧ payloadKind n.payload = .readingAnomaly) ∧
      (∀ (i : SessionId) (x : Session), k.play = .reading → stamp = expected → settled = true →
        (s.entry l).holder = some i → s.session i = some x →
        let result : BallResult := ⟨standing &&& x.nextBall.before,
          (k.ball.map (·.foul)).getD false, if poor then .readPoor else .readGood, stamp⟩
        let odd : Bool := poor || decide (standing &&& ~~~x.nextBall.before ≠ 0)
        let anomalies := if odd = true then min 65535 (k.anomalousReadings + 1)
          else k.anomalousReadings
        (v.record.isSome = true → ∃ t : State, run = .next (t.nextPoll p).settleTrunk ∧
          t = { (resolved fun k => { k with anomalousReadings := anomalies }).setSession i
            (some { x with held := some result }) with notices := t.notices } ∧
          (odd = true → ∃ n ∈ t.notices, n.source = laneSource l ∧
            payloadKind n.payload = .readingAnomaly)) ∧
        (∀ (j f : Nat) (c : Bowler), v.record = none → PlainFirstBall x result j f c →
          ¬ ChargeDue x f c → x.state ≠ .exhausted → v.deferredNeed = none → v.owed = none →
          (s.pinsetter l).slot = none → ∃ t : State,
          run = .next (t.nextPoll p).settleTrunk ∧ (t.tracker l).play = .notArmed ∧
          OnPair p (s.setSession i (some (afterFirstBall x result j f c))) t)))

/-- R164, R165: the next poll of a pair link. The round goes on at the next slot of the order; from the
last slot a new round begins at the first, with a pending list in force. The poll goes to the slot's
address and carries the command in that node's slot with its serial, which counts a try; the answer
timeout runs from now; one more poll is counted. Nothing else changes.

Section 11.7: its bytes are delimiter 5A, address, kind 1, the command field (the serial, present in bit
7), the body length, the body and the CRC; a manual body and a display payload stand in the body as they
are. (The body of another command is a free value, log entry 9.)

R169: how a poll leaves the slot as it stands: one that carried no command always; one that carried a
command since replaced, whatever the outcome, also where its successor is the same command with the same
serial, untried; one whose command is still in the slot below three tries unless it is acknowledged. But
for an acknowledgment nothing else changes either. -/
def Obligations.NextPollFollowsOrder : Prop :=
  (∀ q : Poll, ∃ body : List Byte,
    let field := match q.carried with
      | none => 0#8
      | some (_, serial) => 0x80#8 ||| serial.zeroExtend 8
    let covered := [BitVec.ofNat 8 (q.address.val + 1), 1#8, field,
      BitVec.ofNat 8 body.length] ++ body
    q.bytes = [0x5A#8] ++ covered ++ bytes2 (crc16 covered).toNat ∧
    (q.carried = none → body = []) ∧
    (∀ b n, q.carried = some (.manual b, n) ∨ q.carried = some (.display b, n) → body = b)) ∧
  (∀ (s : State) (p : PairId) (q : Poll) (r : CommandResult),
    (q.carried = none → s.resolveCommand p q r = s) ∧
    (∀ c n, q.carried = some (c, n) → r ≠ .ack n →
      (∀ e, (s.node p q.address).slot = some e → e.command = c → e.serial = n →
        e.tries.getD 0 < 3) → s.resolveCommand p q r = s) ∧
    (∀ c n, q.carried = some (c, n) →
      (∀ e, (s.node p q.address).slot = some e → e.command = c → e.serial = n → e.tries = none) →
      ∀ a, ((s.resolveCommand p q r).node p a).slot = (s.node p a).slot)) ∧
  ∀ (s : State) (p : PairId),
    let q := s.poller p
    let goesOn := q.current + 1 < q.order.length
    let order := if goesOn then q.order else q.pendingOrder.getD q.order
    let current := if goesOn then q.current + 1 else 0
    ∀ a : NodeAddr, order[current]? = some a →
    let carried := { s.node p a with slot := (s.node p a).slot.map fun e =>
      { e with tries := some (e.tries.getD 0 + 1) } }
    s.nextPoll p = s.modPoller p fun q => { q with
      order := order, current := current
      pendingOrder := if goesOn then q.pendingOrder else none
      nodes := q.nodes.set a carried
      pollsSent := min 65535 (q.pollsSent + 1)
      poll := some ⟨a, (s.node p a).slot.map fun e => (e.command, e.serial),
        s.deviceTime + q.timeout, false⟩ }

/-- R165, R173: frames that end no poll. While a poll waits, an answer from another address and a
damaged frame are counted on the pair; an answer to a poll that a restart has abandoned is counted as
abandoned, and not taken. A frame that is damaged by its own bytes (here: too short, or of another
delimiter) counts as damaged when received. The poll goes on waiting; nothing else changes. That
wrong addresses are not counted and damaged frames are counted while an abandoned poll waits is the
model's choice (log entry 7), and so is that a frame of another delimiter is damaged (log entry 8). -/
def Obligations.FramesThatEndNoPollAreCounted : Prop :=
  ∀ (s : State) (p : PairId) (q : Poll), (s.poller p).poll = some q →
    (q.abandoned = false → exec (.wrongAddressAnswer p) s = .next
      (s.modPoller p fun r =>
        { r with wrongAddress := min 65535 (r.wrongAddress + 1) }).settleTrunk) ∧
    (q.abandoned = true → exec (.wrongAddressAnswer p) s = .next s.settleTrunk) ∧
    (exec (.damagedAnswer p) s = .next
      (s.modPoller p fun r => { r with damaged := min 65535 (r.damaged + 1) }).settleTrunk) ∧
    (∀ frame : List Byte, frame.length < 7 ∨ frame.head? ≠ some 0x5A#8 →
      exec (.answerReceived p frame) s = exec (.damagedAnswer p) s) ∧
    (q.abandoned = true → exec (.abandonedAnswer p) s = .next
      (s.modPoller p fun r => { r with abandoned := min 65535 (r.abandoned + 1) }).settleTrunk) ∧
    (q.abandoned = false → exec (.abandonedAnswer p) s = .next s.settleTrunk)

/-- R165, R166: the answer timeout of a poll. The time moves on to the poll's deadline (log entry 2, the
model's choice). Where no command was carried, the node's misses and its total go up by one; below the
lost threshold, with no watch running on a pinsetter polled, nothing else happens but the next poll. An
ALIVE console at the threshold becomes LOST: its slot and the frames queued for it are gone and counted,
and NODE_STATE is pending. An ALIVE pinsetter of a lane of the map at the threshold becomes LOST and
raises MACHINE_NODE_LOST, present, with the table's action, where that is NONE or HOLD. So does a reader
with SENSOR_NODE_LOST; a SET_COUNT in its slot is discarded, with resync LOST (and one that waits for the
slot, log entry 50). The lane I/O node raises SENSOR_NODE_LOST on both lanes, its slot is emptied, the
filter is uninitialised, a RUNNING jam watch SUSPENDED (R131). No session is leaving a lane.

R169, R88: a carried command in its slot below the threshold. Below three tries it stays. On the third
try it is dropped and counted: a READ starts the retry timer, a SET_COUNT makes resync LOST, and the
CYCLE of the sequence in progress ends it as superseded, begins a HALT and raises COMMAND_LOST (here:
with nothing held, owed, deferred or to follow, and the class new, its action NONE or HOLD). -/
def Obligations.AnswerTimeoutCountsAndLoses : Prop :=
  ∀ (s : State) (p : PairId) (a : NodeAddr) (d : Nat) (carried : Option (Command × Serial)),
    (s.poller p).poll = some ⟨a, carried, d, false⟩ → s.NoneLeaving →
    let now := s.pass (d - s.deviceTime)
    let n := s.node p a
    let counted := { n with
      misses := min 255 (n.misses + 1), totalMisses := min 65535 (n.totalMisses + 1) }
    let dropped := { counted with
      slot := none, commandsDropped := min 65535 (n.commandsDropped + 1) }
    let raised := fun (t : State) (l : LaneId) (c : FaultClass) (fs : List FaultEntry)
        (present : Bool) => (t.lane l).faults = fs ++
      [⟨c, s.faultTable[faultIndex c].action, s.faultTable[faultIndex c].credit, present, false, 1,
        now.deviceTime, now.deviceTime⟩]
    let mild := fun c : FaultClass => s.faultTable[faultIndex c].action = .none ∨
      s.faultTable[faultIndex c].action = .hold
    let billingAlone := fun t : State => t.charges = s.charges ∧
      ∀ i x, s.session i = some x → ∃ y, t.session i = some y ∧ SameButBillingState x y
    (∀ c q tries, carried = some (c, q) → n.slot = some ⟨c, q, tries⟩ →
      min 255 (n.misses + 1) < (s.poller p).threshold →
      (tries.getD 0 < 3 →
        (∀ e, roleOf a = .pinsetter e →
          (s.supervisor (laneAt p e)).record.bind (·.watch) = none) →
        exec (.answerTimeout p) s =
          .next (((now.modNode p a fun _ => counted).nextPoll p).settleTrunk)) ∧
      (3 ≤ tries.getD 0 →
        (∀ (e : Side) (m : Stamp), a = readerAddr e →
          let l := laneAt p e
          (s.tracker l).readWaiting = false → (s.tracker l).countWaiting = false →
          (c = .read m → exec (.answerTimeout p) s =
            .next (((((now.modNode p a fun _ => dropped).modTracker l fun k =>
              { k with retryTimer := some (now.deviceTime + (s.profileOf l).retry) }).nextPoll
                p)).settleTrunk)) ∧
          (c = .setCount m → exec (.answerTimeout p) s =
            .next ((((now.modNode p a fun _ => dropped).modTracker l fun k =>
              { k with resync := .lost }).nextPoll p).settleTrunk))) ∧
        (∀ (e : Side) (k : Sequence) (m : CycleNo) (st : Expected) (mark : Option RestartMark),
          a = pinsetterAddr e → c = .cycle k m →
          let l := laneAt p e
          let v := s.supervisor l
          v.record = some ⟨k, m, st, false, none, mark⟩ → k ≠ .halt → k ≠ .park →
          n.state ≠ .lost → n.owed = none → v.awaiting = none → v.owed = none →
          v.followOn = .none → v.deferredNeed = none → mild .commandLost →
          (∀ i x, (s.entry l).holder = some i → s.session i = some x → x.held = none) →
          (∀ f ∈ (s.lane l).faults, f.cls ≠ .commandLost) → ∃ t : State,
          exec (.answerTimeout p) s = .next (t.nextPoll p).settleTrunk ∧
          t.node p a = { dropped with
            slot := some ⟨.halt (v.cycle + 1), n.nextSerial, none⟩
            nextSerial := n.nextSerial + 1 } ∧
          t.supervisor l = { v with
            machine := .halted, cycle := v.cycle + 1, superseded := some m
            record := some ⟨.halt, v.cycle + 1, .step .halt [], false, none, none⟩ } ∧
          raised t l .commandLost ((s.lane l).faults.map fun f =>
            if f.cls = .stepOverdue ∨ f.cls = .startFailed then { f with present := false }
            else f) false ∧ billingAlone t))) ∧
    (carried = none →
    (min 255 (n.misses + 1) < (s.poller p).threshold →
      (∀ e, roleOf a = .pinsetter e → (s.supervisor (laneAt p e)).record.bind (·.watch) = none) →
      exec (.answerTimeout p) s =
        .next (((now.modNode p a fun _ => counted).nextPoll p).settleTrunk)) ∧
    (∀ e : Side, a = consoleAddr e → n.state = .alive →
      (s.poller p).threshold ≤ min 255 (n.misses + 1) →
      ∃ t : State, exec (.answerTimeout p) s = .next (t.nextPoll p).settleTrunk ∧
        t.node p a = { counted with
          state := .lost, slot := none
          framesDiscarded := min 65535 (n.framesDiscarded +
            (((s.poller p).queue.filter fun f => f.side = e).length +
              (if n.slot.isSome then 1 else 0))) } ∧
        (t.poller p).queue = (s.poller p).queue.filter (fun f => f.side ≠ e) ∧
        t.sessions = s.sessions ∧ t.lanes = s.lanes ∧
        ∃ x ∈ t.notices, x.source = pairSource p ∧ payloadKind x.payload = .nodeState) ∧
    (∀ e : Side, a = pinsetterAddr e → n.state = .alive →
      (s.poller p).threshold ≤ min 255 (n.misses + 1) →
      let l := laneAt p e
      let act := s.faultTable[faultIndex .machineNodeLost]
      (s.entry l).enabled = true → (act.action = .none ∨ act.action = .hold) →
      (∀ f ∈ (s.lane l).faults, f.cls ≠ .machineNodeLost) →
      (s.supervisor l).record.bind (·.watch) = none →
      ∃ t : State, exec (.answerTimeout p) s = .next (t.nextPoll p).settleTrunk ∧
        t.node p a = { counted with state := .lost } ∧
        (t.lane l).faults = (s.lane l).faults ++
          [⟨.machineNodeLost, act.action, act.credit, true, false, 1, now.deviceTime,
            now.deviceTime⟩] ∧
        t.supervisor l = s.supervisor l ∧
        ∃ x ∈ t.notices, x.source = pairSource p ∧ payloadKind x.payload = .nodeState) ∧
    (∀ e : Side, a = readerAddr e → n.state = .alive →
      (s.poller p).threshold ≤ min 255 (n.misses + 1) →
      let l := laneAt p e
      let counts := ∃ c q w, n.slot = some ⟨.setCount c, q, w⟩
      (s.entry l).enabled = true → mild .sensorNodeLost →
      (∀ f ∈ (s.lane l).faults, f.cls ≠ .sensorNodeLost) → (s.tracker l).readWaiting = false →
      ∃ t : State, exec (.answerTimeout p) s = .next (t.nextPoll p).settleTrunk ∧
        (counts → t.node p a = { counted with state := .lost, slot := none } ∧
          (t.tracker l).resync = .lost ∧ (t.tracker l).countWaiting = false) ∧
        (¬ counts → t.node p a = { counted with state := .lost } ∧
          (t.tracker l).resync = (s.tracker l).resync ∧
          (t.tracker l).countWaiting = (s.tracker l).countWaiting) ∧
        raised t l .sensorNodeLost (s.lane l).faults true ∧
        t.supervisor l = s.supervisor l ∧ billingAlone t ∧
        ∃ x ∈ t.notices, x.source = pairSource p ∧ payloadKind x.payload = .nodeState) ∧
    (a = laneIoAddr → n.state = .alive → (s.poller p).threshold ≤ min 255 (n.misses + 1) →
      (∃ e, (s.entry (laneAt p e)).enabled = true) → mild .sensorNodeLost →
      (∀ e, ∀ f ∈ (s.lane (laneAt p e)).faults, f.cls ≠ .sensorNodeLost) →
      ∃ t : State, exec (.answerTimeout p) s = .next (t.nextPoll p).settleTrunk ∧
        t.node p a = { counted with state := .lost, slot := none } ∧
        (∀ e, raised t (laneAt p e) .sensorNodeLost (s.lane (laneAt p e)).faults true ∧
          t.supervisor (laneAt p e) = s.supervisor (laneAt p e)) ∧
        t.filter p = { s.filter p with initialised := false } ∧
        t.ballReturn p = { s.ballReturn p with watch :=
          if (s.ballReturn p).watchExpired = true then .stopped
          else match (s.ballReturn p).watch with
            | .stopped => .stopped
            | _ => .suspended } ∧
        billingAlone t ∧
        ∃ x ∈ t.notices, x.source = pairSource p ∧ payloadKind x.payload = .nodeState))

/-- R168, R172, R115: commands that wait for a slot. SLOT_COMMAND_PLACE for a console whose slot is
empty takes the oldest frame queued for it into the slot with the node's next serial, untried; for a
slot that is full, for the lane I/O node, and with nothing waiting for a console, nothing changes.
OWED_COMMAND_PLACE for an ALIVE pinsetter with a slot that is empty or holds a CYCLE begins the owed
HALT or PARK as a new sequence that supersedes the one in progress, and the node owes nothing; with
nothing owed, nothing changes. No session is leaving a lane, and no result is held by a sequence that
an owed command supersedes (R115 leaves none in progress while one is owed). (That these commands do the
placing where it is still to be done is the model's choice, log entry 5.)

R167, R113, R114: an empty answer of a pinsetter that is ABSENT or LOST, to a poll that carried no
command, for a lane of the map with no cycle owed: the node is ALIVE without misses; a MACHINE_NODE_LOST
entry leaves the lane's set where its action is NONE or HOLD, else it is latched, no longer present; an
owed HALT or PARK is placed as above; NODE_STATE is pending. -/
def Obligations.WaitingCommandsArePlaced : Prop :=
  ∀ s : State, s.NoneLeaving →
    (∀ (p : PairId) (a : NodeAddr), (s.node p a).slot.isSome = true ∨ a = laneIoAddr ∨
        (∃ e, a = consoleAddr e ∧ ∀ f ∈ (s.poller p).queue, f.side ≠ e) →
      exec (.slotCommandPlace p a) s = .next s.settleTrunk) ∧
    (∀ (p : PairId) (e : Side) (before after : List DisplayFrame) (payload : List Byte),
      (s.node p (consoleAddr e)).slot = none →
      (s.poller p).queue = before ++ ⟨e, payload⟩ :: after → (∀ f ∈ before, f.side ≠ e) →
      exec (.slotCommandPlace p (consoleAddr e)) s = .next
        (((s.modPoller p fun q => { q with queue := before ++ after }).modNode p
          (consoleAddr e) fun n =>
            { n with slot := some ⟨.display payload, n.nextSerial, none⟩
                     nextSerial := n.nextSerial + 1 }).settleTrunk)) ∧
    (∀ l : LaneId, (s.pinsetter l).owed = none →
      exec (.owedCommandPlace l) s = .next s.settleTrunk) ∧
    (∀ (l : LaneId) (k : StopKind), (s.pinsetter l).owed = some k →
      (s.pinsetter l).state = .alive →
      ((s.pinsetter l).slot = none ∨
        ∃ c m q w, (s.pinsetter l).slot = some ⟨.cycle c m, q, w⟩) →
      ((s.supervisor l).record = none ∨ s.NothingHeld l) →
      let m := (s.supervisor l).cycle + 1
      ∃ t : State, exec (.owedCommandPlace l) s = .next t.settleTrunk ∧
        OnPair (pairOf l) s t ∧ (t.pinsetter l).owed = none ∧ (t.supervisor l).cycle = m ∧
        (∀ r, (s.supervisor l).record = some r →
          (t.supervisor l).superseded = some r.number) ∧
        (k = .halt → (t.supervisor l).machine = .halted ∧
          (t.pinsetter l).slot = some ⟨.halt m, (s.pinsetter l).nextSerial, none⟩) ∧
        (k = .park → (t.supervisor l).machine = .parking ∧
          (t.pinsetter l).slot = some ⟨.park m, (s.pinsetter l).nextSerial, none⟩)) ∧
    (∀ (l : LaneId) (d : Nat), let p := pairOf l; let a := pinsetterAddr (sideOf l)
      let v := s.supervisor l
      let n := s.node p a
      let lost := fun f : FaultEntry => f.cls = .machineNodeLost
      (s.poller p).poll = some ⟨a, none, d, false⟩ → n.state ≠ .alive →
      (s.entry l).enabled = true → v.owed = none → v.record.bind (·.watch) = none →
      (n.slot = none ∨ ∃ c m q w, n.slot = some ⟨.cycle c m, q, w⟩) →
      (n.owed = none ∨ v.record = none ∨ s.NothingHeld l) →
      let covered := [BitVec.ofNat 8 (a.val + 1), 2#8, 0#8, 0#8]
      ∃ t : State,
        exec (.answerReceived p ([0x5A#8] ++ covered ++ bytes2 (crc16 covered).toNat)) s =
          .next (t.nextPoll p).settleTrunk ∧
        (t.node p a).state = .alive ∧ (t.node p a).misses = 0 ∧ (t.node p a).owed = none ∧
        (n.owed = none → t.supervisor l = v ∧ (t.node p a).slot = n.slot) ∧
        (∀ k, n.owed = some k → (t.supervisor l).cycle = v.cycle + 1 ∧
          (t.supervisor l).machine = (if k = .halt then .halted else .parking) ∧
          (t.supervisor l).superseded = (match v.record with
            | some r => some r.number
            | none => v.superseded) ∧
          (t.node p a).slot = some ⟨if k = .halt then .halt (v.cycle + 1) else .park (v.cycle + 1),
            n.nextSerial, none⟩) ∧
        ((∀ f ∈ (s.lane l).faults, ¬ lost f) →
          (t.lane l).faults.map (·.cls) = (s.lane l).faults.map (·.cls)) ∧
        (∀ before f after, (s.lane l).faults = before ++ f :: after → lost f →
          (∀ g ∈ before ++ after, ¬ lost g) →
          (f.action = .none ∨ f.action = .hold →
            (t.lane l).faults.map (·.cls) = (before ++ after).map (·.cls)) ∧
          (f.action = .stop ∨ f.action = .park →
            { f with present := false, latched := true } ∈ (t.lane l).faults)) ∧
        (∀ j, pairOf j ≠ p → t.lane j = s.lane j) ∧ (∀ q, q ≠ p → t.pair q = s.pair q) ∧
        (∀ k, t.entry k = s.entry k) ∧ t.charges = s.charges ∧
        (∀ i x, s.session i = some x → ∃ y, t.session i = some y ∧ SameButBillingState x y) ∧
        ∃ x ∈ t.notices, x.source = pairSource p ∧ payloadKind x.payload = .nodeState)

/-! ## Expiries -/

/-- R86, R116, R129: the watches. A step watch that runs is stopped at its deadline; outside a park it
raises START_FAILED in START and STEP_OVERDUE otherwise, present, and the sequence goes on; in a park
the sequence ends superseded, the machine is OUT_OF_SERVICE and PARK_FAILED is in the set (here: on a
lane without holder). A jam watch that runs expires: watch expired becomes yes, the watch is STOPPED,
the expiries counter goes up, RETURN_JAM is in the pair's set and RETURN_STATE is pending. Where no
watch runs, nothing changes. Classes are new in their set, with an action of NONE or HOLD (PARK_FAILED:
OUT_OF_SERVICE), and no session is leaving a lane. That an expiry moves device time on to its deadline,
and that one for a watch that does not run changes nothing, is the model's choice (log entry 2). -/
def Obligations.WatchesExpire : Prop :=
  ∀ s : State, s.NoneLeaving →
    (∀ l : LaneId, (s.supervisor l).record.bind (·.watch) = none →
      exec (.stepWatchExpiry l) s = .next s.settleTrunk) ∧
    (∀ (l : LaneId) (r : CycleRecord) (d : Nat), (s.supervisor l).record = some r →
      r.watch = some d →
      let time := max s.deviceTime d
      (r.kind ≠ .park →
        let c : FaultClass := if r.kind = .start then .startFailed else .stepOverdue
        let act := s.faultTable[faultIndex c]
        (act.action = .none ∨ act.action = .hold) → (∀ f ∈ (s.lane l).faults, f.cls ≠ c) →
        ∃ t : State, exec (.stepWatchExpiry l) s = .next t.settleTrunk ∧
          t.deviceTime = time ∧
          (t.supervisor l) = { s.supervisor l with record := some { r with watch := none } } ∧
          (t.lane l).faults = (s.lane l).faults ++
            [⟨c, act.action, act.credit, true, false, 1, time, time⟩] ∧
          (∀ i x, s.session i = some x → ∃ b,
            t.session i = some { x with billing := { x.billing with state := b } }) ∧
          t.charges = s.charges ∧ (∀ q, t.pair q = s.pair q) ∧
          ∃ x ∈ t.notices, x.source = laneSource l ∧ payloadKind x.payload = .faultRaised) ∧
      (r.kind = .park → (s.entry l).holder = none → (s.supervisor l).deferredNeed = none →
        s.faultTable[faultIndex .parkFailed].action = .outOfService →
        (∀ f ∈ (s.lane l).faults, f.cls ≠ .parkFailed) →
        ∃ t : State, exec (.stepWatchExpiry l) s = .next t.settleTrunk ∧
          t.deviceTime = time ∧ (t.supervisor l).machine = .outOfService ∧
          (t.supervisor l).record = none ∧
          (t.supervisor l).superseded = some r.number ∧
          (t.lane l).faults.map (·.cls) = (s.lane l).faults.map (·.cls) ++ [.parkFailed] ∧
          t.effective l = .outOfService ∧ t.sessions = s.sessions ∧ t.charges = s.charges ∧
          ∃ x ∈ t.notices, x.source = laneSource l ∧ payloadKind x.payload = .faultRaised)) ∧
    (∀ p : PairId, (∀ b d, (s.ballReturn p).watch ≠ .running b d) →
      exec (.jamWatchExpiry p) s = .next s.settleTrunk) ∧
    (∀ (p : PairId) (b d : Nat), (s.ballReturn p).watch = .running b d →
      let act := s.faultTable[faultIndex .returnJam]
      let time := max s.deviceTime d
      (act.action = .none ∨ act.action = .hold) → (∀ f ∈ (s.pair p).faults, f.cls ≠ .returnJam) →
      ∃ t : State, exec (.jamWatchExpiry p) s = .next t.settleTrunk ∧
        t.deviceTime = time ∧
        t.ballReturn p = { s.ballReturn p with
          watchExpired := true, watch := .stopped
          expiries := min 65535 ((s.ballReturn p).expiries + 1) } ∧
        (t.pair p).faults = (s.pair p).faults ++
          [⟨.returnJam, act.action, act.credit, true, false, 1, time, time⟩] ∧
        (∀ q, q ≠ p → t.pair q = s.pair q) ∧ t.charges = s.charges ∧
        (∀ i x, s.session i = some x → ∃ c,
          t.session i = some { x with billing := { x.billing with state := c } }) ∧
        ∃ x ∈ t.notices, x.source = pairSource p ∧ payloadKind x.payload = .returnState)

/-- R75, R76, R78: the timers of the ball in play. Settle expiry in SETTLING makes the lane READING,
starts the reading deadline and places a READ with the expected stamp, which the ball counts. Retry
expiry in READING stops the retry timer and places a READ. A READ goes into an empty reader slot or
replaces the READ there, with the node's next serial, untried; behind any other command it waits. Outside
READING retry expiry stops the timer and places nothing. Deadline expiry in READING makes the lane
AWAITING_ENTRY, stops the timers, lets no READ wait, and raises READING_OVERDUE, present (here: new in the
set, its action NONE or HOLD, and no session leaving a lane). A timer that does not run, and settle or
deadline expiry in another play state, changes nothing. (That an expiry moves device time on to its
deadline, and what one does outside its play state or with its timer stopped, is the model's choice, log
entry 2.) -/
def Obligations.BallTimersExpire : Prop :=
  ∀ (s : State) (l : LaneId) (d : Nat),
    let k := s.tracker l
    let f := s.profileOf l
    let time := max s.deviceTime d
    let now := s.pass (d - s.deviceTime)
    let free := (s.reader l).slot = none ∨ ∃ c q w, (s.reader l).slot = some ⟨.read c, q, w⟩
    let read := fun t : State =>
      (t.modNode (pairOf l) (readerAddr (sideOf l)) fun n =>
        { n with
          slot := some ⟨.read (BitVec.ofNat 6 (k.pitCount.toNat % 64)), n.nextSerial, none⟩
          nextSerial := n.nextSerial + 1 }).modTracker l fun x =>
            { x with
              readWaiting := false
              ball := x.ball.map fun b => { b with reads := b.reads + 1 } }
    let waits := fun t : State => t.modTracker l fun x => { x with readWaiting := true }
    let settled := now.modTracker l fun x =>
      { x with
        play := .reading, settleTimer := none, deadlineTimer := some (time + f.readingDeadline) }
    let retried := now.modTracker l fun x => { x with retryTimer := none }
    (k.play = .settling → k.settleTimer = some d →
      (free → exec (.settleExpiry l) s = .next (read settled).settleTrunk) ∧
      (¬ free → exec (.settleExpiry l) s = .next (waits settled).settleTrunk)) ∧
    (k.play ≠ .settling ∨ k.settleTimer = none →
      exec (.settleExpiry l) s = .next s.settleTrunk) ∧
    (k.play = .reading → k.retryTimer = some d →
      (free → exec (.retryExpiry l) s = .next (read retried).settleTrunk) ∧
      (¬ free → exec (.retryExpiry l) s = .next (waits retried).settleTrunk)) ∧
    (k.play ≠ .reading → k.retryTimer = some d →
      exec (.retryExpiry l) s = .next retried.settleTrunk) ∧
    (k.retryTimer = none → exec (.retryExpiry l) s = .next s.settleTrunk) ∧
    (k.play = .reading → k.deadlineTimer = some d → s.NoneLeaving →
      let act := s.faultTable[faultIndex .readingOverdue]
      (act.action = .none ∨ act.action = .hold) →
      (∀ e ∈ (s.lane l).faults, e.cls ≠ .readingOverdue) →
      ∃ t : State, exec (.readingDeadlineExpiry l) s = .next t.settleTrunk ∧
        t.deviceTime = time ∧
        t.tracker l = { k with
          play := .awaitingEntry, retryTimer := none, deadlineTimer := none
          readWaiting := false } ∧
        (t.lane l).faults = (s.lane l).faults ++
          [⟨.readingOverdue, act.action, act.credit, true, false, 1, time, time⟩] ∧
        t.supervisor l = s.supervisor l ∧ t.charges = s.charges ∧
        (∀ i x, s.session i = some x → ∃ c,
          t.session i = some { x with billing := { x.billing with state := c } }) ∧
        ∃ x ∈ t.notices, x.source = laneSource l ∧ payloadKind x.payload = .faultRaised) ∧
    (k.play ≠ .reading ∨ k.deadlineTimer = none →
      exec (.readingDeadlineExpiry l) s = .next s.settleTrunk)

/-! ## Work that waited -/

/-- R93, R96, R97: machine work that waited, with the pinsetter's slot empty and no session leaving a
lane. An owed cycle of a READY machine with no sequence, below HOLD, is run: FIRST as FIRST_CYCLE, FULL
and FULL-then-park as FULL_CYCLE, the latter setting the follow-on to PARK; it is owed no longer. A
follow-on of PARK with the machine READY or HALTED, no sequence, no owed cycle or need, the play state
not RESOLVED and the pinsetter not LOST and owed nothing, places the PARK. A follow-on of START with the
machine PARKED, no sequence, nothing owed to the pinsetter, a holder, below STOP, begins START. Either
follow-on is then NONE; each new sequence takes the next cycle number. Nothing else changes but the
equipment of the pair and the notices. With no such follow-on, nothing changes. That these commands run
the work again if it is still to be done is the model's choice (log entry 5). -/
def Obligations.DeferredMachineWorkRuns : Prop :=
  ∀ (s : State) (l : LaneId), s.NoneLeaving →
    let v := s.supervisor l
    let m := v.cycle + 1
    (v.followOn ≠ .park → exec (.followOnPark l) s = .next s.settleTrunk) ∧
    (v.followOn = .none ∨ v.followOn = .park →
      exec (.followOnStart l) s = .next s.settleTrunk) ∧
    (v.record = none → (s.pinsetter l).slot = none →
      (∀ n : Need, v.machine = .ready → s.belowHold l = true → v.owed = some n → ∃ t : State,
        exec (.owedCycleRun l) s = .next t.settleTrunk ∧ OnPair (pairOf l) s t ∧
        (t.supervisor l).machine = .cycling ∧ (t.supervisor l).cycle = m ∧
        (t.supervisor l).owed = none ∧
        (t.supervisor l).followOn = (if n = .fullThenPark then .park else v.followOn) ∧
        (t.pinsetter l).slot =
          some ⟨.cycle (if n = .first then .firstCycle else .fullCycle) m,
            (s.pinsetter l).nextSerial, none⟩) ∧
      (v.followOn = .park → (v.machine = .ready ∨ v.machine = .halted) → v.owed = none →
        v.deferredNeed = none → (s.tracker l).play ≠ .resolved → (s.pinsetter l).state ≠ .lost →
        (s.pinsetter l).owed = none → ∃ t : State,
        exec (.followOnPark l) s = .next t.settleTrunk ∧ OnPair (pairOf l) s t ∧
        (t.supervisor l).followOn = .none ∧ (t.supervisor l).machine = .parking ∧
        (t.supervisor l).cycle = m ∧
        (t.pinsetter l).slot = some ⟨.park m, (s.pinsetter l).nextSerial, none⟩) ∧
      (v.followOn = .start → v.machine = .parked → (s.pinsetter l).owed = none →
        s.belowStop l = true → (s.entry l).holder.isSome = true → ∃ t : State,
        exec (.followOnStart l) s = .next t.settleTrunk ∧ OnPair (pairOf l) s t ∧
        (t.supervisor l).followOn = .none ∧ (t.supervisor l).machine = .starting ∧
        (t.supervisor l).cycle = m ∧
        (t.pinsetter l).slot = some ⟨.cycle .start m, (s.pinsetter l).nextSerial, none⟩))

/-- R27, R59 to R61, R20, R23, R157: session work that waited; no session but the one named is leaving a
lane. A held result with no sequence in progress is applied (here: a plain first ball without game
charge, `afterFirstBall`). A pending resume with no ball unresolved is applied: CLAMP on a leave makes
the standing-before set the full rack, REPLAY empties the frame and faces its first ball; with no current
slot it is discarded. The close of a CLOSING SINGLE session with GAME billing runs on its quiet lane. A
move completes on its quiet lane (here: with no open time line). An EXPIRED session whose wait runs
becomes CLOSING (here: on a lane that is not quiet). Where there is no pending resume, no CLOSING
session, no MOVING holder, or no wait that runs, nothing changes. That these commands do the work again
if it is still to be done is the model's choice (log entry 5), and so is that EXPIRY_WAIT_END ends the
wait whatever its count (log entry 25), and that a pending resume is discarded where the session has no
current slot (log entry 53). -/
def Obligations.DeferredSessionWorkRuns : Prop :=
  ∀ (s : State) (i : SessionId),
    (∀ x, s.session i = some x → x.pendingResume = none →
      exec (.pendingResumeApply i) s = .next s.settleTrunk) ∧
    (∀ x, s.session i = some x → x.state ≠ .closing →
      exec (.closeSequence i) s = .next s.settleTrunk) ∧
    (∀ l, (∀ h ∈ s.holder l, h.2.state ≠ .moving) →
      exec (.moveComplete l) s = .next s.settleTrunk) ∧
    (∀ x, s.session i = some x → x.state ≠ .expired ∨ x.billing.expiryCount = none →
      exec (.expiryWaitEnd i) s = .next s.settleTrunk) ∧
    (∀ x : Session, s.session i = some x →
      (∀ j y, j ≠ i → s.session j = some y → y.state ≠ .closing ∧ y.state ≠ .moving) →
      (∀ r : Resume, x.pendingResume = some r → x.held = none → s.sessionInFlight i x = false →
        x.slot = none → exec (.pendingResumeApply i) s =
          .next (s.setSession i (some { x with pendingResume := none })).settleTrunk) ∧
      (∀ (r : Resume) (b : Bowler), x.pendingResume = some r → x.held = none →
        s.sessionInFlight i x = false → x.slot.isSome = true → bowlerAt x x.nextBall.slot = some b →
        1 ≤ x.nextBall.frame → ∃ (t : State) (y : Session),
        exec (.pendingResumeApply i) s = .next t.settleTrunk ∧
        t = { s.setSession i (some y) with notices := t.notices } ∧
        y = { x with bowlers := y.bowlers, nextBall := y.nextBall, pendingResume := none } ∧
        (∀ k, k ≠ x.nextBall.slot → bowlerAt y k = bowlerAt x k) ∧
        (r = .clamp → y.bowlers = x.bowlers ∧ y.nextBall =
          (if x.nextBall.faced = .leave then { x.nextBall with before := fullRack }
          else x.nextBall)) ∧
        (r = .replay → (∃ f, nth1 b.game.frames x.nextBall.frame = some f ∧ f.balls ≠ []) →
          y.nextBall = ⟨x.nextBall.slot, x.nextBall.frame, 1, .full, fullRack, none⟩ ∧
          ∃ c f, bowlerAt y x.nextBall.slot = some c ∧
            nth1 c.game.frames x.nextBall.frame = some f ∧
            f = ⟨.notBowled, [], none, none⟩) ∧
        ∃ n ∈ t.notices, n.source = laneSource x.lane ∧ payloadKind n.payload = .ballScored) ∧
      (x.mode = .single → (s.entry x.lane).holder = some i →
        (x.state = .closing → x.terms.billing = .game → s.quiet x.lane = true → ∃ t : State,
          exec (.closeSequence i) s = .next t.settleTrunk ∧
          OnPair (pairOf x.lane)
            ((s.setSession i none).modEntry x.lane fun e =>
              { e with
                state := .closed, holder := none, waiting := none, memory := some x.terms }) t) ∧
        (∀ m : MovePending, x.state = .moving → (s.entry x.lane).movePending = some m →
          m.target ≠ x.lane → s.quiet x.lane = true → (s.meter x.lane).openLine = none →
          ∃ (t : State) (y : Session), exec (.moveComplete x.lane) s = .next t.settleTrunk ∧
            t.session i = some y ∧
            y = { x with
              state := .opened, lane := m.target, bowlers := y.bowlers, nextBall := y.nextBall
              pendingResume := y.pendingResume
              billing := { x.billing with state := y.billing.state } } ∧
            y.bowlers.map (·.handle) = x.bowlers.map (·.handle) ∧
            t.entry x.lane = { s.entry x.lane with
              state := .closed, holder := none, waiting := none, movePending := none } ∧
            t.entry m.target =
              { s.entry m.target with state := .opened, holder := some i } ∧
            (∀ j, j ≠ i → t.session j = s.session j) ∧ t.charges = s.charges) ∧
        (x.state = .expired → x.billing.expiryCount.isSome = true → s.quiet x.lane = false →
          ∃ t : State, exec (.expiryWaitEnd i) s = .next t.settleTrunk ∧
            OnPair (pairOf x.lane)
              ((s.setSession i (some { x with
                state := .closing, expiryDue := false
                billing := { x.billing with expiryCount := none } })).modEntry x.lane fun e =>
                  { e with movePending := none }) t) ∧
        (∀ (r : BallResult) (k f : Nat) (b : Bowler), x.held = some r →
          x.state ≠ .closing → x.state ≠ .moving → x.state ≠ .exhausted →
          PlainFirstBall x r k f b → ¬ ChargeDue x f b → (s.supervisor x.lane).record = none →
          (s.supervisor x.lane).deferredNeed = none → (s.supervisor x.lane).owed = none →
          (s.pinsetter x.lane).slot = none → (s.tracker x.lane).play = .resolved →
          ∃ t : State, exec (.heldResultApply x.lane) s = .next t.settleTrunk ∧
            OnPair (pairOf x.lane) (s.setSession i (some (afterFirstBall x r k f b))) t ∧
            (t.tracker x.lane).play = .notArmed)))

/-! ## The clock and the meters -/

/-- R136, R137, R145, R151, R152, R153, R154: SECOND_TICK and MINUTE_BOUNDARY. A tick ends the current
second: the calendar (one that exists) goes on by one second with its carries, the phase is 0, and a
second that becomes 0 makes a boundary due; each RUNNING record short of a minute counts a chargeable
second, each CREDITING one a credited second, each expiry wait above 1 counts down, a GAME_MODE record
nothing. The sixtieth chargeable second charges a minute (here: one RUNNING session without limit, all
others GAME_MODE, no commit pending, no open line): (rate + carry) / 60, the rest carried, on a new open
time line, the lane's charged total and the session's totals. MINUTE_BOUNDARY swaps in a pending
commit. No session is leaving a lane. How much time a tick takes, and counts past their top, are the
model's (log entries 2 and 26); so are that a swap is made whether or not a boundary is due (log entry 24)
and that a total which reaches exactly 4,294,967,295 is marked saturated (log entry 33). -/
def Obligations.TicksCountAndCharge : Prop :=
  ∀ s : State, s.NoneLeaving → calendarInRange s.clock.calendar = true →
    let c := s.clock.calendar
    let last := if c.month = 2 then (if c.year % 4 = 0 then 29 else 28)
      else if c.month ∈ [4, 6, 9, 11] then 30 else 31
    let next : Calendar :=
      if c.second < 59 then { c with second := c.second + 1 }
      else if c.minute < 59 then { c with second := 0, minute := c.minute + 1 }
      else if c.hour < 23 then { c with second := 0, minute := 0, hour := c.hour + 1 }
      else
        { second := 0, minute := 0, hour := 0, weekday := if c.weekday = 7 then 1 else c.weekday + 1
          day := if c.day = last then 1 else c.day + 1
          month := if c.day = last then (if c.month = 12 then 1 else c.month + 1) else c.month
          year := if c.day = last ∧ c.month = 12 then (if c.year = 2099 then 2000 else c.year + 1)
            else c.year }
    let passed := { s with clock := { s.clock with boundaryDue := false } }
    let ticked := { s with
      deviceTime := s.deviceTime + (1000 - s.clock.phase)
      clock := ⟨next, s.clock.valid, 0, s.clock.boundaryDue || next.second == 0⟩ }
    (∃ t : State, exec .secondTick s = .next t.settleTrunk ∧ t.clock = ticked.clock ∧
      t.deviceTime = ticked.deviceTime) ∧
    ((∀ i x, s.session i = some x →
        x.billing.chargeable < 4294967295 ∧ x.billing.credited < 4294967295 ∧
        x.billing.elapsed < 4294967295 ∧
        (x.billing.state = .running → x.billing.secondsInMinute < 59) ∧
        (∀ n, x.billing.state = .stopped → x.billing.expiryCount = some n → 2 ≤ n)) →
      ∃ t : State, exec .secondTick s = .next t.settleTrunk ∧
        t = { ticked with sessions := t.sessions } ∧
        ∀ i, t.session i = (s.session i).map fun x =>
          match x.billing.state with
          | .gameMode => x
          | .running => { x with billing := { x.billing with
              chargeable := x.billing.chargeable + 1, elapsed := x.billing.elapsed + 1
              secondsInMinute := x.billing.secondsInMinute + 1 } }
          | .crediting => { x with billing := { x.billing with
              credited := x.billing.credited + 1, elapsed := x.billing.elapsed + 1 } }
          | .stopped => { x with billing := { x.billing with
              expiryCount := x.billing.expiryCount.map fun n => n - 1 } }) ∧
    (∀ (i : SessionId) (x : Session), s.session i = some x → x.billing.state = .running →
      x.billing.secondsInMinute = 59 → x.terms.limit = .none → s.tariff.pending = none →
      (s.meter x.lane).openLine = none → x.billing.chargeable < 4294967295 →
      x.billing.elapsed < 4294967295 →
      (∀ j y, j ≠ i → s.session j = some y → y.billing.state = .gameMode) →
      let k := lookupIn s.tariff x.terms.tariffClass next
      let charge := (k.hourlyRate + x.billing.carry) / 60
      let top := 4294967295
      ∃ t : State, exec .secondTick s = .next t.settleTrunk ∧
        t = { ticked with sessions := t.sessions, lanes := t.lanes } ∧
        (∀ j, j ≠ i → t.session j = s.session j) ∧
        t.session i = some { x with billing := { x.billing with
          chargeable := x.billing.chargeable + 1, elapsed := x.billing.elapsed + 1
          secondsInMinute := 0, carry := (k.hourlyRate + x.billing.carry) % 60
          chargedMinutes := min 65535 (x.billing.chargedMinutes + 1)
          timeTotal := min top (x.billing.timeTotal + charge)
          saturated := x.billing.saturated || decide (top ≤ x.billing.timeTotal + charge) } } ∧
        (∀ l, l ≠ x.lane → t.lane l = s.lane l) ∧
        t.meter x.lane = { s.meter x.lane with
          openLine := some ⟨i, k.reference, k.version, 1, min top charge, next⟩
          chargedTotal := min top ((s.meter x.lane).chargedTotal + charge)
          saturated := (s.meter x.lane).saturated ||
            decide (top ≤ (s.meter x.lane).chargedTotal + charge) }) ∧
    (s.tariff.pending = none → exec .minuteBoundary s = .next passed.settleTrunk) ∧
    (∀ m, s.tariff.pending = some m → ∃ (table : List Period)
          (slots : Vector (Option Period) 24), exec .minuteBoundary s = .next
        (({ passed with tariff :=
          { activeTable := table, activeDefaults := s.tariff.stagedDefaults
            activeDays := s.tariff.stagedDays, slots := slots
            stagedDefaults := s.tariff.stagedDefaults, stagedDays := s.tariff.stagedDays
            version := s.tariff.version + 1, committedOnce := true, pending := none } }).raise 0
          (.tariffSwapped (s.tariff.version + 1) table.length s.tariff.stagedDays.length
            c)).settleTrunk ∧
        (∀ n : Fin 24, slots[n] = if n.val < m.count then s.tariff.slots[n] else none) ∧
        ((∀ n : Fin 24, n.val < m.count → s.tariff.slots[n].isSome = true) → m.count ≤ 24 →
          table.length = m.count ∧
          ∀ n : Fin 24, n.val < m.count → table[n.val]? = s.tariff.slots[n]))

/-! ## Detectors and scores -/

/-- R65 to R67, section 11.7: an answer of an ALIVE lane I/O node to a poll that carried no command (node
now, levels, at most one transition), while no session is leaving a lane. To an uninitialised filter with
no detector blocked, each detector becomes DARK or CLEAR by its level, dark since node now, and the filter
is initialised at node now.

To an initialised one within 30 seconds, with every detector but one CLEAR and clear, and a DARK one
within its blocked limit. Without a transition: a wait not yet debounced stands; a debounced press becomes
DARK, is counted, and hands its passage on with the dark edge as stamp; a debounced release becomes CLEAR
and hands on the re-arming; an agreeing level changes nothing; one that differs counts a mismatch and
begins a wait at node now. With one transition: before the latest node time it is discarded, a repeated
level is a glitch, each counted; else it settles the wait it finds debounced, the passage or re-arming
handed on, and moves the state: a dark edge CLEAR to PRESS_WAIT (DARK where node now debounces it), a
clear edge PRESS_WAIT back to CLEAR as a glitch, or DARK to RELEASE_WAIT (CLEAR where node now debounces
it), and a dark edge RELEASE_WAIT back to DARK without a passage. Then node now is the last node time.

`Passed` and `Released` say what is handed on: foul pending (R72), a ball or a stray (R73, R74) that
enters the track or overflows it (R124, R130), a lifted ball or a phantom (R125), the rack level with lift
and SET_OUTPUTS (R126, R127), and the jam watch of each (R128). (That the item count of the frame counts
its transitions, so that node time and levels stand before them under any count, and the places of the
bits of a transition's first byte, are log entry 8; which transition moves the latest node time, 31.) -/
def Obligations.DetectorLevelsMakePassages : Prop :=
  ∀ (s : State) (p : PairId) (d hi lo levels : Nat), s.NoneLeaving → hi < 256 → lo < 256 →
    levels < 256 → (s.poller p).poll = some ⟨laneIoAddr, none, d, false⟩ →
    (s.node p laneIoAddr).state = .alive →
    let now : NodeTime := BitVec.ofNat 16 (hi * 256 + lo)
    let run := fun items : List Nat =>
      let covered := [5#8, 2#8, 0#8, BitVec.ofNat 8 (items.length / 3)] ++
        ([hi, lo, levels] ++ items).map (BitVec.ofNat 8)
      exec (.answerReceived p ([0x5A#8] ++ covered ++ bytes2 (crc16 covered).toNat)) s
    let u := s.modNode p laneIoAddr fun n => { n with misses := 0 }
    let f := s.filter p
    (f.initialised = false → (∀ e, (f.detector e).blocked = false) → ∃ t : State,
      run [] = .next (t.nextPoll p).settleTrunk ∧ (t.filter p).initialised = true ∧
      (t.filter p).lastNodeTime = now ∧ (t.filter p).reinits = min 65535 (f.reinits + 1) ∧
      (∀ e, (t.filter p).detector e =
        if levels.testBit (detectorBit e) then
          { f.detector e with state := .dark, darkSince := now }
        else { f.detector e with state := .clear }) ∧
      (t.ballReturn p).rackFull = levels.testBit 5 ∧
      ∀ k, (t.tracker (laneAt p k)).foulPending = none) ∧
    ∀ e : Detector, f.initialised = true → (now - f.lastNodeTime).toNat ≤ 30000 →
      (∀ c, c ≠ e → (f.detector c).state = .clear) →
      let x := f.detector e
      let b := debounceOf f.debounce e
      let bit := 2 ^ detectorBit e
      let waited := fun since t : NodeTime => b ≤ (t - since).toNat
      let within := fun since t : NodeTime =>
        x.blocked = false → ∀ n, blockedLimit e = some n → (t - since).toNat ≤ n
      let pressed := fun y : DetectorState =>
        { y with state := .dark, passages := min 65535 (y.passages + 1) }
      let ends := fun (items : List Nat) (g : Filter) (y : DetectorState)
          (handed : State → State → Prop) => ∃ t : State,
        run items = .next (t.nextPoll p).settleTrunk ∧
        handed (u.modFilter p fun _ => { g.setDetector e y with lastNodeTime := now }) t
      let stands := fun w t : State => t = w
      let mismatched := { f with mismatches := min 65535 (f.mismatches + 1) }
      (x.state = .pressWait → levels = bit →
        (¬ waited x.darkEdge now → ends [] f x stands) ∧
        (waited x.darkEdge now → within x.darkSince now →
          ends [] f (pressed x) (Passed p e x.darkEdge))) ∧
      (x.state = .releaseWait → levels = 0 →
        (¬ waited x.releaseEdge now → ends [] f x stands) ∧
        (waited x.releaseEdge now → x.blocked = false →
          ends [] f { x with state := .clear } (Released p e))) ∧
      (x.state = .clear →
        (levels = 0 → ends [] f x stands) ∧
        (levels = bit → ends [] mismatched
          { x with state := .pressWait, darkEdge := now, darkSince := now } stands)) ∧
      (x.state = .dark → within x.darkSince now →
        (levels = bit → ends [] f x stands) ∧
        (levels = 0 → ends [] mismatched
          { x with state := .releaseWait, releaseEdge := now } stands)) ∧
      ∀ thi tlo : Nat, thi < 256 → tlo < 256 →
        let edge : NodeTime := BitVec.ofNat 16 (thi * 256 + tlo)
        let dark := [128 + detectorBit e, thi, tlo]
        let clear := [detectorBit e, thi, tlo]
        let late := 1 ≤ (f.lastNodeTime - edge).toNat ∧ (f.lastNodeTime - edge).toNat ≤ 30000
        let discarded := { f with discarded := min 65535 (f.discarded + 1) }
        let glitch := { x with glitches := min 65535 (x.glitches + 1) }
        (late → ∀ items, items = dark ∨ items = clear →
          (x.state = .clear → levels = 0 → ends items discarded x stands) ∧
          (x.state = .dark → within x.darkSince now → levels = bit →
            ends items discarded x stands)) ∧
        (¬ late →
          (x.state = .clear →
            (levels = 0 → ends clear f glitch stands) ∧
            (levels = bit → ¬ waited edge now → ends dark f
              { x with state := .pressWait, darkEdge := edge, darkSince := edge } stands) ∧
            (levels = bit → waited edge now → within edge now → ends dark f
              (pressed { x with darkEdge := edge, darkSince := edge }) (Passed p e edge))) ∧
          (x.state = .pressWait → levels = 0 →
            (¬ waited x.darkEdge edge → ends clear f { glitch with state := .clear } stands) ∧
            (waited x.darkEdge edge → within x.darkSince edge → ¬ waited edge now → ends clear f
              { pressed x with state := .releaseWait, releaseEdge := edge }
              (Passed p e x.darkEdge))) ∧
          (x.state = .dark →
            (levels = bit → within x.darkSince now → ends dark f glitch stands) ∧
            (levels = 0 → within x.darkSince edge → ¬ waited edge now → ends clear f
              { x with state := .releaseWait, releaseEdge := edge } stands) ∧
            (levels = 0 → x.blocked = false → within x.darkSince edge → waited edge now → ends clear f
              { x with state := .clear, releaseEdge := edge } (Released p e))) ∧
          (x.state = .releaseWait → levels = bit →
            (¬ waited x.releaseEdge edge → within x.darkSince edge → within x.darkSince now →
              ends dark f { x with state := .dark } stands) ∧
            (waited x.releaseEdge edge → x.blocked = false → ¬ waited edge now → ends dark f
              { x with state := .pressWait, darkEdge := edge, darkSince := edge }
              (Released p e))))

/-- R30, R31, R32, R34, R35: a ball recorded in a frame of a game of ten frames. The ball joins its frame,
and the balls of the other frames stay. The frame is complete exactly when R31 or R32 find it so
(`CompleteFrame`), else IN_PROGRESS, and the other frames stay complete or not as they were. A complete
frame is scored by R34 (`FrameScored`): a strike (one ball of ten, no foul) with 10 and the next two balls
of the game once both are recorded; a spare with 10 and the next ball; two balls that do not make ten with
their sum; frame 10 with the sum of its balls; else it is AWAITING_BONUS without a score. The running
total of a frame is the sum of the scores up to it, present exactly when all these frames are SCORED.

R33: the next-ball record after the balls of a frame: the next ball of a frame that goes on, with what it
faces by R31 and R32 (`FacesNext`) and the expected standing count on a leave; after a complete frame its
first ball on the full rack. -/
def Obligations.RecordedBallScoresFrames : Prop :=
  (∀ (slot frame : Nat) (balls : List Ball),
    (CompleteFrame frame balls →
      nextBallAfter slot frame balls = ⟨slot, frame, 1, .full, fullRack, none⟩) ∧
    (¬ CompleteFrame frame balls → ∃ faced before, FacesNext frame balls faced before ∧
      nextBallAfter slot frame balls = ⟨slot, frame, balls.length + 1, faced, before,
        if faced = .leave then some (expectedStanding balls) else none⟩)) ∧
  ∀ (g : Game) (frame : Nat) (b : Ball) (old : Frame), g.frames.length = 10 → 1 ≤ frame →
    nth1 g.frames frame = some old →
    let h := recordBall frame b g
    h = { g with frames := h.frames } ∧ h.frames.length = 10 ∧
    ∀ (n : Nat) (f : Frame), nth1 h.frames n = some f →
      let complete := f.status = .scored ∨ f.status = .awaitingBonus
      (n = frame → f.balls = old.balls ++ [b] ∧ (complete ↔ CompleteFrame n f.balls) ∧
        (¬ complete → f.status = .inProgress)) ∧
      (∀ o, n ≠ frame → nth1 g.frames n = some o → f.balls = o.balls ∧
        (complete ↔ o.status = .scored ∨ o.status = .awaitingBonus) ∧
        (¬ complete → f.status = o.status)) ∧
      (complete → FrameScored n f ((h.frames.drop n).flatMap (·.balls))) ∧
      f.running =
        if (h.frames.take n).all (fun x => x.status == .scored) then
          some ((h.frames.take n).map fun x => x.score.getD 0).sum
        else none

end Statements
end

