-- ==== Sys2Proof/Laws/State.lean ====
section
/-! SUPPORT. The lemmas of the state's accessors: what reading one part gives after another part has
been replaced. -/

namespace Sys2Proof.Machine

open Sys2Proof

/-! ## Lanes, pairs and sessions -/

theorem lane_setLane (s : State) (l k : LaneId) (x : Lane) :
    (s.setLane l x).lane k = if k = l then x else s.lane k := by
  simp only [State.lane, State.setLane, Fin.getElem_fin, Vector.getElem_set, Fin.ext_iff, eq_comm]

@[simp] theorem lane_setLane_self (s : State) (l : LaneId) (x : Lane) :
    (s.setLane l x).lane l = x := by simp [lane_setLane]

theorem pair_setPair (s : State) (p q : PairId) (x : Pair) :
    (s.setPair p x).pair q = if q = p then x else s.pair q := by
  simp only [State.pair, State.setPair, Fin.getElem_fin, Vector.getElem_set, Fin.ext_iff, eq_comm]

@[simp] theorem pair_setPair_self (s : State) (p : PairId) (x : Pair) :
    (s.setPair p x).pair p = x := by simp [pair_setPair]

theorem session_setSession (s : State) (i j : SessionId) (x : Option Session) :
    (s.setSession i x).session j = if j = i then x else s.session j := by
  simp only [State.session, State.setSession, Fin.getElem_fin, Vector.getElem_set, Fin.ext_iff,
    eq_comm]

@[simp] theorem session_setSession_self (s : State) (i : SessionId) (x : Option Session) :
    (s.setSession i x).session i = x := by simp [session_setSession]

@[simp] theorem pair_setLane (s : State) (l : LaneId) (x : Lane) (p : PairId) :
    (s.setLane l x).pair p = s.pair p := rfl
@[simp] theorem session_setLane (s : State) (l : LaneId) (x : Lane) (i : SessionId) :
    (s.setLane l x).session i = s.session i := rfl
@[simp] theorem lane_setPair (s : State) (p : PairId) (x : Pair) (l : LaneId) :
    (s.setPair p x).lane l = s.lane l := rfl
@[simp] theorem session_setPair (s : State) (p : PairId) (x : Pair) (i : SessionId) :
    (s.setPair p x).session i = s.session i := rfl
@[simp] theorem lane_setSession (s : State) (i : SessionId) (x : Option Session) (l : LaneId) :
    (s.setSession i x).lane l = s.lane l := rfl
@[simp] theorem pair_setSession (s : State) (i : SessionId) (x : Option Session) (p : PairId) :
    (s.setSession i x).pair p = s.pair p := rfl

/-! ## The parts of a lane -/

theorem entry_modEntry (s : State) (l k : LaneId) (f : LaneEntry → LaneEntry) :
    (s.modEntry l f).entry k = if k = l then f (s.entry k) else s.entry k := by
  simp only [State.modEntry, State.entry, lane_setLane]
  split <;> simp_all

theorem tracker_modTracker (s : State) (l k : LaneId) (f : Tracker → Tracker) :
    (s.modTracker l f).tracker k = if k = l then f (s.tracker k) else s.tracker k := by
  simp only [State.modTracker, State.tracker, lane_setLane]
  split <;> simp_all

theorem supervisor_modSupervisor (s : State) (l k : LaneId) (f : Supervisor → Supervisor) :
    (s.modSupervisor l f).supervisor k =
      if k = l then f (s.supervisor k) else s.supervisor k := by
  simp only [State.modSupervisor, State.supervisor, lane_setLane]
  split <;> simp_all

theorem meter_modMeter (s : State) (l k : LaneId) (f : Meter → Meter) :
    (s.modMeter l f).meter k = if k = l then f (s.meter k) else s.meter k := by
  simp only [State.modMeter, State.meter, lane_setLane]
  split <;> simp_all

theorem faults_setLaneFaults (s : State) (l k : LaneId) (fs : List FaultEntry) :
    ((s.setLaneFaults l fs).lane k).faults = if k = l then fs else (s.lane k).faults := by
  simp only [State.setLaneFaults, lane_setLane]
  split <;> simp_all

@[simp] theorem entry_modTracker (s : State) (l k : LaneId) (f : Tracker → Tracker) :
    (s.modTracker l f).entry k = s.entry k := by
  simp only [State.modTracker, State.entry, lane_setLane]
  split <;> simp_all

@[simp] theorem entry_modSupervisor (s : State) (l k : LaneId) (f : Supervisor → Supervisor) :
    (s.modSupervisor l f).entry k = s.entry k := by
  simp only [State.modSupervisor, State.entry, lane_setLane]
  split <;> simp_all

@[simp] theorem entry_modMeter (s : State) (l k : LaneId) (f : Meter → Meter) :
    (s.modMeter l f).entry k = s.entry k := by
  simp only [State.modMeter, State.entry, lane_setLane]
  split <;> simp_all

@[simp] theorem entry_setLaneFaults (s : State) (l k : LaneId) (fs : List FaultEntry) :
    (s.setLaneFaults l fs).entry k = s.entry k := by
  simp only [State.setLaneFaults, State.entry, lane_setLane]
  split <;> simp_all

@[simp] theorem tracker_modEntry (s : State) (l k : LaneId) (f : LaneEntry → LaneEntry) :
    (s.modEntry l f).tracker k = s.tracker k := by
  simp only [State.modEntry, State.tracker, lane_setLane]
  split <;> simp_all

@[simp] theorem tracker_modSupervisor (s : State) (l k : LaneId) (f : Supervisor → Supervisor) :
    (s.modSupervisor l f).tracker k = s.tracker k := by
  simp only [State.modSupervisor, State.tracker, lane_setLane]
  split <;> simp_all

@[simp] theorem tracker_modMeter (s : State) (l k : LaneId) (f : Meter → Meter) :
    (s.modMeter l f).tracker k = s.tracker k := by
  simp only [State.modMeter, State.tracker, lane_setLane]
  split <;> simp_all

@[simp] theorem tracker_setLaneFaults (s : State) (l k : LaneId) (fs : List FaultEntry) :
    (s.setLaneFaults l fs).tracker k = s.tracker k := by
  simp only [State.setLaneFaults, State.tracker, lane_setLane]
  split <;> simp_all

@[simp] theorem supervisor_modEntry (s : State) (l k : LaneId) (f : LaneEntry → LaneEntry) :
    (s.modEntry l f).supervisor k = s.supervisor k := by
  simp only [State.modEntry, State.supervisor, lane_setLane]
  split <;> simp_all

@[simp] theorem supervisor_modTracker (s : State) (l k : LaneId) (f : Tracker → Tracker) :
    (s.modTracker l f).supervisor k = s.supervisor k := by
  simp only [State.modTracker, State.supervisor, lane_setLane]
  split <;> simp_all

@[simp] theorem supervisor_modMeter (s : State) (l k : LaneId) (f : Meter → Meter) :
    (s.modMeter l f).supervisor k = s.supervisor k := by
  simp only [State.modMeter, State.supervisor, lane_setLane]
  split <;> simp_all

@[simp] theorem supervisor_setLaneFaults (s : State) (l k : LaneId) (fs : List FaultEntry) :
    (s.setLaneFaults l fs).supervisor k = s.supervisor k := by
  simp only [State.setLaneFaults, State.supervisor, lane_setLane]
  split <;> simp_all

@[simp] theorem meter_modEntry (s : State) (l k : LaneId) (f : LaneEntry → LaneEntry) :
    (s.modEntry l f).meter k = s.meter k := by
  simp only [State.modEntry, State.meter, lane_setLane]
  split <;> simp_all

@[simp] theorem meter_modTracker (s : State) (l k : LaneId) (f : Tracker → Tracker) :
    (s.modTracker l f).meter k = s.meter k := by
  simp only [State.modTracker, State.meter, lane_setLane]
  split <;> simp_all

@[simp] theorem meter_modSupervisor (s : State) (l k : LaneId) (f : Supervisor → Supervisor) :
    (s.modSupervisor l f).meter k = s.meter k := by
  simp only [State.modSupervisor, State.meter, lane_setLane]
  split <;> simp_all

@[simp] theorem meter_setLaneFaults (s : State) (l k : LaneId) (fs : List FaultEntry) :
    (s.setLaneFaults l fs).meter k = s.meter k := by
  simp only [State.setLaneFaults, State.meter, lane_setLane]
  split <;> simp_all

/-! ## The parts of a pair -/

theorem filter_modFilter (s : State) (p q : PairId) (f : Filter → Filter) :
    (s.modFilter p f).filter q = if q = p then f (s.filter q) else s.filter q := by
  simp only [State.modFilter, State.filter, pair_setPair]
  split <;> simp_all

theorem poller_modPoller (s : State) (p q : PairId) (f : Poller → Poller) :
    (s.modPoller p f).poller q = if q = p then f (s.poller q) else s.poller q := by
  simp only [State.modPoller, State.poller, pair_setPair]
  split <;> simp_all

theorem ballReturn_modReturn (s : State) (p q : PairId) (f : BallReturn → BallReturn) :
    (s.modReturn p f).ballReturn q = if q = p then f (s.ballReturn q) else s.ballReturn q := by
  simp only [State.modReturn, State.ballReturn, pair_setPair]
  split <;> simp_all

theorem node_modNode (s : State) (p q : PairId) (a b : NodeAddr) (f : Node → Node) :
    (s.modNode p a f).node q b =
      if q = p ∧ b = a then f (s.node q b) else s.node q b := by
  simp only [State.modNode, State.node, poller_modPoller]
  split
  · rename_i h
    subst h
    simp only [true_and, Fin.getElem_fin, Vector.getElem_set, Fin.ext_iff]
    split <;> rename_i h <;> simp_all [eq_comm]
  · simp_all

@[simp] theorem filter_modPoller (s : State) (p q : PairId) (f : Poller → Poller) :
    (s.modPoller p f).filter q = s.filter q := by
  simp only [State.modPoller, State.filter, pair_setPair]
  split <;> simp_all

@[simp] theorem filter_modReturn (s : State) (p q : PairId) (f : BallReturn → BallReturn) :
    (s.modReturn p f).filter q = s.filter q := by
  simp only [State.modReturn, State.filter, pair_setPair]
  split <;> simp_all

@[simp] theorem filter_setPairFaults (s : State) (p q : PairId) (fs : List FaultEntry) :
    (s.setPairFaults p fs).filter q = s.filter q := by
  simp only [State.setPairFaults, State.filter, pair_setPair]
  split <;> simp_all

@[simp] theorem poller_modFilter (s : State) (p q : PairId) (f : Filter → Filter) :
    (s.modFilter p f).poller q = s.poller q := by
  simp only [State.modFilter, State.poller, pair_setPair]
  split <;> simp_all

@[simp] theorem poller_modReturn (s : State) (p q : PairId) (f : BallReturn → BallReturn) :
    (s.modReturn p f).poller q = s.poller q := by
  simp only [State.modReturn, State.poller, pair_setPair]
  split <;> simp_all

@[simp] theorem poller_setPairFaults (s : State) (p q : PairId) (fs : List FaultEntry) :
    (s.setPairFaults p fs).poller q = s.poller q := by
  simp only [State.setPairFaults, State.poller, pair_setPair]
  split <;> simp_all

@[simp] theorem ballReturn_modFilter (s : State) (p q : PairId) (f : Filter → Filter) :
    (s.modFilter p f).ballReturn q = s.ballReturn q := by
  simp only [State.modFilter, State.ballReturn, pair_setPair]
  split <;> simp_all

@[simp] theorem ballReturn_modPoller (s : State) (p q : PairId) (f : Poller → Poller) :
    (s.modPoller p f).ballReturn q = s.ballReturn q := by
  simp only [State.modPoller, State.ballReturn, pair_setPair]
  split <;> simp_all

@[simp] theorem ballReturn_setPairFaults (s : State) (p q : PairId) (fs : List FaultEntry) :
    (s.setPairFaults p fs).ballReturn q = s.ballReturn q := by
  simp only [State.setPairFaults, State.ballReturn, pair_setPair]
  split <;> simp_all

/-! ## The lanes of a pair -/

@[simp] theorem pairOf_laneAt (p : PairId) (d : Side) : pairOf (laneAt p d) = p := by
  cases d <;> simp only [pairOf, laneAt, Fin.ext_iff] <;> omega

@[simp] theorem sideOf_laneAt (p : PairId) (d : Side) : sideOf (laneAt p d) = d := by
  cases d <;> simp [sideOf, laneAt]

@[simp] theorem laneAt_pairOf (l : LaneId) : laneAt (pairOf l) (sideOf l) = l := by
  simp only [sideOf]
  split <;> simp only [laneAt, pairOf, Fin.ext_iff] <;> omega

@[simp] theorem laneAt_eq_iff (p : PairId) (d e : Side) : laneAt p d = laneAt p e ↔ d = e := by
  cases d <;> cases e <;> simp [laneAt, Fin.ext_iff]

end Sys2Proof.Machine
end

