-- ==== Sys2Proof/Laws/Updates.lean ====
section
/-! SUPPORT. What the named updates of the state leave as it is: one lemma per field or accessor per
update, true by definition. -/

namespace Sys2Proof.Machine

open Sys2Proof

/-! ## Updates of a lane -/

@[simp] theorem pending_setLane (s : State) (l : LaneId) (x : Lane) :
    (s.setLane l x).pending = s.pending := rfl
@[simp] theorem deviceTime_setLane (s : State) (l : LaneId) (x : Lane) :
    (s.setLane l x).deviceTime = s.deviceTime := rfl
@[simp] theorem device_setLane (s : State) (l : LaneId) (x : Lane) :
    (s.setLane l x).device = s.device := rfl
@[simp] theorem laneMapLoaded_setLane (s : State) (l : LaneId) (x : Lane) :
    (s.setLane l x).laneMapLoaded = s.laneMapLoaded := rfl
@[simp] theorem trunk_setLane (s : State) (l : LaneId) (x : Lane) :
    (s.setLane l x).trunk = s.trunk := rfl
@[simp] theorem priorities_setLane (s : State) (l : LaneId) (x : Lane) :
    (s.setLane l x).priorities = s.priorities := rfl
@[simp] theorem defaults_setLane (s : State) (l : LaneId) (x : Lane) :
    (s.setLane l x).defaults = s.defaults := rfl
@[simp] theorem profiles_setLane (s : State) (l : LaneId) (x : Lane) :
    (s.setLane l x).profiles = s.profiles := rfl
@[simp] theorem faultTable_setLane (s : State) (l : LaneId) (x : Lane) :
    (s.setLane l x).faultTable = s.faultTable := rfl
@[simp] theorem clock_setLane (s : State) (l : LaneId) (x : Lane) :
    (s.setLane l x).clock = s.clock := rfl
@[simp] theorem tariff_setLane (s : State) (l : LaneId) (x : Lane) :
    (s.setLane l x).tariff = s.tariff := rfl
@[simp] theorem charges_setLane (s : State) (l : LaneId) (x : Lane) :
    (s.setLane l x).charges = s.charges := rfl
@[simp] theorem notices_setLane (s : State) (l : LaneId) (x : Lane) :
    (s.setLane l x).notices = s.notices := rfl
@[simp] theorem sessions_setLane (s : State) (l : LaneId) (x : Lane) :
    (s.setLane l x).sessions = s.sessions := rfl
@[simp] theorem pairs_setLane (s : State) (l : LaneId) (x : Lane) :
    (s.setLane l x).pairs = s.pairs := rfl
@[simp] theorem filter_setLane (s : State) (l : LaneId) (x : Lane) (q : PairId) :
    (s.setLane l x).filter q = s.filter q := rfl
@[simp] theorem poller_setLane (s : State) (l : LaneId) (x : Lane) (q : PairId) :
    (s.setLane l x).poller q = s.poller q := rfl
@[simp] theorem ballReturn_setLane (s : State) (l : LaneId) (x : Lane) (q : PairId) :
    (s.setLane l x).ballReturn q = s.ballReturn q := rfl
@[simp] theorem node_setLane (s : State) (l : LaneId) (x : Lane) (q : PairId) (b : NodeAddr) :
    (s.setLane l x).node q b = s.node q b := rfl

@[simp] theorem pending_modEntry (s : State) (l : LaneId) (f : LaneEntry → LaneEntry) :
    (s.modEntry l f).pending = s.pending := rfl
@[simp] theorem deviceTime_modEntry (s : State) (l : LaneId) (f : LaneEntry → LaneEntry) :
    (s.modEntry l f).deviceTime = s.deviceTime := rfl
@[simp] theorem device_modEntry (s : State) (l : LaneId) (f : LaneEntry → LaneEntry) :
    (s.modEntry l f).device = s.device := rfl
@[simp] theorem laneMapLoaded_modEntry (s : State) (l : LaneId) (f : LaneEntry → LaneEntry) :
    (s.modEntry l f).laneMapLoaded = s.laneMapLoaded := rfl
@[simp] theorem trunk_modEntry (s : State) (l : LaneId) (f : LaneEntry → LaneEntry) :
    (s.modEntry l f).trunk = s.trunk := rfl
@[simp] theorem priorities_modEntry (s : State) (l : LaneId) (f : LaneEntry → LaneEntry) :
    (s.modEntry l f).priorities = s.priorities := rfl
@[simp] theorem defaults_modEntry (s : State) (l : LaneId) (f : LaneEntry → LaneEntry) :
    (s.modEntry l f).defaults = s.defaults := rfl
@[simp] theorem profiles_modEntry (s : State) (l : LaneId) (f : LaneEntry → LaneEntry) :
    (s.modEntry l f).profiles = s.profiles := rfl
@[simp] theorem faultTable_modEntry (s : State) (l : LaneId) (f : LaneEntry → LaneEntry) :
    (s.modEntry l f).faultTable = s.faultTable := rfl
@[simp] theorem clock_modEntry (s : State) (l : LaneId) (f : LaneEntry → LaneEntry) :
    (s.modEntry l f).clock = s.clock := rfl
@[simp] theorem tariff_modEntry (s : State) (l : LaneId) (f : LaneEntry → LaneEntry) :
    (s.modEntry l f).tariff = s.tariff := rfl
@[simp] theorem charges_modEntry (s : State) (l : LaneId) (f : LaneEntry → LaneEntry) :
    (s.modEntry l f).charges = s.charges := rfl
@[simp] theorem notices_modEntry (s : State) (l : LaneId) (f : LaneEntry → LaneEntry) :
    (s.modEntry l f).notices = s.notices := rfl
@[simp] theorem sessions_modEntry (s : State) (l : LaneId) (f : LaneEntry → LaneEntry) :
    (s.modEntry l f).sessions = s.sessions := rfl
@[simp] theorem pairs_modEntry (s : State) (l : LaneId) (f : LaneEntry → LaneEntry) :
    (s.modEntry l f).pairs = s.pairs := rfl
@[simp] theorem pair_modEntry (s : State) (l : LaneId) (f : LaneEntry → LaneEntry) (q : PairId) :
    (s.modEntry l f).pair q = s.pair q := rfl
@[simp] theorem filter_modEntry (s : State) (l : LaneId) (f : LaneEntry → LaneEntry) (q : PairId) :
    (s.modEntry l f).filter q = s.filter q := rfl
@[simp] theorem poller_modEntry (s : State) (l : LaneId) (f : LaneEntry → LaneEntry) (q : PairId) :
    (s.modEntry l f).poller q = s.poller q := rfl
@[simp] theorem ballReturn_modEntry (s : State) (l : LaneId) (f : LaneEntry → LaneEntry) (q : PairId) :
    (s.modEntry l f).ballReturn q = s.ballReturn q := rfl
@[simp] theorem node_modEntry (s : State) (l : LaneId) (f : LaneEntry → LaneEntry) (q : PairId) (b : NodeAddr) :
    (s.modEntry l f).node q b = s.node q b := rfl
@[simp] theorem session_modEntry (s : State) (l : LaneId) (f : LaneEntry → LaneEntry) (j : SessionId) :
    (s.modEntry l f).session j = s.session j := rfl

@[simp] theorem pending_modTracker (s : State) (l : LaneId) (f : Tracker → Tracker) :
    (s.modTracker l f).pending = s.pending := rfl
@[simp] theorem deviceTime_modTracker (s : State) (l : LaneId) (f : Tracker → Tracker) :
    (s.modTracker l f).deviceTime = s.deviceTime := rfl
@[simp] theorem device_modTracker (s : State) (l : LaneId) (f : Tracker → Tracker) :
    (s.modTracker l f).device = s.device := rfl
@[simp] theorem laneMapLoaded_modTracker (s : State) (l : LaneId) (f : Tracker → Tracker) :
    (s.modTracker l f).laneMapLoaded = s.laneMapLoaded := rfl
@[simp] theorem trunk_modTracker (s : State) (l : LaneId) (f : Tracker → Tracker) :
    (s.modTracker l f).trunk = s.trunk := rfl
@[simp] theorem priorities_modTracker (s : State) (l : LaneId) (f : Tracker → Tracker) :
    (s.modTracker l f).priorities = s.priorities := rfl
@[simp] theorem defaults_modTracker (s : State) (l : LaneId) (f : Tracker → Tracker) :
    (s.modTracker l f).defaults = s.defaults := rfl
@[simp] theorem profiles_modTracker (s : State) (l : LaneId) (f : Tracker → Tracker) :
    (s.modTracker l f).profiles = s.profiles := rfl
@[simp] theorem faultTable_modTracker (s : State) (l : LaneId) (f : Tracker → Tracker) :
    (s.modTracker l f).faultTable = s.faultTable := rfl
@[simp] theorem clock_modTracker (s : State) (l : LaneId) (f : Tracker → Tracker) :
    (s.modTracker l f).clock = s.clock := rfl
@[simp] theorem tariff_modTracker (s : State) (l : LaneId) (f : Tracker → Tracker) :
    (s.modTracker l f).tariff = s.tariff := rfl
@[simp] theorem charges_modTracker (s : State) (l : LaneId) (f : Tracker → Tracker) :
    (s.modTracker l f).charges = s.charges := rfl
@[simp] theorem notices_modTracker (s : State) (l : LaneId) (f : Tracker → Tracker) :
    (s.modTracker l f).notices = s.notices := rfl
@[simp] theorem sessions_modTracker (s : State) (l : LaneId) (f : Tracker → Tracker) :
    (s.modTracker l f).sessions = s.sessions := rfl
@[simp] theorem pairs_modTracker (s : State) (l : LaneId) (f : Tracker → Tracker) :
    (s.modTracker l f).pairs = s.pairs := rfl
@[simp] theorem pair_modTracker (s : State) (l : LaneId) (f : Tracker → Tracker) (q : PairId) :
    (s.modTracker l f).pair q = s.pair q := rfl
@[simp] theorem filter_modTracker (s : State) (l : LaneId) (f : Tracker → Tracker) (q : PairId) :
    (s.modTracker l f).filter q = s.filter q := rfl
@[simp] theorem poller_modTracker (s : State) (l : LaneId) (f : Tracker → Tracker) (q : PairId) :
    (s.modTracker l f).poller q = s.poller q := rfl
@[simp] theorem ballReturn_modTracker (s : State) (l : LaneId) (f : Tracker → Tracker) (q : PairId) :
    (s.modTracker l f).ballReturn q = s.ballReturn q := rfl
@[simp] theorem node_modTracker (s : State) (l : LaneId) (f : Tracker → Tracker) (q : PairId) (b : NodeAddr) :
    (s.modTracker l f).node q b = s.node q b := rfl
@[simp] theorem session_modTracker (s : State) (l : LaneId) (f : Tracker → Tracker) (j : SessionId) :
    (s.modTracker l f).session j = s.session j := rfl

@[simp] theorem pending_modSupervisor (s : State) (l : LaneId) (f : Supervisor → Supervisor) :
    (s.modSupervisor l f).pending = s.pending := rfl
@[simp] theorem deviceTime_modSupervisor (s : State) (l : LaneId) (f : Supervisor → Supervisor) :
    (s.modSupervisor l f).deviceTime = s.deviceTime := rfl
@[simp] theorem device_modSupervisor (s : State) (l : LaneId) (f : Supervisor → Supervisor) :
    (s.modSupervisor l f).device = s.device := rfl
@[simp] theorem laneMapLoaded_modSupervisor (s : State) (l : LaneId) (f : Supervisor → Supervisor) :
    (s.modSupervisor l f).laneMapLoaded = s.laneMapLoaded := rfl
@[simp] theorem trunk_modSupervisor (s : State) (l : LaneId) (f : Supervisor → Supervisor) :
    (s.modSupervisor l f).trunk = s.trunk := rfl
@[simp] theorem priorities_modSupervisor (s : State) (l : LaneId) (f : Supervisor → Supervisor) :
    (s.modSupervisor l f).priorities = s.priorities := rfl
@[simp] theorem defaults_modSupervisor (s : State) (l : LaneId) (f : Supervisor → Supervisor) :
    (s.modSupervisor l f).defaults = s.defaults := rfl
@[simp] theorem profiles_modSupervisor (s : State) (l : LaneId) (f : Supervisor → Supervisor) :
    (s.modSupervisor l f).profiles = s.profiles := rfl
@[simp] theorem faultTable_modSupervisor (s : State) (l : LaneId) (f : Supervisor → Supervisor) :
    (s.modSupervisor l f).faultTable = s.faultTable := rfl
@[simp] theorem clock_modSupervisor (s : State) (l : LaneId) (f : Supervisor → Supervisor) :
    (s.modSupervisor l f).clock = s.clock := rfl
@[simp] theorem tariff_modSupervisor (s : State) (l : LaneId) (f : Supervisor → Supervisor) :
    (s.modSupervisor l f).tariff = s.tariff := rfl
@[simp] theorem charges_modSupervisor (s : State) (l : LaneId) (f : Supervisor → Supervisor) :
    (s.modSupervisor l f).charges = s.charges := rfl
@[simp] theorem notices_modSupervisor (s : State) (l : LaneId) (f : Supervisor → Supervisor) :
    (s.modSupervisor l f).notices = s.notices := rfl
@[simp] theorem sessions_modSupervisor (s : State) (l : LaneId) (f : Supervisor → Supervisor) :
    (s.modSupervisor l f).sessions = s.sessions := rfl
@[simp] theorem pairs_modSupervisor (s : State) (l : LaneId) (f : Supervisor → Supervisor) :
    (s.modSupervisor l f).pairs = s.pairs := rfl
@[simp] theorem pair_modSupervisor (s : State) (l : LaneId) (f : Supervisor → Supervisor) (q : PairId) :
    (s.modSupervisor l f).pair q = s.pair q := rfl
@[simp] theorem filter_modSupervisor (s : State) (l : LaneId) (f : Supervisor → Supervisor) (q : PairId) :
    (s.modSupervisor l f).filter q = s.filter q := rfl
@[simp] theorem poller_modSupervisor (s : State) (l : LaneId) (f : Supervisor → Supervisor) (q : PairId) :
    (s.modSupervisor l f).poller q = s.poller q := rfl
@[simp] theorem ballReturn_modSupervisor (s : State) (l : LaneId) (f : Supervisor → Supervisor) (q : PairId) :
    (s.modSupervisor l f).ballReturn q = s.ballReturn q := rfl
@[simp] theorem node_modSupervisor (s : State) (l : LaneId) (f : Supervisor → Supervisor) (q : PairId) (b : NodeAddr) :
    (s.modSupervisor l f).node q b = s.node q b := rfl
@[simp] theorem session_modSupervisor (s : State) (l : LaneId) (f : Supervisor → Supervisor) (j : SessionId) :
    (s.modSupervisor l f).session j = s.session j := rfl

@[simp] theorem pending_modMeter (s : State) (l : LaneId) (f : Meter → Meter) :
    (s.modMeter l f).pending = s.pending := rfl
@[simp] theorem deviceTime_modMeter (s : State) (l : LaneId) (f : Meter → Meter) :
    (s.modMeter l f).deviceTime = s.deviceTime := rfl
@[simp] theorem device_modMeter (s : State) (l : LaneId) (f : Meter → Meter) :
    (s.modMeter l f).device = s.device := rfl
@[simp] theorem laneMapLoaded_modMeter (s : State) (l : LaneId) (f : Meter → Meter) :
    (s.modMeter l f).laneMapLoaded = s.laneMapLoaded := rfl
@[simp] theorem trunk_modMeter (s : State) (l : LaneId) (f : Meter → Meter) :
    (s.modMeter l f).trunk = s.trunk := rfl
@[simp] theorem priorities_modMeter (s : State) (l : LaneId) (f : Meter → Meter) :
    (s.modMeter l f).priorities = s.priorities := rfl
@[simp] theorem defaults_modMeter (s : State) (l : LaneId) (f : Meter → Meter) :
    (s.modMeter l f).defaults = s.defaults := rfl
@[simp] theorem profiles_modMeter (s : State) (l : LaneId) (f : Meter → Meter) :
    (s.modMeter l f).profiles = s.profiles := rfl
@[simp] theorem faultTable_modMeter (s : State) (l : LaneId) (f : Meter → Meter) :
    (s.modMeter l f).faultTable = s.faultTable := rfl
@[simp] theorem clock_modMeter (s : State) (l : LaneId) (f : Meter → Meter) :
    (s.modMeter l f).clock = s.clock := rfl
@[simp] theorem tariff_modMeter (s : State) (l : LaneId) (f : Meter → Meter) :
    (s.modMeter l f).tariff = s.tariff := rfl
@[simp] theorem charges_modMeter (s : State) (l : LaneId) (f : Meter → Meter) :
    (s.modMeter l f).charges = s.charges := rfl
@[simp] theorem notices_modMeter (s : State) (l : LaneId) (f : Meter → Meter) :
    (s.modMeter l f).notices = s.notices := rfl
@[simp] theorem sessions_modMeter (s : State) (l : LaneId) (f : Meter → Meter) :
    (s.modMeter l f).sessions = s.sessions := rfl
@[simp] theorem pairs_modMeter (s : State) (l : LaneId) (f : Meter → Meter) :
    (s.modMeter l f).pairs = s.pairs := rfl
@[simp] theorem pair_modMeter (s : State) (l : LaneId) (f : Meter → Meter) (q : PairId) :
    (s.modMeter l f).pair q = s.pair q := rfl
@[simp] theorem filter_modMeter (s : State) (l : LaneId) (f : Meter → Meter) (q : PairId) :
    (s.modMeter l f).filter q = s.filter q := rfl
@[simp] theorem poller_modMeter (s : State) (l : LaneId) (f : Meter → Meter) (q : PairId) :
    (s.modMeter l f).poller q = s.poller q := rfl
@[simp] theorem ballReturn_modMeter (s : State) (l : LaneId) (f : Meter → Meter) (q : PairId) :
    (s.modMeter l f).ballReturn q = s.ballReturn q := rfl
@[simp] theorem node_modMeter (s : State) (l : LaneId) (f : Meter → Meter) (q : PairId) (b : NodeAddr) :
    (s.modMeter l f).node q b = s.node q b := rfl
@[simp] theorem session_modMeter (s : State) (l : LaneId) (f : Meter → Meter) (j : SessionId) :
    (s.modMeter l f).session j = s.session j := rfl

@[simp] theorem pending_setLaneFaults (s : State) (l : LaneId) (fs : List FaultEntry) :
    (s.setLaneFaults l fs).pending = s.pending := rfl
@[simp] theorem deviceTime_setLaneFaults (s : State) (l : LaneId) (fs : List FaultEntry) :
    (s.setLaneFaults l fs).deviceTime = s.deviceTime := rfl
@[simp] theorem device_setLaneFaults (s : State) (l : LaneId) (fs : List FaultEntry) :
    (s.setLaneFaults l fs).device = s.device := rfl
@[simp] theorem laneMapLoaded_setLaneFaults (s : State) (l : LaneId) (fs : List FaultEntry) :
    (s.setLaneFaults l fs).laneMapLoaded = s.laneMapLoaded := rfl
@[simp] theorem trunk_setLaneFaults (s : State) (l : LaneId) (fs : List FaultEntry) :
    (s.setLaneFaults l fs).trunk = s.trunk := rfl
@[simp] theorem priorities_setLaneFaults (s : State) (l : LaneId) (fs : List FaultEntry) :
    (s.setLaneFaults l fs).priorities = s.priorities := rfl
@[simp] theorem defaults_setLaneFaults (s : State) (l : LaneId) (fs : List FaultEntry) :
    (s.setLaneFaults l fs).defaults = s.defaults := rfl
@[simp] theorem profiles_setLaneFaults (s : State) (l : LaneId) (fs : List FaultEntry) :
    (s.setLaneFaults l fs).profiles = s.profiles := rfl
@[simp] theorem faultTable_setLaneFaults (s : State) (l : LaneId) (fs : List FaultEntry) :
    (s.setLaneFaults l fs).faultTable = s.faultTable := rfl
@[simp] theorem clock_setLaneFaults (s : State) (l : LaneId) (fs : List FaultEntry) :
    (s.setLaneFaults l fs).clock = s.clock := rfl
@[simp] theorem tariff_setLaneFaults (s : State) (l : LaneId) (fs : List FaultEntry) :
    (s.setLaneFaults l fs).tariff = s.tariff := rfl
@[simp] theorem charges_setLaneFaults (s : State) (l : LaneId) (fs : List FaultEntry) :
    (s.setLaneFaults l fs).charges = s.charges := rfl
@[simp] theorem notices_setLaneFaults (s : State) (l : LaneId) (fs : List FaultEntry) :
    (s.setLaneFaults l fs).notices = s.notices := rfl
@[simp] theorem sessions_setLaneFaults (s : State) (l : LaneId) (fs : List FaultEntry) :
    (s.setLaneFaults l fs).sessions = s.sessions := rfl
@[simp] theorem pairs_setLaneFaults (s : State) (l : LaneId) (fs : List FaultEntry) :
    (s.setLaneFaults l fs).pairs = s.pairs := rfl
@[simp] theorem pair_setLaneFaults (s : State) (l : LaneId) (fs : List FaultEntry) (q : PairId) :
    (s.setLaneFaults l fs).pair q = s.pair q := rfl
@[simp] theorem filter_setLaneFaults (s : State) (l : LaneId) (fs : List FaultEntry) (q : PairId) :
    (s.setLaneFaults l fs).filter q = s.filter q := rfl
@[simp] theorem poller_setLaneFaults (s : State) (l : LaneId) (fs : List FaultEntry) (q : PairId) :
    (s.setLaneFaults l fs).poller q = s.poller q := rfl
@[simp] theorem ballReturn_setLaneFaults (s : State) (l : LaneId) (fs : List FaultEntry) (q : PairId) :
    (s.setLaneFaults l fs).ballReturn q = s.ballReturn q := rfl
@[simp] theorem node_setLaneFaults (s : State) (l : LaneId) (fs : List FaultEntry) (q : PairId) (b : NodeAddr) :
    (s.setLaneFaults l fs).node q b = s.node q b := rfl
@[simp] theorem session_setLaneFaults (s : State) (l : LaneId) (fs : List FaultEntry) (j : SessionId) :
    (s.setLaneFaults l fs).session j = s.session j := rfl

/-! ## Updates of a pair -/

@[simp] theorem pending_setPair (s : State) (p : PairId) (x : Pair) :
    (s.setPair p x).pending = s.pending := rfl
@[simp] theorem deviceTime_setPair (s : State) (p : PairId) (x : Pair) :
    (s.setPair p x).deviceTime = s.deviceTime := rfl
@[simp] theorem device_setPair (s : State) (p : PairId) (x : Pair) :
    (s.setPair p x).device = s.device := rfl
@[simp] theorem laneMapLoaded_setPair (s : State) (p : PairId) (x : Pair) :
    (s.setPair p x).laneMapLoaded = s.laneMapLoaded := rfl
@[simp] theorem trunk_setPair (s : State) (p : PairId) (x : Pair) :
    (s.setPair p x).trunk = s.trunk := rfl
@[simp] theorem priorities_setPair (s : State) (p : PairId) (x : Pair) :
    (s.setPair p x).priorities = s.priorities := rfl
@[simp] theorem defaults_setPair (s : State) (p : PairId) (x : Pair) :
    (s.setPair p x).defaults = s.defaults := rfl
@[simp] theorem profiles_setPair (s : State) (p : PairId) (x : Pair) :
    (s.setPair p x).profiles = s.profiles := rfl
@[simp] theorem faultTable_setPair (s : State) (p : PairId) (x : Pair) :
    (s.setPair p x).faultTable = s.faultTable := rfl
@[simp] theorem clock_setPair (s : State) (p : PairId) (x : Pair) :
    (s.setPair p x).clock = s.clock := rfl
@[simp] theorem tariff_setPair (s : State) (p : PairId) (x : Pair) :
    (s.setPair p x).tariff = s.tariff := rfl
@[simp] theorem charges_setPair (s : State) (p : PairId) (x : Pair) :
    (s.setPair p x).charges = s.charges := rfl
@[simp] theorem notices_setPair (s : State) (p : PairId) (x : Pair) :
    (s.setPair p x).notices = s.notices := rfl
@[simp] theorem sessions_setPair (s : State) (p : PairId) (x : Pair) :
    (s.setPair p x).sessions = s.sessions := rfl
@[simp] theorem lanes_setPair (s : State) (p : PairId) (x : Pair) :
    (s.setPair p x).lanes = s.lanes := rfl
@[simp] theorem entry_setPair (s : State) (p : PairId) (x : Pair) (k : LaneId) :
    (s.setPair p x).entry k = s.entry k := rfl
@[simp] theorem tracker_setPair (s : State) (p : PairId) (x : Pair) (k : LaneId) :
    (s.setPair p x).tracker k = s.tracker k := rfl
@[simp] theorem supervisor_setPair (s : State) (p : PairId) (x : Pair) (k : LaneId) :
    (s.setPair p x).supervisor k = s.supervisor k := rfl
@[simp] theorem meter_setPair (s : State) (p : PairId) (x : Pair) (k : LaneId) :
    (s.setPair p x).meter k = s.meter k := rfl

@[simp] theorem pending_modFilter (s : State) (p : PairId) (f : Filter → Filter) :
    (s.modFilter p f).pending = s.pending := rfl
@[simp] theorem deviceTime_modFilter (s : State) (p : PairId) (f : Filter → Filter) :
    (s.modFilter p f).deviceTime = s.deviceTime := rfl
@[simp] theorem device_modFilter (s : State) (p : PairId) (f : Filter → Filter) :
    (s.modFilter p f).device = s.device := rfl
@[simp] theorem laneMapLoaded_modFilter (s : State) (p : PairId) (f : Filter → Filter) :
    (s.modFilter p f).laneMapLoaded = s.laneMapLoaded := rfl
@[simp] theorem trunk_modFilter (s : State) (p : PairId) (f : Filter → Filter) :
    (s.modFilter p f).trunk = s.trunk := rfl
@[simp] theorem priorities_modFilter (s : State) (p : PairId) (f : Filter → Filter) :
    (s.modFilter p f).priorities = s.priorities := rfl
@[simp] theorem defaults_modFilter (s : State) (p : PairId) (f : Filter → Filter) :
    (s.modFilter p f).defaults = s.defaults := rfl
@[simp] theorem profiles_modFilter (s : State) (p : PairId) (f : Filter → Filter) :
    (s.modFilter p f).profiles = s.profiles := rfl
@[simp] theorem faultTable_modFilter (s : State) (p : PairId) (f : Filter → Filter) :
    (s.modFilter p f).faultTable = s.faultTable := rfl
@[simp] theorem clock_modFilter (s : State) (p : PairId) (f : Filter → Filter) :
    (s.modFilter p f).clock = s.clock := rfl
@[simp] theorem tariff_modFilter (s : State) (p : PairId) (f : Filter → Filter) :
    (s.modFilter p f).tariff = s.tariff := rfl
@[simp] theorem charges_modFilter (s : State) (p : PairId) (f : Filter → Filter) :
    (s.modFilter p f).charges = s.charges := rfl
@[simp] theorem notices_modFilter (s : State) (p : PairId) (f : Filter → Filter) :
    (s.modFilter p f).notices = s.notices := rfl
@[simp] theorem sessions_modFilter (s : State) (p : PairId) (f : Filter → Filter) :
    (s.modFilter p f).sessions = s.sessions := rfl
@[simp] theorem lanes_modFilter (s : State) (p : PairId) (f : Filter → Filter) :
    (s.modFilter p f).lanes = s.lanes := rfl
@[simp] theorem lane_modFilter (s : State) (p : PairId) (f : Filter → Filter) (k : LaneId) :
    (s.modFilter p f).lane k = s.lane k := rfl
@[simp] theorem entry_modFilter (s : State) (p : PairId) (f : Filter → Filter) (k : LaneId) :
    (s.modFilter p f).entry k = s.entry k := rfl
@[simp] theorem tracker_modFilter (s : State) (p : PairId) (f : Filter → Filter) (k : LaneId) :
    (s.modFilter p f).tracker k = s.tracker k := rfl
@[simp] theorem supervisor_modFilter (s : State) (p : PairId) (f : Filter → Filter) (k : LaneId) :
    (s.modFilter p f).supervisor k = s.supervisor k := rfl
@[simp] theorem meter_modFilter (s : State) (p : PairId) (f : Filter → Filter) (k : LaneId) :
    (s.modFilter p f).meter k = s.meter k := rfl
@[simp] theorem session_modFilter (s : State) (p : PairId) (f : Filter → Filter) (j : SessionId) :
    (s.modFilter p f).session j = s.session j := rfl

@[simp] theorem pending_modPoller (s : State) (p : PairId) (f : Poller → Poller) :
    (s.modPoller p f).pending = s.pending := rfl
@[simp] theorem deviceTime_modPoller (s : State) (p : PairId) (f : Poller → Poller) :
    (s.modPoller p f).deviceTime = s.deviceTime := rfl
@[simp] theorem device_modPoller (s : State) (p : PairId) (f : Poller → Poller) :
    (s.modPoller p f).device = s.device := rfl
@[simp] theorem laneMapLoaded_modPoller (s : State) (p : PairId) (f : Poller → Poller) :
    (s.modPoller p f).laneMapLoaded = s.laneMapLoaded := rfl
@[simp] theorem trunk_modPoller (s : State) (p : PairId) (f : Poller → Poller) :
    (s.modPoller p f).trunk = s.trunk := rfl
@[simp] theorem priorities_modPoller (s : State) (p : PairId) (f : Poller → Poller) :
    (s.modPoller p f).priorities = s.priorities := rfl
@[simp] theorem defaults_modPoller (s : State) (p : PairId) (f : Poller → Poller) :
    (s.modPoller p f).defaults = s.defaults := rfl
@[simp] theorem profiles_modPoller (s : State) (p : PairId) (f : Poller → Poller) :
    (s.modPoller p f).profiles = s.profiles := rfl
@[simp] theorem faultTable_modPoller (s : State) (p : PairId) (f : Poller → Poller) :
    (s.modPoller p f).faultTable = s.faultTable := rfl
@[simp] theorem clock_modPoller (s : State) (p : PairId) (f : Poller → Poller) :
    (s.modPoller p f).clock = s.clock := rfl
@[simp] theorem tariff_modPoller (s : State) (p : PairId) (f : Poller → Poller) :
    (s.modPoller p f).tariff = s.tariff := rfl
@[simp] theorem charges_modPoller (s : State) (p : PairId) (f : Poller → Poller) :
    (s.modPoller p f).charges = s.charges := rfl
@[simp] theorem notices_modPoller (s : State) (p : PairId) (f : Poller → Poller) :
    (s.modPoller p f).notices = s.notices := rfl
@[simp] theorem sessions_modPoller (s : State) (p : PairId) (f : Poller → Poller) :
    (s.modPoller p f).sessions = s.sessions := rfl
@[simp] theorem lanes_modPoller (s : State) (p : PairId) (f : Poller → Poller) :
    (s.modPoller p f).lanes = s.lanes := rfl
@[simp] theorem lane_modPoller (s : State) (p : PairId) (f : Poller → Poller) (k : LaneId) :
    (s.modPoller p f).lane k = s.lane k := rfl
@[simp] theorem entry_modPoller (s : State) (p : PairId) (f : Poller → Poller) (k : LaneId) :
    (s.modPoller p f).entry k = s.entry k := rfl
@[simp] theorem tracker_modPoller (s : State) (p : PairId) (f : Poller → Poller) (k : LaneId) :
    (s.modPoller p f).tracker k = s.tracker k := rfl
@[simp] theorem supervisor_modPoller (s : State) (p : PairId) (f : Poller → Poller) (k : LaneId) :
    (s.modPoller p f).supervisor k = s.supervisor k := rfl
@[simp] theorem meter_modPoller (s : State) (p : PairId) (f : Poller → Poller) (k : LaneId) :
    (s.modPoller p f).meter k = s.meter k := rfl
@[simp] theorem session_modPoller (s : State) (p : PairId) (f : Poller → Poller) (j : SessionId) :
    (s.modPoller p f).session j = s.session j := rfl

@[simp] theorem pending_modReturn (s : State) (p : PairId) (f : BallReturn → BallReturn) :
    (s.modReturn p f).pending = s.pending := rfl
@[simp] theorem deviceTime_modReturn (s : State) (p : PairId) (f : BallReturn → BallReturn) :
    (s.modReturn p f).deviceTime = s.deviceTime := rfl
@[simp] theorem device_modReturn (s : State) (p : PairId) (f : BallReturn → BallReturn) :
    (s.modReturn p f).device = s.device := rfl
@[simp] theorem laneMapLoaded_modReturn (s : State) (p : PairId) (f : BallReturn → BallReturn) :
    (s.modReturn p f).laneMapLoaded = s.laneMapLoaded := rfl
@[simp] theorem trunk_modReturn (s : State) (p : PairId) (f : BallReturn → BallReturn) :
    (s.modReturn p f).trunk = s.trunk := rfl
@[simp] theorem priorities_modReturn (s : State) (p : PairId) (f : BallReturn → BallReturn) :
    (s.modReturn p f).priorities = s.priorities := rfl
@[simp] theorem defaults_modReturn (s : State) (p : PairId) (f : BallReturn → BallReturn) :
    (s.modReturn p f).defaults = s.defaults := rfl
@[simp] theorem profiles_modReturn (s : State) (p : PairId) (f : BallReturn → BallReturn) :
    (s.modReturn p f).profiles = s.profiles := rfl
@[simp] theorem faultTable_modReturn (s : State) (p : PairId) (f : BallReturn → BallReturn) :
    (s.modReturn p f).faultTable = s.faultTable := rfl
@[simp] theorem clock_modReturn (s : State) (p : PairId) (f : BallReturn → BallReturn) :
    (s.modReturn p f).clock = s.clock := rfl
@[simp] theorem tariff_modReturn (s : State) (p : PairId) (f : BallReturn → BallReturn) :
    (s.modReturn p f).tariff = s.tariff := rfl
@[simp] theorem charges_modReturn (s : State) (p : PairId) (f : BallReturn → BallReturn) :
    (s.modReturn p f).charges = s.charges := rfl
@[simp] theorem notices_modReturn (s : State) (p : PairId) (f : BallReturn → BallReturn) :
    (s.modReturn p f).notices = s.notices := rfl
@[simp] theorem sessions_modReturn (s : State) (p : PairId) (f : BallReturn → BallReturn) :
    (s.modReturn p f).sessions = s.sessions := rfl
@[simp] theorem lanes_modReturn (s : State) (p : PairId) (f : BallReturn → BallReturn) :
    (s.modReturn p f).lanes = s.lanes := rfl
@[simp] theorem lane_modReturn (s : State) (p : PairId) (f : BallReturn → BallReturn) (k : LaneId) :
    (s.modReturn p f).lane k = s.lane k := rfl
@[simp] theorem entry_modReturn (s : State) (p : PairId) (f : BallReturn → BallReturn) (k : LaneId) :
    (s.modReturn p f).entry k = s.entry k := rfl
@[simp] theorem tracker_modReturn (s : State) (p : PairId) (f : BallReturn → BallReturn) (k : LaneId) :
    (s.modReturn p f).tracker k = s.tracker k := rfl
@[simp] theorem supervisor_modReturn (s : State) (p : PairId) (f : BallReturn → BallReturn) (k : LaneId) :
    (s.modReturn p f).supervisor k = s.supervisor k := rfl
@[simp] theorem meter_modReturn (s : State) (p : PairId) (f : BallReturn → BallReturn) (k : LaneId) :
    (s.modReturn p f).meter k = s.meter k := rfl
@[simp] theorem session_modReturn (s : State) (p : PairId) (f : BallReturn → BallReturn) (j : SessionId) :
    (s.modReturn p f).session j = s.session j := rfl

@[simp] theorem pending_setPairFaults (s : State) (p : PairId) (fs : List FaultEntry) :
    (s.setPairFaults p fs).pending = s.pending := rfl
@[simp] theorem deviceTime_setPairFaults (s : State) (p : PairId) (fs : List FaultEntry) :
    (s.setPairFaults p fs).deviceTime = s.deviceTime := rfl
@[simp] theorem device_setPairFaults (s : State) (p : PairId) (fs : List FaultEntry) :
    (s.setPairFaults p fs).device = s.device := rfl
@[simp] theorem laneMapLoaded_setPairFaults (s : State) (p : PairId) (fs : List FaultEntry) :
    (s.setPairFaults p fs).laneMapLoaded = s.laneMapLoaded := rfl
@[simp] theorem trunk_setPairFaults (s : State) (p : PairId) (fs : List FaultEntry) :
    (s.setPairFaults p fs).trunk = s.trunk := rfl
@[simp] theorem priorities_setPairFaults (s : State) (p : PairId) (fs : List FaultEntry) :
    (s.setPairFaults p fs).priorities = s.priorities := rfl
@[simp] theorem defaults_setPairFaults (s : State) (p : PairId) (fs : List FaultEntry) :
    (s.setPairFaults p fs).defaults = s.defaults := rfl
@[simp] theorem profiles_setPairFaults (s : State) (p : PairId) (fs : List FaultEntry) :
    (s.setPairFaults p fs).profiles = s.profiles := rfl
@[simp] theorem faultTable_setPairFaults (s : State) (p : PairId) (fs : List FaultEntry) :
    (s.setPairFaults p fs).faultTable = s.faultTable := rfl
@[simp] theorem clock_setPairFaults (s : State) (p : PairId) (fs : List FaultEntry) :
    (s.setPairFaults p fs).clock = s.clock := rfl
@[simp] theorem tariff_setPairFaults (s : State) (p : PairId) (fs : List FaultEntry) :
    (s.setPairFaults p fs).tariff = s.tariff := rfl
@[simp] theorem charges_setPairFaults (s : State) (p : PairId) (fs : List FaultEntry) :
    (s.setPairFaults p fs).charges = s.charges := rfl
@[simp] theorem notices_setPairFaults (s : State) (p : PairId) (fs : List FaultEntry) :
    (s.setPairFaults p fs).notices = s.notices := rfl
@[simp] theorem sessions_setPairFaults (s : State) (p : PairId) (fs : List FaultEntry) :
    (s.setPairFaults p fs).sessions = s.sessions := rfl
@[simp] theorem lanes_setPairFaults (s : State) (p : PairId) (fs : List FaultEntry) :
    (s.setPairFaults p fs).lanes = s.lanes := rfl
@[simp] theorem lane_setPairFaults (s : State) (p : PairId) (fs : List FaultEntry) (k : LaneId) :
    (s.setPairFaults p fs).lane k = s.lane k := rfl
@[simp] theorem entry_setPairFaults (s : State) (p : PairId) (fs : List FaultEntry) (k : LaneId) :
    (s.setPairFaults p fs).entry k = s.entry k := rfl
@[simp] theorem tracker_setPairFaults (s : State) (p : PairId) (fs : List FaultEntry) (k : LaneId) :
    (s.setPairFaults p fs).tracker k = s.tracker k := rfl
@[simp] theorem supervisor_setPairFaults (s : State) (p : PairId) (fs : List FaultEntry) (k : LaneId) :
    (s.setPairFaults p fs).supervisor k = s.supervisor k := rfl
@[simp] theorem meter_setPairFaults (s : State) (p : PairId) (fs : List FaultEntry) (k : LaneId) :
    (s.setPairFaults p fs).meter k = s.meter k := rfl
@[simp] theorem session_setPairFaults (s : State) (p : PairId) (fs : List FaultEntry) (j : SessionId) :
    (s.setPairFaults p fs).session j = s.session j := rfl

@[simp] theorem pending_modNode (s : State) (p : PairId) (a : NodeAddr) (f : Node → Node) :
    (s.modNode p a f).pending = s.pending := rfl
@[simp] theorem deviceTime_modNode (s : State) (p : PairId) (a : NodeAddr) (f : Node → Node) :
    (s.modNode p a f).deviceTime = s.deviceTime := rfl
@[simp] theorem device_modNode (s : State) (p : PairId) (a : NodeAddr) (f : Node → Node) :
    (s.modNode p a f).device = s.device := rfl
@[simp] theorem laneMapLoaded_modNode (s : State) (p : PairId) (a : NodeAddr) (f : Node → Node) :
    (s.modNode p a f).laneMapLoaded = s.laneMapLoaded := rfl
@[simp] theorem trunk_modNode (s : State) (p : PairId) (a : NodeAddr) (f : Node → Node) :
    (s.modNode p a f).trunk = s.trunk := rfl
@[simp] theorem priorities_modNode (s : State) (p : PairId) (a : NodeAddr) (f : Node → Node) :
    (s.modNode p a f).priorities = s.priorities := rfl
@[simp] theorem defaults_modNode (s : State) (p : PairId) (a : NodeAddr) (f : Node → Node) :
    (s.modNode p a f).defaults = s.defaults := rfl
@[simp] theorem profiles_modNode (s : State) (p : PairId) (a : NodeAddr) (f : Node → Node) :
    (s.modNode p a f).profiles = s.profiles := rfl
@[simp] theorem faultTable_modNode (s : State) (p : PairId) (a : NodeAddr) (f : Node → Node) :
    (s.modNode p a f).faultTable = s.faultTable := rfl
@[simp] theorem clock_modNode (s : State) (p : PairId) (a : NodeAddr) (f : Node → Node) :
    (s.modNode p a f).clock = s.clock := rfl
@[simp] theorem tariff_modNode (s : State) (p : PairId) (a : NodeAddr) (f : Node → Node) :
    (s.modNode p a f).tariff = s.tariff := rfl
@[simp] theorem charges_modNode (s : State) (p : PairId) (a : NodeAddr) (f : Node → Node) :
    (s.modNode p a f).charges = s.charges := rfl
@[simp] theorem notices_modNode (s : State) (p : PairId) (a : NodeAddr) (f : Node → Node) :
    (s.modNode p a f).notices = s.notices := rfl
@[simp] theorem sessions_modNode (s : State) (p : PairId) (a : NodeAddr) (f : Node → Node) :
    (s.modNode p a f).sessions = s.sessions := rfl
@[simp] theorem lanes_modNode (s : State) (p : PairId) (a : NodeAddr) (f : Node → Node) :
    (s.modNode p a f).lanes = s.lanes := rfl
@[simp] theorem lane_modNode (s : State) (p : PairId) (a : NodeAddr) (f : Node → Node) (k : LaneId) :
    (s.modNode p a f).lane k = s.lane k := rfl
@[simp] theorem entry_modNode (s : State) (p : PairId) (a : NodeAddr) (f : Node → Node) (k : LaneId) :
    (s.modNode p a f).entry k = s.entry k := rfl
@[simp] theorem tracker_modNode (s : State) (p : PairId) (a : NodeAddr) (f : Node → Node) (k : LaneId) :
    (s.modNode p a f).tracker k = s.tracker k := rfl
@[simp] theorem supervisor_modNode (s : State) (p : PairId) (a : NodeAddr) (f : Node → Node) (k : LaneId) :
    (s.modNode p a f).supervisor k = s.supervisor k := rfl
@[simp] theorem meter_modNode (s : State) (p : PairId) (a : NodeAddr) (f : Node → Node) (k : LaneId) :
    (s.modNode p a f).meter k = s.meter k := rfl
@[simp] theorem session_modNode (s : State) (p : PairId) (a : NodeAddr) (f : Node → Node) (j : SessionId) :
    (s.modNode p a f).session j = s.session j := rfl

/-! ## Updates of a session -/

@[simp] theorem pending_setSession (s : State) (i : SessionId) (x : Option Session) :
    (s.setSession i x).pending = s.pending := rfl
@[simp] theorem deviceTime_setSession (s : State) (i : SessionId) (x : Option Session) :
    (s.setSession i x).deviceTime = s.deviceTime := rfl
@[simp] theorem device_setSession (s : State) (i : SessionId) (x : Option Session) :
    (s.setSession i x).device = s.device := rfl
@[simp] theorem laneMapLoaded_setSession (s : State) (i : SessionId) (x : Option Session) :
    (s.setSession i x).laneMapLoaded = s.laneMapLoaded := rfl
@[simp] theorem trunk_setSession (s : State) (i : SessionId) (x : Option Session) :
    (s.setSession i x).trunk = s.trunk := rfl
@[simp] theorem priorities_setSession (s : State) (i : SessionId) (x : Option Session) :
    (s.setSession i x).priorities = s.priorities := rfl
@[simp] theorem defaults_setSession (s : State) (i : SessionId) (x : Option Session) :
    (s.setSession i x).defaults = s.defaults := rfl
@[simp] theorem profiles_setSession (s : State) (i : SessionId) (x : Option Session) :
    (s.setSession i x).profiles = s.profiles := rfl
@[simp] theorem faultTable_setSession (s : State) (i : SessionId) (x : Option Session) :
    (s.setSession i x).faultTable = s.faultTable := rfl
@[simp] theorem clock_setSession (s : State) (i : SessionId) (x : Option Session) :
    (s.setSession i x).clock = s.clock := rfl
@[simp] theorem tariff_setSession (s : State) (i : SessionId) (x : Option Session) :
    (s.setSession i x).tariff = s.tariff := rfl
@[simp] theorem charges_setSession (s : State) (i : SessionId) (x : Option Session) :
    (s.setSession i x).charges = s.charges := rfl
@[simp] theorem notices_setSession (s : State) (i : SessionId) (x : Option Session) :
    (s.setSession i x).notices = s.notices := rfl
@[simp] theorem lanes_setSession (s : State) (i : SessionId) (x : Option Session) :
    (s.setSession i x).lanes = s.lanes := rfl
@[simp] theorem pairs_setSession (s : State) (i : SessionId) (x : Option Session) :
    (s.setSession i x).pairs = s.pairs := rfl
@[simp] theorem entry_setSession (s : State) (i : SessionId) (x : Option Session) (k : LaneId) :
    (s.setSession i x).entry k = s.entry k := rfl
@[simp] theorem tracker_setSession (s : State) (i : SessionId) (x : Option Session) (k : LaneId) :
    (s.setSession i x).tracker k = s.tracker k := rfl
@[simp] theorem supervisor_setSession (s : State) (i : SessionId) (x : Option Session) (k : LaneId) :
    (s.setSession i x).supervisor k = s.supervisor k := rfl
@[simp] theorem meter_setSession (s : State) (i : SessionId) (x : Option Session) (k : LaneId) :
    (s.setSession i x).meter k = s.meter k := rfl
@[simp] theorem filter_setSession (s : State) (i : SessionId) (x : Option Session) (q : PairId) :
    (s.setSession i x).filter q = s.filter q := rfl
@[simp] theorem poller_setSession (s : State) (i : SessionId) (x : Option Session) (q : PairId) :
    (s.setSession i x).poller q = s.poller q := rfl
@[simp] theorem ballReturn_setSession (s : State) (i : SessionId) (x : Option Session) (q : PairId) :
    (s.setSession i x).ballReturn q = s.ballReturn q := rfl
@[simp] theorem node_setSession (s : State) (i : SessionId) (x : Option Session) (q : PairId) (b : NodeAddr) :
    (s.setSession i x).node q b = s.node q b := rfl

@[simp] theorem pending_modSession (s : State) (i : SessionId) (f : Session → Session) :
    (s.modSession i f).pending = s.pending := rfl
@[simp] theorem deviceTime_modSession (s : State) (i : SessionId) (f : Session → Session) :
    (s.modSession i f).deviceTime = s.deviceTime := rfl
@[simp] theorem device_modSession (s : State) (i : SessionId) (f : Session → Session) :
    (s.modSession i f).device = s.device := rfl
@[simp] theorem laneMapLoaded_modSession (s : State) (i : SessionId) (f : Session → Session) :
    (s.modSession i f).laneMapLoaded = s.laneMapLoaded := rfl
@[simp] theorem trunk_modSession (s : State) (i : SessionId) (f : Session → Session) :
    (s.modSession i f).trunk = s.trunk := rfl
@[simp] theorem priorities_modSession (s : State) (i : SessionId) (f : Session → Session) :
    (s.modSession i f).priorities = s.priorities := rfl
@[simp] theorem defaults_modSession (s : State) (i : SessionId) (f : Session → Session) :
    (s.modSession i f).defaults = s.defaults := rfl
@[simp] theorem profiles_modSession (s : State) (i : SessionId) (f : Session → Session) :
    (s.modSession i f).profiles = s.profiles := rfl
@[simp] theorem faultTable_modSession (s : State) (i : SessionId) (f : Session → Session) :
    (s.modSession i f).faultTable = s.faultTable := rfl
@[simp] theorem clock_modSession (s : State) (i : SessionId) (f : Session → Session) :
    (s.modSession i f).clock = s.clock := rfl
@[simp] theorem tariff_modSession (s : State) (i : SessionId) (f : Session → Session) :
    (s.modSession i f).tariff = s.tariff := rfl
@[simp] theorem charges_modSession (s : State) (i : SessionId) (f : Session → Session) :
    (s.modSession i f).charges = s.charges := rfl
@[simp] theorem notices_modSession (s : State) (i : SessionId) (f : Session → Session) :
    (s.modSession i f).notices = s.notices := rfl
@[simp] theorem lanes_modSession (s : State) (i : SessionId) (f : Session → Session) :
    (s.modSession i f).lanes = s.lanes := rfl
@[simp] theorem pairs_modSession (s : State) (i : SessionId) (f : Session → Session) :
    (s.modSession i f).pairs = s.pairs := rfl
@[simp] theorem lane_modSession (s : State) (i : SessionId) (f : Session → Session) (k : LaneId) :
    (s.modSession i f).lane k = s.lane k := rfl
@[simp] theorem entry_modSession (s : State) (i : SessionId) (f : Session → Session) (k : LaneId) :
    (s.modSession i f).entry k = s.entry k := rfl
@[simp] theorem tracker_modSession (s : State) (i : SessionId) (f : Session → Session) (k : LaneId) :
    (s.modSession i f).tracker k = s.tracker k := rfl
@[simp] theorem supervisor_modSession (s : State) (i : SessionId) (f : Session → Session) (k : LaneId) :
    (s.modSession i f).supervisor k = s.supervisor k := rfl
@[simp] theorem meter_modSession (s : State) (i : SessionId) (f : Session → Session) (k : LaneId) :
    (s.modSession i f).meter k = s.meter k := rfl
@[simp] theorem pair_modSession (s : State) (i : SessionId) (f : Session → Session) (q : PairId) :
    (s.modSession i f).pair q = s.pair q := rfl
@[simp] theorem filter_modSession (s : State) (i : SessionId) (f : Session → Session) (q : PairId) :
    (s.modSession i f).filter q = s.filter q := rfl
@[simp] theorem poller_modSession (s : State) (i : SessionId) (f : Session → Session) (q : PairId) :
    (s.modSession i f).poller q = s.poller q := rfl
@[simp] theorem ballReturn_modSession (s : State) (i : SessionId) (f : Session → Session) (q : PairId) :
    (s.modSession i f).ballReturn q = s.ballReturn q := rfl
@[simp] theorem node_modSession (s : State) (i : SessionId) (f : Session → Session) (q : PairId) (b : NodeAddr) :
    (s.modSession i f).node q b = s.node q b := rfl

/-! ## Notices raised -/

@[simp] theorem pending_raiseWith (s : State) (n : Nat) (x : NoticePayload) (w : Nat) :
    (s.raiseWith n x w).pending = s.pending := rfl
@[simp] theorem deviceTime_raiseWith (s : State) (n : Nat) (x : NoticePayload) (w : Nat) :
    (s.raiseWith n x w).deviceTime = s.deviceTime := rfl
@[simp] theorem device_raiseWith (s : State) (n : Nat) (x : NoticePayload) (w : Nat) :
    (s.raiseWith n x w).device = s.device := rfl
@[simp] theorem laneMapLoaded_raiseWith (s : State) (n : Nat) (x : NoticePayload) (w : Nat) :
    (s.raiseWith n x w).laneMapLoaded = s.laneMapLoaded := rfl
@[simp] theorem trunk_raiseWith (s : State) (n : Nat) (x : NoticePayload) (w : Nat) :
    (s.raiseWith n x w).trunk = s.trunk := rfl
@[simp] theorem priorities_raiseWith (s : State) (n : Nat) (x : NoticePayload) (w : Nat) :
    (s.raiseWith n x w).priorities = s.priorities := rfl
@[simp] theorem defaults_raiseWith (s : State) (n : Nat) (x : NoticePayload) (w : Nat) :
    (s.raiseWith n x w).defaults = s.defaults := rfl
@[simp] theorem profiles_raiseWith (s : State) (n : Nat) (x : NoticePayload) (w : Nat) :
    (s.raiseWith n x w).profiles = s.profiles := rfl
@[simp] theorem faultTable_raiseWith (s : State) (n : Nat) (x : NoticePayload) (w : Nat) :
    (s.raiseWith n x w).faultTable = s.faultTable := rfl
@[simp] theorem clock_raiseWith (s : State) (n : Nat) (x : NoticePayload) (w : Nat) :
    (s.raiseWith n x w).clock = s.clock := rfl
@[simp] theorem tariff_raiseWith (s : State) (n : Nat) (x : NoticePayload) (w : Nat) :
    (s.raiseWith n x w).tariff = s.tariff := rfl
@[simp] theorem charges_raiseWith (s : State) (n : Nat) (x : NoticePayload) (w : Nat) :
    (s.raiseWith n x w).charges = s.charges := rfl
@[simp] theorem sessions_raiseWith (s : State) (n : Nat) (x : NoticePayload) (w : Nat) :
    (s.raiseWith n x w).sessions = s.sessions := rfl
@[simp] theorem lanes_raiseWith (s : State) (n : Nat) (x : NoticePayload) (w : Nat) :
    (s.raiseWith n x w).lanes = s.lanes := rfl
@[simp] theorem pairs_raiseWith (s : State) (n : Nat) (x : NoticePayload) (w : Nat) :
    (s.raiseWith n x w).pairs = s.pairs := rfl
@[simp] theorem lane_raiseWith (s : State) (n : Nat) (x : NoticePayload) (w : Nat) (k : LaneId) :
    (s.raiseWith n x w).lane k = s.lane k := rfl
@[simp] theorem entry_raiseWith (s : State) (n : Nat) (x : NoticePayload) (w : Nat) (k : LaneId) :
    (s.raiseWith n x w).entry k = s.entry k := rfl
@[simp] theorem tracker_raiseWith (s : State) (n : Nat) (x : NoticePayload) (w : Nat) (k : LaneId) :
    (s.raiseWith n x w).tracker k = s.tracker k := rfl
@[simp] theorem supervisor_raiseWith (s : State) (n : Nat) (x : NoticePayload) (w : Nat) (k : LaneId) :
    (s.raiseWith n x w).supervisor k = s.supervisor k := rfl
@[simp] theorem meter_raiseWith (s : State) (n : Nat) (x : NoticePayload) (w : Nat) (k : LaneId) :
    (s.raiseWith n x w).meter k = s.meter k := rfl
@[simp] theorem pair_raiseWith (s : State) (n : Nat) (x : NoticePayload) (w : Nat) (q : PairId) :
    (s.raiseWith n x w).pair q = s.pair q := rfl
@[simp] theorem filter_raiseWith (s : State) (n : Nat) (x : NoticePayload) (w : Nat) (q : PairId) :
    (s.raiseWith n x w).filter q = s.filter q := rfl
@[simp] theorem poller_raiseWith (s : State) (n : Nat) (x : NoticePayload) (w : Nat) (q : PairId) :
    (s.raiseWith n x w).poller q = s.poller q := rfl
@[simp] theorem ballReturn_raiseWith (s : State) (n : Nat) (x : NoticePayload) (w : Nat) (q : PairId) :
    (s.raiseWith n x w).ballReturn q = s.ballReturn q := rfl
@[simp] theorem node_raiseWith (s : State) (n : Nat) (x : NoticePayload) (w : Nat) (q : PairId) (b : NodeAddr) :
    (s.raiseWith n x w).node q b = s.node q b := rfl
@[simp] theorem session_raiseWith (s : State) (n : Nat) (x : NoticePayload) (w : Nat) (j : SessionId) :
    (s.raiseWith n x w).session j = s.session j := rfl

@[simp] theorem pending_raise (s : State) (n : Nat) (x : NoticePayload) :
    (s.raise n x).pending = s.pending := rfl
@[simp] theorem deviceTime_raise (s : State) (n : Nat) (x : NoticePayload) :
    (s.raise n x).deviceTime = s.deviceTime := rfl
@[simp] theorem device_raise (s : State) (n : Nat) (x : NoticePayload) :
    (s.raise n x).device = s.device := rfl
@[simp] theorem laneMapLoaded_raise (s : State) (n : Nat) (x : NoticePayload) :
    (s.raise n x).laneMapLoaded = s.laneMapLoaded := rfl
@[simp] theorem trunk_raise (s : State) (n : Nat) (x : NoticePayload) :
    (s.raise n x).trunk = s.trunk := rfl
@[simp] theorem priorities_raise (s : State) (n : Nat) (x : NoticePayload) :
    (s.raise n x).priorities = s.priorities := rfl
@[simp] theorem defaults_raise (s : State) (n : Nat) (x : NoticePayload) :
    (s.raise n x).defaults = s.defaults := rfl
@[simp] theorem profiles_raise (s : State) (n : Nat) (x : NoticePayload) :
    (s.raise n x).profiles = s.profiles := rfl
@[simp] theorem faultTable_raise (s : State) (n : Nat) (x : NoticePayload) :
    (s.raise n x).faultTable = s.faultTable := rfl
@[simp] theorem clock_raise (s : State) (n : Nat) (x : NoticePayload) :
    (s.raise n x).clock = s.clock := rfl
@[simp] theorem tariff_raise (s : State) (n : Nat) (x : NoticePayload) :
    (s.raise n x).tariff = s.tariff := rfl
@[simp] theorem charges_raise (s : State) (n : Nat) (x : NoticePayload) :
    (s.raise n x).charges = s.charges := rfl
@[simp] theorem sessions_raise (s : State) (n : Nat) (x : NoticePayload) :
    (s.raise n x).sessions = s.sessions := rfl
@[simp] theorem lanes_raise (s : State) (n : Nat) (x : NoticePayload) :
    (s.raise n x).lanes = s.lanes := rfl
@[simp] theorem pairs_raise (s : State) (n : Nat) (x : NoticePayload) :
    (s.raise n x).pairs = s.pairs := rfl
@[simp] theorem lane_raise (s : State) (n : Nat) (x : NoticePayload) (k : LaneId) :
    (s.raise n x).lane k = s.lane k := rfl
@[simp] theorem entry_raise (s : State) (n : Nat) (x : NoticePayload) (k : LaneId) :
    (s.raise n x).entry k = s.entry k := rfl
@[simp] theorem tracker_raise (s : State) (n : Nat) (x : NoticePayload) (k : LaneId) :
    (s.raise n x).tracker k = s.tracker k := rfl
@[simp] theorem supervisor_raise (s : State) (n : Nat) (x : NoticePayload) (k : LaneId) :
    (s.raise n x).supervisor k = s.supervisor k := rfl
@[simp] theorem meter_raise (s : State) (n : Nat) (x : NoticePayload) (k : LaneId) :
    (s.raise n x).meter k = s.meter k := rfl
@[simp] theorem pair_raise (s : State) (n : Nat) (x : NoticePayload) (q : PairId) :
    (s.raise n x).pair q = s.pair q := rfl
@[simp] theorem filter_raise (s : State) (n : Nat) (x : NoticePayload) (q : PairId) :
    (s.raise n x).filter q = s.filter q := rfl
@[simp] theorem poller_raise (s : State) (n : Nat) (x : NoticePayload) (q : PairId) :
    (s.raise n x).poller q = s.poller q := rfl
@[simp] theorem ballReturn_raise (s : State) (n : Nat) (x : NoticePayload) (q : PairId) :
    (s.raise n x).ballReturn q = s.ballReturn q := rfl
@[simp] theorem node_raise (s : State) (n : Nat) (x : NoticePayload) (q : PairId) (b : NodeAddr) :
    (s.raise n x).node q b = s.node q b := rfl
@[simp] theorem session_raise (s : State) (n : Nat) (x : NoticePayload) (j : SessionId) :
    (s.raise n x).session j = s.session j := rfl

end Sys2Proof.Machine
end

