-- ==== Sys2Proof/Laws/Arming.lean ====
section
/-! SUPPORT. What the arming checks of a lane and of a pair can do (R90, R91), and that a change of a
return with what follows from it is `ReturnAlone` (R130, R133). -/

namespace Sys2Proof.Machine

open Sys2Proof

/-! ## Replacing a record by itself -/

@[simp] theorem setLane_lane (s : State) (l : LaneId) : s.setLane l (s.lane l) = s := by
  simp [State.setLane, State.lane]

@[simp] theorem modTracker_tracker (s : State) (l : LaneId) :
    (s.modTracker l fun _ => s.tracker l) = s := setLane_lane s l

theorem lane_modTracker (s : State) (l k : LaneId) (f : Tracker → Tracker) :
    (s.modTracker l f).lane k =
      if k = l then { s.lane k with tracker := f (s.tracker k) } else s.lane k := by
  simp only [State.modTracker, lane_setLane]
  split
  · next h => subst h; rfl
  · rfl

theorem pair_modReturn (s : State) (p q : PairId) (f : BallReturn → BallReturn) :
    (s.modReturn p f).pair q =
      if q = p then { s.pair p with ballReturn := f (s.ballReturn p) } else s.pair q := by
  simp only [State.modReturn, pair_setPair]

/-- Two changes of a return are one. -/
theorem modReturn_modReturn (s : State) (p : PairId) (f g : BallReturn → BallReturn) :
    (s.modReturn p f).modReturn p g = s.modReturn p fun r => g (f r) := by
  simp [State.modReturn, State.setPair, State.ballReturn, State.pair]

/-! ## The arming check (R90) -/

/-- The arming check re-arms the lane's tracker and does nothing else. -/
theorem armingCheck_spec (s : State) (l : LaneId) :
    ∃ x, Rearmed (s.tracker l) x ∧ s.armingCheck l = s.modTracker l fun _ => x := by
  have self : s = s.modTracker l fun _ => s.tracker l := (modTracker_tracker s l).symm
  unfold State.armingCheck
  split
  · next h =>
    split
    · exact ⟨_, .inr (.inl ⟨h, rfl⟩), rfl⟩
    · exact ⟨_, .inl rfl, self⟩
  · next h =>
    split
    · exact ⟨_, .inl rfl, self⟩
    · exact ⟨_, .inr (.inr ⟨h, rfl⟩), rfl⟩
  all_goals exact ⟨_, .inl rfl, self⟩

/-- The arming checks of a pair re-arm the trackers of its two lanes and do nothing else. -/
theorem armPair_spec (s : State) (p : PairId) :
    s.armPair p = { s with lanes := (s.armPair p).lanes } ∧
    (∀ k, (s.armPair p).lane k = { s.lane k with tracker := (s.armPair p).tracker k }) ∧
    (∀ k, (s.armPair p).tracker k = s.tracker k ∨
      pairOf k = p ∧ Rearmed (s.tracker k) ((s.armPair p).tracker k)) := by
  unfold State.armPair
  obtain ⟨x, hx, h1⟩ := armingCheck_spec s (laneAt p .left)
  rw [h1]
  obtain ⟨y, hy, h2⟩ := armingCheck_spec (s.modTracker (laneAt p .left) fun _ => x) (laneAt p .right)
  rw [h2]
  have ne : laneAt p .right ≠ laneAt p .left := by simp
  simp only [tracker_modTracker, if_neg ne] at hy
  refine ⟨rfl, fun k => ?_, fun k => ?_⟩
  · simp only [lane_modTracker, tracker_modTracker]
    split <;> split <;> rfl
  · simp only [tracker_modTracker]
    split
    · next h => subst h; exact .inr ⟨by simp, hy⟩
    · split
      · next h => subst h; exact .inr ⟨by simp, hx⟩
      · exact .inl rfl

/-! ## A change of a return (R130, R133) -/

theorem tellFlags_notices (s : State) (p : PairId) (b : BallReturn) :
    s.tellFlags p b = { s with notices := (s.tellFlags p b).notices } := by
  unfold State.tellFlags
  split <;> rfl

/-- A return changed, RETURN_STATE told, and the pair's lanes armed afresh. -/
theorem returnChanged_spec (s : State) (p : PairId) (f : BallReturn → BallReturn) (b : BallReturn) :
    let t := (s.modReturn p f).returnChanged p b
    ReturnAlone p s t ∧ t.ballReturn p = f (s.ballReturn p) := by
  unfold State.returnChanged
  obtain ⟨h1, h2, h3⟩ := armPair_spec ((s.modReturn p f).tellFlags p b) p
  have e := tellFlags_notices (s.modReturn p f) p b
  generalize (s.modReturn p f).tellFlags p b = u at *
  have pairs : ∀ q, (u.armPair p).pair q = (s.modReturn p f).pair q := fun q => by rw [h1, e]; rfl
  have lanes : ∀ k, u.lane k = s.lane k := fun k => by rw [e]; rfl
  have trackers : ∀ k, u.tracker k = s.tracker k := fun k => by rw [e]; rfl
  have new : (u.armPair p).ballReturn p = f (s.ballReturn p) := by
    show ((u.armPair p).pair p).ballReturn = _
    rw [pairs, pair_modReturn, if_pos rfl]
  refine ⟨⟨?_, fun q => ?_, fun k => ?_, fun k => ?_⟩, new⟩
  · rw [h1, e]; rfl
  · rw [pairs, pair_modReturn, new]
  · rw [h2, lanes]
  · rw [← trackers]; exact h3 k

/-- R128: a watch decided with no removal is `WatchDecided`. -/
theorem nextWatch_decided (s : State) (p : PairId) :
    let r := s.ballReturn p
    WatchDecided s.deviceTime ((s.node p laneIoAddr).state = .alive) r
      (nextWatch (s.jamWatchMayRun p) false r.watchExpired s.deviceTime r.jamSeconds r.watch) := by
  have may : s.jamWatchMayRun p = true ↔ ((s.ballReturn p).track ≠ [] ∧
      (s.ballReturn p).liftOn = true ∧ (s.ballReturn p).rackFull = false ∧
      (s.node p laneIoAddr).state = .alive) ∧ (s.ballReturn p).watchExpired = false := by
    simp [State.jamWatchMayRun, and_assoc]
  refine ⟨fun h => by simp [nextWatch, h], fun h m => ?_, fun h m => ?_⟩
  · rw [may.mpr ⟨m, h⟩, h]
    cases (s.ballReturn p).watch <;> rfl
  · rw [Bool.eq_false_iff.mpr fun x => m (may.mp x).1, h]
    cases (s.ballReturn p).watch <;> rfl

end Sys2Proof.Machine
end

