-- ==== Sys2Proof/Laws/Kept.lean ====
section
/-! SUPPORT. What every operation inside the LC32 keeps: the trunk, the device state, the clock and
the loaded tables stand, the bounded stores stay bounded, and the pending notice set keeps one entry
per source and kind. Here the relation and its cases for the named updates; `Laws/KeptOps.lean` has
one lemma for each operation. -/

namespace Sys2Proof.Machine

open Sys2Proof

/-! ## The pending notice set (R178) -/

theorem satAdd_le (top n k : Nat) : satAdd top n k ≤ top := Nat.min_le_left _ _

/-- A raise keeps the merge counts in their range. -/
theorem merges_addNotice (n : Nat) (x : NoticePayload) (w : Nat) (ns : List Notice)
    (h : ∀ m ∈ ns, 1 ≤ m.merges ∧ m.merges ≤ 255) :
    ∀ m ∈ addNotice n x w ns, 1 ≤ m.merges ∧ m.merges ≤ 255 := by
  induction ns with
  | nil =>
    intro m hm
    simp only [addNotice, List.mem_singleton] at hm
    subst hm; simp
  | cons a ns ih =>
    intro m hm
    simp only [addNotice] at hm
    have ha := h a (List.mem_cons_self ..)
    have hns := fun y hy => h y (List.mem_cons_of_mem _ hy)
    split at hm
    · rcases List.mem_cons.1 hm with rfl | hm
      · simp only [mergeNotice, satAdd]; omega
      · exact hns m hm
    · rcases List.mem_cons.1 hm with rfl | hm
      · exact ha
      · exact ih hns m hm

/-- The sources and kinds after a raise: those before, and the raised one at the end where it is
new. -/
theorem keys_addNotice (n : Nat) (x : NoticePayload) (w : Nat) (ns : List Notice) :
    (addNotice n x w ns).map (fun m => (m.source, payloadKind m.payload)) =
      if (n, payloadKind x) ∈ ns.map (fun m => (m.source, payloadKind m.payload)) then
        ns.map (fun m => (m.source, payloadKind m.payload))
      else ns.map (fun m => (m.source, payloadKind m.payload)) ++ [(n, payloadKind x)] := by
  induction ns with
  | nil => simp [addNotice]
  | cons a ns ih =>
    have hs : sameNotice n x a = true ↔ (n, payloadKind x) = (a.source, payloadKind a.payload) := by
      simp only [sameNotice, Bool.and_eq_true, beq_iff_eq, Prod.mk.injEq]
      exact and_congr eq_comm eq_comm
    simp only [addNotice, List.map_cons, List.mem_cons, ← hs]
    by_cases h : sameNotice n x a = true
    · have hk := hs.1 h
      rw [if_pos h, if_pos (Or.inl h), List.map_cons, ← hk]
      simp only [mergeNotice, ← (Prod.mk.inj hk).1]
    · rw [if_neg h, List.map_cons, ih]
      simp only [h, Bool.false_eq_true, false_or]
      split <;> rfl

/-- A raise keeps the pending notice set to one entry per source and kind. -/
theorem noticesOk_addNotice (n : Nat) (x : NoticePayload) (w : Nat) {ns : List Notice}
    (h : NoticesOk ns) : NoticesOk (addNotice n x w ns) where
  merges := merges_addNotice n x w ns h.merges
  distinct := by
    rw [keys_addNotice]
    split
    · exact h.distinct
    · rename_i hn
      refine List.nodup_append.2 ⟨h.distinct, by simp, fun a ha b hb hab => hn ?_⟩
      rw [List.mem_singleton] at hb
      rwa [← hb, ← hab]

/-- What an operation that answers `t` from `s` keeps. -/
structure Kept (s t : State) : Prop where
  pending : t.pending = s.pending
  deviceTime : t.deviceTime = s.deviceTime
  device : t.device = s.device
  laneMapLoaded : t.laneMapLoaded = s.laneMapLoaded
  trunk : t.trunk = s.trunk
  priorities : t.priorities = s.priorities
  defaults : t.defaults = s.defaults
  profiles : t.profiles = s.profiles
  faultTable : t.faultTable = s.faultTable
  clock : t.clock = s.clock
  notices : NoticesOk s.notices → NoticesOk t.notices
  stagedDays : t.tariff.stagedDays = s.tariff.stagedDays
  tariff : TariffOk s.tariff → TariffOk t.tariff
  charges : s.charges.lines.length ≤ chargeCapacity → t.charges.lines.length ≤ chargeCapacity
  tracks : ∀ p, (s.ballReturn p).track.length ≤ trackCapacity →
    (t.ballReturn p).track.length ≤ trackCapacity
  frames : ∀ p, (s.poller p).queue.length ≤ displayCapacity →
    (t.poller p).queue.length ≤ displayCapacity
  debounce : ∀ p, (t.filter p).debounce = (s.filter p).debounce
  timeout : ∀ p, (t.poller p).timeout = (s.poller p).timeout
  threshold : ∀ p, (t.poller p).threshold = (s.poller p).threshold
  orders : ∀ p, OrdersOk (s.poller p) → OrdersOk (t.poller p)
  capacity : ∀ p, (t.ballReturn p).capacity = (s.ballReturn p).capacity
  jamSeconds : ∀ p, (t.ballReturn p).jamSeconds = (s.ballReturn p).jamSeconds
  enabled : ∀ l, (t.entry l).enabled = (s.entry l).enabled
  profile : ∀ l, (t.entry l).profile = (s.entry l).profile
  hasConsole : ∀ l, (t.entry l).hasConsole = (s.entry l).hasConsole

namespace Kept

theorem refl (s : State) : Kept s s := by
  constructor <;> first | rfl | exact id | exact fun _ => rfl | exact fun _ => id

theorem trans {s t u : State} (h : Kept s t) (k : Kept t u) : Kept s u where
  pending := k.pending.trans h.pending
  deviceTime := k.deviceTime.trans h.deviceTime
  device := k.device.trans h.device
  laneMapLoaded := k.laneMapLoaded.trans h.laneMapLoaded
  trunk := k.trunk.trans h.trunk
  priorities := k.priorities.trans h.priorities
  defaults := k.defaults.trans h.defaults
  profiles := k.profiles.trans h.profiles
  faultTable := k.faultTable.trans h.faultTable
  clock := k.clock.trans h.clock
  notices := fun x => k.notices (h.notices x)
  stagedDays := k.stagedDays.trans h.stagedDays
  tariff := fun x => k.tariff (h.tariff x)
  charges := fun x => k.charges (h.charges x)
  tracks := fun p x => k.tracks p (h.tracks p x)
  frames := fun p x => k.frames p (h.frames p x)
  debounce := fun p => (k.debounce p).trans (h.debounce p)
  timeout := fun p => (k.timeout p).trans (h.timeout p)
  threshold := fun p => (k.threshold p).trans (h.threshold p)
  orders := fun p x => k.orders p (h.orders p x)
  capacity := fun p => (k.capacity p).trans (h.capacity p)
  jamSeconds := fun p => (k.jamSeconds p).trans (h.jamSeconds p)
  enabled := fun l => (k.enabled l).trans (h.enabled l)
  profile := fun l => (k.profile l).trans (h.profile l)
  hasConsole := fun l => (k.hasConsole l).trans (h.hasConsole l)

/-- The stores stay bounded. -/
theorem stores {s t : State} (h : Kept s t) (k : StoresOk s) : StoresOk t where
  days := by rw [h.stagedDays]; exact k.days
  charges := h.charges k.charges
  tracks := fun p => h.tracks p (k.tracks p)
  frames := fun p => h.frames p (k.frames p)

/-- The loaded tables stay in range. -/
theorem settings {s t : State} (h : Kept s t) (k : SettingsOk s) : SettingsOk t where
  profiles := by rw [h.profiles]; exact k.profiles
  debounce := fun p => by rw [h.debounce]; exact k.debounce p
  timeout := fun p => by rw [h.timeout]; exact k.timeout p
  threshold := fun p => by rw [h.threshold]; exact k.threshold p
  capacity := fun p => by rw [h.capacity]; exact k.capacity p
  jamSeconds := fun p => by rw [h.jamSeconds]; exact k.jamSeconds p
  faultPriority := by rw [h.faultTable]; exact k.faultPriority
  noticePriority := by rw [h.priorities]; exact k.noticePriority
  defaults := by rw [h.defaults]; exact k.defaults
  orders := fun p => h.orders p (k.orders p)
  tariff := h.tariff k.tariff

/-- A safe state stays safe. -/
theorem safe {s t : State} (h : Kept s t) (k : Safe s) : Safe t where
  notices := h.notices k.notices
  queue := by rw [h.trunk]; exact k.queue
  stores := h.stores k.stores
  settings := h.settings k.settings
  calendar := by rw [h.clock]; exact k.calendar

variable {s u : State}

/-! ## Notices -/

theorem raiseWith (h : Kept s u) (n : Nat) (x : NoticePayload) (w : Nat) :
    Kept s (u.raiseWith n x w) :=
  { h with notices := fun k => noticesOk_addNotice n x w (h.notices k) }

theorem raise (h : Kept s u) (n : Nat) (x : NoticePayload) : Kept s (u.raise n x) :=
  h.raiseWith n x _

/-! ## Updates -/

theorem modEntry (h : Kept s u) (l : LaneId) {f : LaneEntry → LaneEntry}
    (hf : ∀ e, (f e).enabled = e.enabled ∧ (f e).profile = e.profile ∧
      (f e).hasConsole = e.hasConsole) : Kept s (u.modEntry l f) :=
  { h with
    enabled := fun k => by
      rw [entry_modEntry]; split
      · rw [(hf _).1]; exact h.enabled k
      · exact h.enabled k
    profile := fun k => by
      rw [entry_modEntry]; split
      · rw [(hf _).2.1]; exact h.profile k
      · exact h.profile k
    hasConsole := fun k => by
      rw [entry_modEntry]; split
      · rw [(hf _).2.2]; exact h.hasConsole k
      · exact h.hasConsole k }

theorem modTracker (h : Kept s u) (l : LaneId) (f : Tracker → Tracker) :
    Kept s (u.modTracker l f) :=
  { h with
    enabled := fun k => by rw [entry_modTracker]; exact h.enabled k
    profile := fun k => by rw [entry_modTracker]; exact h.profile k
    hasConsole := fun k => by rw [entry_modTracker]; exact h.hasConsole k }

theorem modSupervisor (h : Kept s u) (l : LaneId) (f : Supervisor → Supervisor) :
    Kept s (u.modSupervisor l f) :=
  { h with
    enabled := fun k => by rw [entry_modSupervisor]; exact h.enabled k
    profile := fun k => by rw [entry_modSupervisor]; exact h.profile k
    hasConsole := fun k => by rw [entry_modSupervisor]; exact h.hasConsole k }

theorem modMeter (h : Kept s u) (l : LaneId) (f : Meter → Meter) : Kept s (u.modMeter l f) :=
  { h with
    enabled := fun k => by rw [entry_modMeter]; exact h.enabled k
    profile := fun k => by rw [entry_modMeter]; exact h.profile k
    hasConsole := fun k => by rw [entry_modMeter]; exact h.hasConsole k }

theorem setLaneFaults (h : Kept s u) (l : LaneId) (fs : List FaultEntry) :
    Kept s (u.setLaneFaults l fs) :=
  { h with
    enabled := fun k => by rw [entry_setLaneFaults]; exact h.enabled k
    profile := fun k => by rw [entry_setLaneFaults]; exact h.profile k
    hasConsole := fun k => by rw [entry_setLaneFaults]; exact h.hasConsole k }

theorem modFilter (h : Kept s u) (p : PairId) {f : Filter → Filter}
    (hf : (f (u.filter p)).debounce = (u.filter p).debounce) : Kept s (u.modFilter p f) :=
  { h with
    tracks := fun q x => by rw [ballReturn_modFilter]; exact h.tracks q x
    frames := fun q x => by rw [poller_modFilter]; exact h.frames q x
    debounce := fun q => by
      rw [filter_modFilter]; split
      · next e => subst e; exact hf.trans (h.debounce _)
      · exact h.debounce q
    timeout := fun q => by rw [poller_modFilter]; exact h.timeout q
    threshold := fun q => by rw [poller_modFilter]; exact h.threshold q
    orders := fun q x => by rw [poller_modFilter]; exact h.orders q x
    capacity := fun q => by rw [ballReturn_modFilter]; exact h.capacity q
    jamSeconds := fun q => by rw [ballReturn_modFilter]; exact h.jamSeconds q }

theorem modPoller (h : Kept s u) (p : PairId) {f : Poller → Poller}
    (hf : (f (u.poller p)).timeout = (u.poller p).timeout ∧
      (f (u.poller p)).threshold = (u.poller p).threshold ∧
      ((u.poller p).queue.length ≤ displayCapacity →
        (f (u.poller p)).queue.length ≤ displayCapacity) ∧
      (OrdersOk (u.poller p) → OrdersOk (f (u.poller p)))) :
    Kept s (u.modPoller p f) :=
  { h with
    tracks := fun q x => by rw [ballReturn_modPoller]; exact h.tracks q x
    frames := fun q x => by
      rw [poller_modPoller]; split
      · next e => subst e; exact hf.2.2.1 (h.frames _ x)
      · exact h.frames q x
    debounce := fun q => by rw [filter_modPoller]; exact h.debounce q
    timeout := fun q => by
      rw [poller_modPoller]; split
      · next e => subst e; exact hf.1.trans (h.timeout _)
      · exact h.timeout q
    threshold := fun q => by
      rw [poller_modPoller]; split
      · next e => subst e; exact hf.2.1.trans (h.threshold _)
      · exact h.threshold q
    orders := fun q x => by
      rw [poller_modPoller]; split
      · next e => subst e; exact hf.2.2.2 (h.orders _ x)
      · exact h.orders q x
    capacity := fun q => by rw [ballReturn_modPoller]; exact h.capacity q
    jamSeconds := fun q => by rw [ballReturn_modPoller]; exact h.jamSeconds q }

theorem modNode (h : Kept s u) (p : PairId) (a : NodeAddr) (f : Node → Node) :
    Kept s (u.modNode p a f) :=
  h.modPoller p ⟨rfl, rfl, id, fun k => ⟨k.order, k.pendingOrder, k.current⟩⟩

theorem modReturn (h : Kept s u) (p : PairId) {f : BallReturn → BallReturn}
    (hf : (f (u.ballReturn p)).capacity = (u.ballReturn p).capacity ∧
      (f (u.ballReturn p)).jamSeconds = (u.ballReturn p).jamSeconds ∧
      ((u.ballReturn p).track.length ≤ trackCapacity →
        (f (u.ballReturn p)).track.length ≤ trackCapacity)) :
    Kept s (u.modReturn p f) :=
  { h with
    tracks := fun q x => by
      rw [ballReturn_modReturn]; split
      · next e => subst e; exact hf.2.2 (h.tracks _ x)
      · exact h.tracks q x
    frames := fun q x => by rw [poller_modReturn]; exact h.frames q x
    debounce := fun q => by rw [filter_modReturn]; exact h.debounce q
    timeout := fun q => by rw [poller_modReturn]; exact h.timeout q
    threshold := fun q => by rw [poller_modReturn]; exact h.threshold q
    orders := fun q x => by rw [poller_modReturn]; exact h.orders q x
    capacity := fun q => by
      rw [ballReturn_modReturn]; split
      · next e => subst e; exact hf.1.trans (h.capacity _)
      · exact h.capacity q
    jamSeconds := fun q => by
      rw [ballReturn_modReturn]; split
      · next e => subst e; exact hf.2.1.trans (h.jamSeconds _)
      · exact h.jamSeconds q }

theorem setPairFaults (h : Kept s u) (p : PairId) (fs : List FaultEntry) :
    Kept s (u.setPairFaults p fs) :=
  { h with
    tracks := fun q x => by rw [ballReturn_setPairFaults]; exact h.tracks q x
    frames := fun q x => by rw [poller_setPairFaults]; exact h.frames q x
    debounce := fun q => by rw [filter_setPairFaults]; exact h.debounce q
    timeout := fun q => by rw [poller_setPairFaults]; exact h.timeout q
    threshold := fun q => by rw [poller_setPairFaults]; exact h.threshold q
    orders := fun q x => by rw [poller_setPairFaults]; exact h.orders q x
    capacity := fun q => by rw [ballReturn_setPairFaults]; exact h.capacity q
    jamSeconds := fun q => by rw [ballReturn_setPairFaults]; exact h.jamSeconds q }

theorem setSession (h : Kept s u) (i : SessionId) (x : Option Session) :
    Kept s (u.setSession i x) := { h with }

theorem modSession (h : Kept s u) (i : SessionId) (f : Session → Session) :
    Kept s (u.modSession i f) := { h with }

theorem setTariff (h : Kept s u) (t : Tariff) (ht : t.stagedDays = u.tariff.stagedDays)
    (ok : TariffOk u.tariff → TariffOk t) : Kept s { u with tariff := t } :=
  { h with stagedDays := ht.trans h.stagedDays, tariff := fun k => ok (h.tariff k) }

/-- The Charge List replaced by one no longer than its capacity. -/
theorem setCharges (h : Kept s u) (c : ChargeList) (hc : c.lines.length ≤ chargeCapacity) :
    Kept s { u with charges := c } := { h with charges := fun _ => hc }

/-- A fold of an operation over a list. -/
theorem foldl {α : Type} {f : State → α → State} (hf : ∀ v x, Kept s v → Kept s (f v x))
    (xs : List α) : ∀ {u : State}, Kept s u → Kept s (xs.foldl f u) := by
  induction xs with
  | nil => intro u h; exact h
  | cons x xs ih => intro u h; exact ih (hf u x h)

end Kept

end Sys2Proof.Machine
end

