-- ==== Sys2Proof/Laws/Filter.lean ====
section
/-! SUPPORT. Taking an answer of a lane I/O node leaves the debounce times of the filter (R64 to R68),
and the track and display queue operations leave their lists within the capacity (R122, R172). -/

namespace Sys2Proof.Machine

open Sys2Proof

@[simp] theorem debounce_setDetector (f : Filter) (d : Detector) (x : DetectorState) :
    (f.setDetector d x).debounce = f.debounce := by cases d <;> rfl

@[simp] theorem debounce_clearBlocked (d : Detector) (x : DetectorState) (k : Taking) :
    (clearBlocked d x k).filter.debounce = k.filter.debounce := by
  simp only [clearBlocked]; split <;> simp

@[simp] theorem debounce_testBlocked (d : Detector) (t : NodeTime) (k : Taking) :
    (testBlocked d t k).filter.debounce = k.filter.debounce := by
  simp only [testBlocked]; repeat' split
  all_goals simp

@[simp] theorem debounce_settleWait (d : Detector) (t : NodeTime) (k : Taking) :
    (settleWait d t k).filter.debounce = k.filter.debounce := by
  simp only [settleWait]; repeat' split
  all_goals simp

@[simp] theorem debounce_takeEdge (d : Detector) (b : Bool) (t : NodeTime) (k : Taking) :
    (takeEdge d b t k).filter.debounce = k.filter.debounce := by
  simp [takeEdge]

@[simp] theorem debounce_takeTransition (k : Taking) (x : Transition) :
    (takeTransition k x).filter.debounce = k.filter.debounce := by
  simp only [takeTransition]; repeat' split
  all_goals simp

@[simp] theorem debounce_applyNodeNow (now : NodeTime) (levels : Byte) (k : Taking) (d : Detector) :
    (applyNodeNow now levels k d).filter.debounce = k.filter.debounce := by
  simp only [applyNodeNow]; split <;> simp

@[simp] theorem debounce_reinitDetector (now : NodeTime) (levels : Byte) (k : Taking)
    (d : Detector) : (reinitDetector now levels k d).filter.debounce = k.filter.debounce := by
  simp only [reinitDetector]; repeat' split
  all_goals simp

/-- A fold of steps that each leave the debounce times leaves them. -/
theorem debounce_foldl {α : Type} {f : Taking → α → Taking}
    (hf : ∀ k x, (f k x).filter.debounce = k.filter.debounce) (xs : List α) :
    ∀ k : Taking, (xs.foldl f k).filter.debounce = k.filter.debounce := by
  induction xs with
  | nil => intro k; rfl
  | cons x xs ih => intro k; rw [List.foldl_cons, ih, hf]

theorem debounce_takeAnswerTimes (f : Filter) (now : NodeTime) (levels : Byte)
    (ts : List Transition) : (takeAnswerTimes f now levels ts).filter.debounce = f.debounce := by
  simp only [takeAnswerTimes]
  rw [debounce_foldl (debounce_applyNodeNow now levels), debounce_foldl debounce_takeTransition]

theorem debounce_reinitFilter (f : Filter) (now : NodeTime) (levels : Byte)
    (ts : List Transition) : (reinitFilter f now levels ts).filter.debounce = f.debounce := by
  simp only [reinitFilter]
  rw [debounce_foldl (debounce_reinitDetector now levels)]

/-- R172: taking a console's oldest frame shortens the queue. -/
theorem length_takeFrame (d : Side) (fs : List DisplayFrame) {x : List Byte}
    {rest : List DisplayFrame} (h : takeFrame d fs = some (x, rest)) :
    rest.length ≤ fs.length := by
  induction fs generalizing rest with
  | nil => simp [takeFrame] at h
  | cons f fs ih =>
    simp only [takeFrame] at h
    split at h
    · simp only [Option.some.injEq, Prod.mk.injEq] at h
      simp [← h.2]
    · obtain ⟨⟨y, r⟩, hy, he⟩ := Option.map_eq_some_iff.1 h
      simp only [Prod.mk.injEq] at he
      have := ih (rest := r) (by rw [hy, he.1])
      simp only [← he.2, List.length_cons]; omega

/-- R164, R173: the list that a new round takes up holds 1 to 12 addresses. -/
theorem OrdersOk.taken {q : Poller} (h : OrdersOk q) :
    1 ≤ (q.pendingOrder.getD q.order).length ∧ (q.pendingOrder.getD q.order).length ≤ 12 := by
  cases e : q.pendingOrder with
  | none => exact h.order
  | some o => exact h.pendingOrder o e

/-- R165: the advance of a poller leaves its times and its queue, and the current slot one of the list
in force. -/
theorem advance_keeps (q : Poller) :
    (advance q).timeout = q.timeout ∧ (advance q).threshold = q.threshold ∧
      (q.queue.length ≤ displayCapacity → (advance q).queue.length ≤ displayCapacity) ∧
      (OrdersOk q → OrdersOk (advance q)) := by
  unfold advance
  split
  · next hc => exact ⟨rfl, rfl, id, fun k => ⟨k.order, k.pendingOrder, hc⟩⟩
  · exact ⟨rfl, rfl, id, fun k => ⟨k.taken, fun _ e => absurd e (by simp), k.taken.1⟩⟩

/-- R173: a restart of a pair link leaves the answer timeout and the lost threshold, empties the queue,
and makes the first slot current. -/
theorem restartPoller_keeps (q : Poller) :
    (restartPoller q).timeout = q.timeout ∧ (restartPoller q).threshold = q.threshold ∧
      (q.queue.length ≤ displayCapacity → (restartPoller q).queue.length ≤ displayCapacity) ∧
      (OrdersOk q → OrdersOk (restartPoller q)) :=
  ⟨rfl, rfl, fun _ => Nat.zero_le _,
    fun k => ⟨k.taken, fun _ e => absurd e (by simp [restartPoller]), k.taken.1⟩⟩

end Sys2Proof.Machine
end

