-- ==== Sys2Proof/Laws/Detectors.lean ====
section
/-! SUPPORT. What the Detector Filter does with one detector while the others are CLEAR (R64 to R68):
the accessors of a detector's record, the settling of a wait, an edge, and node now. -/

namespace Sys2Proof.Machine

open Sys2Proof

/-! ## The record of a detector -/

@[simp] theorem detector_setDetector (f : Filter) (d e : Detector) (x : DetectorState) :
    (f.setDetector d x).detector e = if e = d then x else f.detector e := by
  cases d <;> cases e <;> rfl

@[simp] theorem setDetector_setDetector (f : Filter) (d : Detector) (x y : DetectorState) :
    (f.setDetector d x).setDetector d y = f.setDetector d y := by cases d <;> rfl

@[simp] theorem setDetector_detector (f : Filter) (d : Detector) :
    f.setDetector d (f.detector d) = f := by cases d <;> rfl

@[simp] theorem detector_mismatches (f : Filter) (d : Detector) (n : Nat) :
    ({ f with mismatches := n } : Filter).detector d = f.detector d := by cases d <;> rfl

@[simp] theorem detector_discarded (f : Filter) (d : Detector) (n : Nat) :
    ({ f with discarded := n } : Filter).detector d = f.detector d := by cases d <;> rfl

/-! ## A detector leaves the others alone -/

theorem detector_testBlocked {d e : Detector} (h : e ≠ d) (t : NodeTime) (k : Taking) :
    (testBlocked d t k).filter.detector e = k.filter.detector e := by
  simp only [testBlocked]
  repeat' split
  all_goals simp [h]

theorem detector_settleWait {d e : Detector} (h : e ≠ d) (t : NodeTime) (k : Taking) :
    (settleWait d t k).filter.detector e = k.filter.detector e := by
  simp only [settleWait, clearBlocked]
  repeat' split
  all_goals simp [h]

theorem detector_takeEdge {d e : Detector} (h : e ≠ d) (dark : Bool) (t : NodeTime) (k : Taking) :
    (takeEdge d dark t k).filter.detector e = k.filter.detector e := by
  simp only [takeEdge]
  rw [detector_testBlocked h]
  simp [h, detector_testBlocked h, detector_settleWait h]

theorem detector_applyNodeNow {d e : Detector} (h : e ≠ d) (now : NodeTime) (levels : Byte)
    (k : Taking) : (applyNodeNow now levels k d).filter.detector e = k.filter.detector e := by
  simp only [applyNodeNow]
  split
  · rw [detector_testBlocked h, detector_settleWait h]
  · rw [detector_takeEdge h, detector_mismatches, detector_testBlocked h, detector_settleWait h]

/-! ## One active detector -/

/-- R67: a CLEAR detector reported clear is left as it is. -/
theorem applyNodeNow_clear {now : NodeTime} {levels : Byte} {k : Taking} {d : Detector}
    (h : (k.filter.detector d).state = .clear) (hl : levelOf levels d = false) :
    applyNodeNow now levels k d = k := by
  cases hb : blockedLimit d <;> simp [applyNodeNow, settleWait, testBlocked, hb, h, impliedDark, hl]

/-- R67: with every detector but one CLEAR and reported clear, node now is applied to that one alone. -/
theorem foldl_applyNodeNow {now : NodeTime} {levels : Byte} {d : Detector} {k : Taking}
    (h : ∀ e, e ≠ d → (k.filter.detector e).state = .clear)
    (hl : ∀ e, e ≠ d → levelOf levels e = false) :
    detectors.foldl (applyNodeNow now levels) k = applyNodeNow now levels k d := by
  have before : ∀ e, e ≠ d → applyNodeNow now levels k e = k :=
    fun e he => applyNodeNow_clear (h e he) (hl e he)
  have after : ∀ e, e ≠ d →
      applyNodeNow now levels (applyNodeNow now levels k d) e = applyNodeNow now levels k d :=
    fun e he => applyNodeNow_clear (by rw [detector_applyNodeNow he]; exact h e he) (hl e he)
  cases d <;> simp (disch := decide) only [detectors, List.foldl, before, after]

/-! ## Waits, edges and node now -/

/-- R68: a detector that is not DARK, or that is within its blocked limit or blocked already, passes the
blocked test. -/
theorem testBlocked_passes {d : Detector} {t : NodeTime} {k : Taking}
    (h : (k.filter.detector d).state = .dark → (k.filter.detector d).blocked = false →
      ∀ n, blockedLimit d = some n → (t - (k.filter.detector d).darkSince).toNat ≤ n) :
    testBlocked d t k = k := by
  simp only [testBlocked]
  split
  · rfl
  · next n hn =>
    refine if_neg fun hh => ?_
    have := h hh.1 hh.2.1 n hn
    omega

/-- R66: a detector without a wait has none to settle. -/
theorem settleWait_none {d : Detector} {t : NodeTime} {k : Taking}
    (h : (k.filter.detector d).state = .clear ∨ (k.filter.detector d).state = .dark) :
    settleWait d t k = k := by
  rcases h with h | h <;> simp only [settleWait, h]

/-- R66: a press that is not debounced yet stands. -/
theorem settleWait_pressing {d : Detector} {t : NodeTime} {k : Taking}
    (h : (k.filter.detector d).state = .pressWait)
    (hw : ¬ debounceOf k.filter.debounce d ≤ (t - (k.filter.detector d).darkEdge).toNat) :
    settleWait d t k = k := by
  simp only [settleWait, h, reached, decide_eq_true_eq, if_neg hw]

/-- R66: a debounced press makes the detector DARK and declares its passage. -/
theorem settleWait_pressed {d : Detector} {t : NodeTime} {k : Taking}
    (h : (k.filter.detector d).state = .pressWait)
    (hw : debounceOf k.filter.debounce d ≤ (t - (k.filter.detector d).darkEdge).toNat) :
    let x := k.filter.detector d
    settleWait d t k = { k with
      filter := k.filter.setDetector d { x with state := .dark, passages := bump x.passages }
      declared := k.declared ++ [.passage d x.darkEdge
        (x.darkEdge + BitVec.ofNat 16 (debounceOf k.filter.debounce d))] } := by
  simp only [settleWait, h, reached, decide_eq_true_eq, if_pos hw]

/-- R66: a release that is not debounced yet stands. -/
theorem settleWait_releasing {d : Detector} {t : NodeTime} {k : Taking}
    (h : (k.filter.detector d).state = .releaseWait)
    (hw : ¬ debounceOf k.filter.debounce d ≤ (t - (k.filter.detector d).releaseEdge).toNat) :
    settleWait d t k = k := by
  simp only [settleWait, h, reached, decide_eq_true_eq, if_neg hw]

/-- R66: a debounced release of a detector that is not blocked makes it CLEAR, and declares the re-arming
of RACK. -/
theorem settleWait_released {d : Detector} {t : NodeTime} {k : Taking}
    (h : (k.filter.detector d).state = .releaseWait) (hb : (k.filter.detector d).blocked = false)
    (hw : debounceOf k.filter.debounce d ≤ (t - (k.filter.detector d).releaseEdge).toNat) :
    let x := k.filter.detector d
    settleWait d t k = { k with
      filter := k.filter.setDetector d { x with state := .clear }
      declared := k.declared ++ (if d = .rack then
        [.rackClear x.releaseEdge
          (x.releaseEdge + BitVec.ofNat 16 (debounceOf k.filter.debounce d))] else []) } := by
  have clear : ({ k.filter.detector d with state := .clear, blocked := false } : DetectorState) =
      { k.filter.detector d with state := .clear } := by rw [← hb]
  simp only [settleWait, h, reached, decide_eq_true_eq, if_pos hw, clearBlocked, hb,
    Bool.false_eq_true, if_false]
  by_cases hd : d = .rack
  · simp only [if_pos hd, clear]
  · simp only [if_neg hd, clear, List.append_nil]

end Sys2Proof.Machine
end

