-- ==== Sys2Proof/Laws/Frames.lean ====
section
/-! SUPPORT. How the records of a READ_TARIFF response lie among its other bytes. -/

namespace Sys2Proof.Machine

open Sys2Proof

/-- The records of `interleave` stand whole and in order, whatever lies before each and behind the
last. -/
theorem interleave_eq (other : Nat → List Byte) (place room : Nat) (rs : List (List Byte)) :
    ∃ before : Nat → List Byte, interleave other place room rs =
      ((rs.zipIdx place).flatMap fun x => before x.2 ++ x.1) ++ before (place + rs.length) := by
  induction rs generalizing place room with
  | nil => exact ⟨fun _ => (other place).take room, rfl⟩
  | cons r rs ih =>
    obtain ⟨before, h⟩ := ih (place + 1) (room - ((other place).take room).length)
    refine ⟨fun n => if n = place then (other place).take room else before n, ?_⟩
    have hz : ((rs.zipIdx (place + 1)).flatMap fun x =>
          (if x.2 = place then (other place).take room else before x.2) ++ x.1) =
        (rs.zipIdx (place + 1)).flatMap fun x => before x.2 ++ x.1 := by
      refine List.flatMap_congr fun x hx => ?_
      rw [if_neg (by have := List.le_snd_of_mem_zipIdx hx; omega)]
    simp only [interleave, List.zipIdx_cons, List.flatMap_cons, if_true, hz, h, List.length_cons,
      List.append_assoc, show place + (rs.length + 1) = place + 1 + rs.length by omega,
      if_neg (show place + 1 + rs.length ≠ place by omega)]

/-- The other bytes take no more than the room given for them. -/
theorem length_interleave_le (other : Nat → List Byte) (place room : Nat) (rs : List (List Byte)) :
    (interleave other place room rs).length ≤ room + rs.flatten.length := by
  induction rs generalizing place room with
  | nil => simp only [interleave, List.length_take, List.flatten_nil, List.length_nil]; omega
  | cons r rs ih =>
    have h := ih (place + 1) (room - ((other place).take room).length)
    simp only [interleave, List.length_append, List.flatten_cons, List.length_take] at h ⊢
    omega

/-- A response's data never passes the payload's bound. -/
theorem length_replyBytes_le (code : Byte) (d : ReplyData) :
    (replyBytes code d).length ≤ dataCapacity := by
  unfold replyBytes
  split
  · exact Nat.zero_le _
  · exact List.length_take_le _ _
  · exact List.length_take_le _ _

/-- The data of a READ_TARIFF response whose records fit: nothing is cut off. -/
theorem replyBytes_tariff {code : Byte} {reading : TariffReading} {version : BitVec 8} {once : Bool}
    {waiting : Option PendingCommit}
    (hfit : (tariffRecords reading).flatten.length ≤ dataCapacity) :
    replyBytes code (.tariff reading version once waiting) =
      interleave (Config.tariffFields (.tariff reading version once waiting)) 0
        (dataCapacity - (tariffRecords reading).flatten.length) (tariffRecords reading) := by
  refine List.take_of_length_le (Nat.le_trans (length_interleave_le _ _ _ _) ?_)
  omega

end Sys2Proof.Machine
end

