-- ==== Sys2Proof/Laws/Tariff.lean ====
section
/-! SUPPORT. What keeps the tariff records in their ranges (R140 to R147): the swap, the staging of a
period entry and of a class default, and a commit. -/

namespace Sys2Proof.Machine

open Sys2Proof

/-- Every staged period stands in a staging slot. -/
theorem mem_stagedPeriods {t : Tariff} {n : Nat} {p : Period} (h : p ∈ stagedPeriods t n) :
    ∃ k : Fin 24, t.slots[k] = some p := by
  simp only [stagedPeriods, List.mem_filterMap, id_eq, exists_eq_right] at h
  obtain ⟨k, hk, e⟩ := List.getElem_of_mem (List.mem_of_mem_take h)
  have k24 : k < 24 := by simpa using hk
  exact ⟨⟨k, k24⟩, by simpa using e⟩

theorem length_stagedPeriods (t : Tariff) (n : Nat) : (stagedPeriods t n).length ≤ 24 := by
  have h1 := List.length_filterMap_le id (t.slots.toList.take n)
  have h2 : (t.slots.toList.take n).length ≤ 24 := by
    simp only [List.length_take, Vector.length_toList]; omega
  exact h1.trans h2

/-- R145: the swap keeps the records in their ranges. -/
theorem TariffOk.swap {t : Tariff} (h : TariffOk t) (n : Nat) : TariffOk (swapTariff t n) where
  table := ⟨length_stagedPeriods t n, fun p hp =>
    let ⟨k, e⟩ := mem_stagedPeriods hp; h.slots k p e⟩
  activeDefaults := h.stagedDefaults
  activeDays := h.stagedDays
  slots := fun k p e => by
    simp only [swapTariff, trimSlots, Fin.getElem_fin, Vector.getElem_mapIdx] at e
    split at e
    · exact h.slots k p e
    · exact absurd e (by simp)
  stagedDefaults := h.stagedDefaults
  stagedDays := h.stagedDays
  pending := fun _ e => absurd e (by simp [swapTariff])

/-- R142: an entry that fails no check lies in its ranges. -/
theorem periodOk_of {f : PeriodFields} (h : periodFault f = none) : PeriodOk (periodOf f) := by
  unfold periodFault at h
  repeat (split at h; · exact absurd h (by simp))
  constructor <;> simp only [periodOf]
  · intro e
    have := congrArg BitVec.toNat e
    simp at this
    omega
  · intro e
    have := congrArg BitVec.toNat e
    simp at this
    omega
  all_goals omega

/-- R142: a staging slot is replaced by an entry in its ranges, or made EMPTY. -/
theorem TariffOk.setSlot {t : Tariff} (h : TariffOk t) (n : Nat) (hn : n < 24) {x : Option Period}
    (hx : ∀ p, x = some p → PeriodOk p) : TariffOk { t with slots := t.slots.set n x hn } :=
  { h with
    slots := fun k p e => by
      simp only [Fin.getElem_fin, Vector.getElem_set] at e
      split at e
      · exact hx p e
      · exact h.slots k p e }

/-- R143: a class default that fails no check lies in its ranges. -/
theorem classDefaultOk_of {n : Nat} {d : ClassDefault} (h : classDefaultFault n d = none) :
    ClassDefaultOk d := by
  unfold classDefaultFault at h
  repeat (split at h; · exact absurd h (by simp))
  constructor <;> omega

/-- R143: a staging class default is replaced by one in its ranges. -/
theorem TariffOk.setDefault {t : Tariff} (h : TariffOk t) (c : Fin 8) {d : ClassDefault}
    (hd : ClassDefaultOk d) : TariffOk { t with stagedDefaults := t.stagedDefaults.set c d } :=
  { h with
    stagedDefaults := fun k => by
      simp only [Fin.getElem_fin, Vector.getElem_set]
      split
      · exact hd
      · exact h.stagedDefaults k }

/-- R146, R147: a pending commit of at most 24 entries is set, or there is none. -/
theorem TariffOk.setPending {t : Tariff} (h : TariffOk t) {x : Option PendingCommit}
    (hx : ∀ c, x = some c → c.count ≤ 24) : TariffOk { t with pending := x } :=
  { h with pending := hx }

end Sys2Proof.Machine
end

