-- ==== Sys2Proof/Laws/KeptOps.lean ====
section
/-! SUPPORT. One lemma for each operation inside the LC32: it keeps what `Kept` says. -/

namespace Sys2Proof.Machine.Kept

open Sys2Proof

variable {s u : State}

/-! ## Machine/Notices.lean -/

theorem raiseMachineState (h : Kept s u) (l : LaneId) :
    Kept s (u.raiseMachineState l) := by
  unfold State.raiseMachineState
  repeat' first
    | with_reducible exact h
    | with_reducible apply Kept.raise

theorem raiseSessionState (h : Kept s u) (i : SessionId) (previous : Option LaneId) :
    Kept s (u.raiseSessionState i previous) := by
  unfold State.raiseSessionState
  repeat' first
    | with_reducible exact h
    | with_reducible apply Kept.raise
    | split

theorem raiseSessionClosed (h : Kept s u) (i : SessionId) (lane : LaneId) :
    Kept s (u.raiseSessionClosed i lane) := by
  unfold State.raiseSessionClosed
  repeat' first
    | with_reducible exact h
    | with_reducible apply Kept.raise

theorem raiseReturnState (h : Kept s u) (p : PairId) :
    Kept s (u.raiseReturnState p) := by
  unfold State.raiseReturnState
  repeat' first
    | with_reducible exact h
    | with_reducible apply Kept.raise

theorem raiseNodeState (h : Kept s u) (p : PairId) (a : Option NodeAddr) :
    Kept s (u.raiseNodeState p a) := by
  unfold State.raiseNodeState
  repeat' first
    | with_reducible exact h
    | with_reducible apply Kept.raise

theorem raiseMachineReport (h : Kept s u) (l : LaneId) (r : MachineReport) :
    Kept s (u.raiseMachineReport l r) := by
  unfold State.raiseMachineReport
  repeat' first
    | with_reducible exact h
    | with_reducible apply Kept.modSupervisor
    | with_reducible apply Kept.raise

/-! ## Machine/Slots.lean -/

theorem place (h : Kept s u) (p : PairId) (a : NodeAddr) (c : Command) :
    Kept s (u.place p a c) := by
  unfold State.place
  repeat' first
    | with_reducible exact h
    | with_reducible apply Kept.modNode
    | split

theorem clearSlot (h : Kept s u) (p : PairId) (a : NodeAddr) :
    Kept s (u.clearSlot p a) := by
  unfold State.clearSlot
  repeat' first
    | with_reducible exact h
    | with_reducible apply Kept.modNode

theorem armingCheck (h : Kept s u) (l : LaneId) :
    Kept s (u.armingCheck l) := by
  unfold State.armingCheck
  repeat' first
    | with_reducible exact h
    | with_reducible apply Kept.modTracker
    | split

theorem armPair (h : Kept s u) (p : PairId) :
    Kept s (u.armPair p) := by
  unfold State.armPair
  repeat' first
    | with_reducible exact h
    | with_reducible apply Kept.armingCheck

theorem decideWatch (h : Kept s u) (p : PairId) (removed : Bool) :
    Kept s (u.decideWatch p removed) := by
  unfold State.decideWatch
  repeat' first
    | with_reducible exact h
    | with_reducible apply Kept.modReturn
    | split
    | exact fun _ => ⟨rfl, rfl, rfl⟩
    | exact ⟨rfl, rfl, id⟩

theorem placeOutputs (h : Kept s u) (p : PairId) :
    Kept s (u.placeOutputs p) := by
  unfold State.placeOutputs
  repeat' first
    | with_reducible exact h
    | with_reducible apply Kept.place
    | split

theorem decideLift (h : Kept s u) (p : PairId) :
    Kept s (u.decideLift p) := by
  unfold State.decideLift
  repeat' first
    | with_reducible exact h
    | with_reducible apply Kept.modReturn
    | with_reducible apply Kept.raiseReturnState
    | with_reducible apply Kept.placeOutputs
    | with_reducible apply Kept.decideWatch
    | split
    | exact fun _ => ⟨rfl, rfl, rfl⟩
    | exact ⟨rfl, rfl, id⟩
    | exact ⟨rfl, rfl, id, fun k => ⟨k.order, k.pendingOrder, k.current⟩⟩
    | rfl
    | dsimp only

theorem laneChanged (h : Kept s u) (l : LaneId) :
    Kept s (u.laneChanged l) := by
  unfold State.laneChanged
  repeat' first
    | with_reducible exact h
    | with_reducible apply Kept.decideLift
    | with_reducible apply Kept.armingCheck

/-! ## Machine/Supervisor.lean -/

theorem endStepConditions (h : Kept s u) (l : LaneId) :
    Kept s (u.endStepConditions l) := by
  unfold State.endStepConditions
  repeat' first
    | with_reducible exact h
    | with_reducible apply Kept.setLaneFaults

theorem endUnfinished (h : Kept s u) (l : LaneId) :
    Kept s (u.endUnfinished l) := by
  unfold State.endUnfinished
  repeat' first
    | with_reducible exact h
    | with_reducible apply Kept.modSupervisor
    | with_reducible apply Kept.endStepConditions
    | split

theorem beginSequence (h : Kept s u) (l : LaneId) (k : Sequence) (mark : Option RestartMark) :
    Kept s (u.beginSequence l k mark) := by
  unfold State.beginSequence
  repeat' first
    | with_reducible exact h
    | with_reducible apply Kept.modSupervisor
    | with_reducible apply Kept.place
    | with_reducible apply Kept.raiseMachineState
    | with_reducible apply Kept.laneChanged
    | split
    | dsimp only

theorem setFollowOn (h : Kept s u) (l : LaneId) (f : FollowOn) :
    Kept s (u.setFollowOn l f) := by
  unfold State.setFollowOn
  repeat' first
    | with_reducible exact h
    | with_reducible apply Kept.modSupervisor
    | with_reducible apply Kept.raiseMachineState
    | split

theorem discardOwed (h : Kept s u) (l : LaneId) :
    Kept s (u.discardOwed l) := by
  unfold State.discardOwed
  repeat' first
    | with_reducible exact h
    | with_reducible apply Kept.modSupervisor
    | with_reducible apply Kept.raiseMachineState
    | split

theorem clearStart (h : Kept s u) (l : LaneId) :
    Kept s (u.clearStart l) := by
  unfold State.clearStart
  repeat' first
    | with_reducible exact h
    | with_reducible apply Kept.setFollowOn
    | split

theorem clearRestart (h : Kept s u) (l : LaneId) :
    Kept s (u.clearRestart l) := by
  unfold State.clearRestart
  repeat' first
    | with_reducible exact h
    | with_reducible apply Kept.setFollowOn
    | split

theorem oweStop (h : Kept s u) (l : LaneId) (k : StopKind) :
    Kept s (u.oweStop l k) := by
  unfold State.oweStop
  repeat' first
    | with_reducible exact h
    | with_reducible apply Kept.modNode
    | with_reducible apply Kept.endUnfinished
    | with_reducible apply Kept.modSupervisor
    | with_reducible apply Kept.discardOwed
    | with_reducible apply Kept.raiseMachineState
    | with_reducible apply Kept.laneChanged

theorem placeStop (h : Kept s u) (l : LaneId) (k : StopKind) :
    Kept s (u.placeStop l k) := by
  unfold State.placeStop
  repeat' first
    | with_reducible exact h
    | with_reducible apply Kept.oweStop
    | with_reducible apply Kept.endUnfinished
    | with_reducible apply Kept.beginSequence
    | with_reducible apply Kept.discardOwed
    | with_reducible apply Kept.modSupervisor
    | split

theorem stopRise (h : Kept s u) (l : LaneId) :
    Kept s (u.stopRise l) := by
  unfold State.stopRise
  repeat' first
    | with_reducible exact h
    | with_reducible apply Kept.placeStop
    | split

theorem parkRise (h : Kept s u) (l : LaneId) :
    Kept s (u.parkRise l) := by
  unfold State.parkRise
  repeat' first
    | with_reducible exact h
    | with_reducible apply Kept.placeStop
    | split

theorem runNeed (h : Kept s u) (l : LaneId) (n : Need) :
    Kept s (u.runNeed l n) := by
  unfold State.runNeed
  repeat' first
    | with_reducible exact h
    | with_reducible apply Kept.modSupervisor
    | with_reducible apply Kept.beginSequence

theorem runOwed (h : Kept s u) (l : LaneId) :
    Kept s (u.runOwed l) := by
  unfold State.runOwed
  repeat' first
    | with_reducible exact h
    | with_reducible apply Kept.runNeed
    | split

theorem followPark (h : Kept s u) (l : LaneId) :
    Kept s (u.followPark l) := by
  unfold State.followPark
  repeat' first
    | with_reducible exact h
    | with_reducible apply Kept.modSupervisor
    | with_reducible apply Kept.placeStop
    | split

theorem followStart (h : Kept s u) (l : LaneId) :
    Kept s (u.followStart l) := by
  unfold State.followStart
  repeat' first
    | with_reducible exact h
    | with_reducible apply Kept.setFollowOn
    | with_reducible apply Kept.beginSequence
    | split

theorem needTaken (h : Kept s u) (l : LaneId) :
    Kept s (u.needTaken l) := by
  unfold State.needTaken
  repeat' first
    | with_reducible exact h
    | with_reducible apply Kept.modTracker
    | split

theorem takeNeed (h : Kept s u) (l : LaneId) (n : Need) :
    Kept s (u.takeNeed l n) := by
  unfold State.takeNeed
  repeat' first
    | with_reducible exact h
    | with_reducible apply Kept.runNeed
    | with_reducible apply Kept.modSupervisor
    | with_reducible apply Kept.raiseMachineState
    | with_reducible apply Kept.setFollowOn
    | with_reducible apply Kept.needTaken
    | with_reducible apply Kept.armingCheck
    | with_reducible apply Kept.followPark
    | split

theorem handNeed (h : Kept s u) (l : LaneId) (n : Need) :
    Kept s (u.handNeed l n) := by
  unfold State.handNeed
  repeat' first
    | with_reducible exact h
    | with_reducible apply Kept.modSupervisor
    | with_reducible apply Kept.raiseMachineState
    | with_reducible apply Kept.takeNeed
    | split

theorem cancelPark (h : Kept s u) (l : LaneId) :
    Kept s (u.cancelPark l) := by
  unfold State.cancelPark
  repeat' first
    | with_reducible exact h
    | with_reducible apply Kept.modSupervisor
    | with_reducible apply Kept.raiseMachineState
    | split
    | dsimp only

theorem holderArrives (h : Kept s u) (l : LaneId) :
    Kept s (u.holderArrives l) := by
  unfold State.holderArrives
  repeat' first
    | with_reducible exact h
    | with_reducible apply Kept.cancelPark
    | with_reducible apply Kept.beginSequence
    | with_reducible apply Kept.setFollowOn
    | with_reducible apply Kept.armingCheck
    | split

theorem sessionEnds (h : Kept s u) (l : LaneId) :
    Kept s (u.sessionEnds l) := by
  unfold State.sessionEnds
  repeat' first
    | with_reducible exact h
    | with_reducible apply Kept.placeStop
    | with_reducible apply Kept.setFollowOn
    | with_reducible apply Kept.clearStart
    | with_reducible apply Kept.armingCheck
    | split

/-! ## Machine/SessionOps.lean -/

theorem cancelMove (h : Kept s u) (l : LaneId) :
    Kept s (u.cancelMove l) := by
  unfold State.cancelMove
  repeat' first
    | with_reducible exact h
    | with_reducible apply Kept.modEntry
    | with_reducible apply Kept.armingCheck
    | split
    | exact fun _ => ⟨rfl, rfl, rfl⟩

theorem becomeClosing (h : Kept s u) (i : SessionId) :
    Kept s (u.becomeClosing i) := by
  unfold State.becomeClosing
  repeat' first
    | with_reducible exact h
    | with_reducible apply Kept.setSession
    | with_reducible apply Kept.cancelMove
    | with_reducible apply Kept.raiseSessionState
    | with_reducible apply Kept.armingCheck
    | split

theorem endExpiryWait (h : Kept s u) (i : SessionId) :
    Kept s (u.endExpiryWait i) := by
  unfold State.endExpiryWait
  repeat' first
    | with_reducible exact h
    | with_reducible apply Kept.becomeClosing

theorem becomeExpired (h : Kept s u) (i : SessionId) :
    Kept s (u.becomeExpired i) := by
  unfold State.becomeExpired
  repeat' first
    | with_reducible exact h
    | with_reducible apply Kept.setSession
    | with_reducible apply Kept.raiseSessionState
    | with_reducible apply Kept.armingCheck
    | with_reducible apply Kept.endExpiryWait
    | split

theorem expireOpen (h : Kept s u) (i : SessionId) (x : Session) :
    Kept s (u.expireOpen i x) := by
  unfold State.expireOpen
  repeat' first
    | with_reducible exact h
    | with_reducible apply Kept.becomeExpired
    | with_reducible apply Kept.modSession
    | with_reducible apply Kept.raiseSessionState
    | split

theorem limitReached (h : Kept s u) (i : SessionId) :
    Kept s (u.limitReached i) := by
  unfold State.limitReached
  repeat' first
    | with_reducible exact h
    | with_reducible apply Kept.expireOpen
    | with_reducible apply Kept.modSession
    | with_reducible apply Kept.cancelMove
    | with_reducible apply Kept.cancelPark
    | split

theorem frameEnded (h : Kept s u) (i : SessionId) :
    Kept s (u.frameEnded i) := by
  unfold State.frameEnded
  repeat' first
    | with_reducible exact h
    | with_reducible apply Kept.becomeExpired
    | split

/-! ## Machine/Tariffs.lean -/

theorem swap (h : Kept s u) (count : Nat) :
    Kept s (u.swap count) := by
  unfold State.swap
  repeat' first
    | with_reducible exact h
    | with_reducible apply Kept.raise
    | exact Kept.setTariff h _ rfl fun k => k.swap _

theorem swapForLookup (h : Kept s u) :
    Kept s (u.swapForLookup) := by
  unfold State.swapForLookup
  repeat' first
    | with_reducible exact h
    | with_reducible apply Kept.swap
    | split

/-! ## Machine/Meters.lean -/

theorem appendLine (h : Kept s u) (x : ChargeLine) :
    Kept s (u.appendLine x) := by
  unfold State.appendLine
  split
  · next hl =>
    have k : Kept s { u with charges := { u.charges with lines := u.charges.lines ++ [x] } } :=
      h.setCharges _ (by simp only [List.length_append, List.length_singleton]; omega)
    dsimp only
    split
    · exact (h.setCharges ⟨u.charges.lines ++ [x], true⟩
        (by simp only [List.length_append, List.length_singleton]; omega)).raise _ _
    · exact k
  · exact h.modMeter _ _

theorem addCharged (h : Kept s u) (l : LaneId) (amount : Nat) :
    Kept s (u.addCharged l amount) := by
  unfold State.addCharged
  repeat' first
    | with_reducible exact h
    | with_reducible apply Kept.modMeter

theorem appendOpenLine (h : Kept s u) (l : LaneId) :
    Kept s (u.appendOpenLine l) := by
  unfold State.appendOpenLine
  repeat' first
    | with_reducible exact h
    | with_reducible apply Kept.modMeter
    | with_reducible apply Kept.appendLine
    | split

theorem settleLine (h : Kept s u) (l : LaneId) (i : SessionId) (k : Lookup) :
    Kept s (u.settleLine l i k) := by
  unfold State.settleLine
  repeat' first
    | with_reducible exact h
    | with_reducible apply Kept.modMeter
    | with_reducible apply Kept.appendOpenLine
    | split

theorem chargeMinute (h : Kept s u) (i : SessionId) (k : Lookup) :
    Kept s (u.chargeMinute i k) := by
  unfold State.chargeMinute
  repeat' first
    | with_reducible exact h
    | with_reducible apply Kept.settleLine
    | with_reducible apply Kept.modMeter
    | with_reducible apply Kept.addCharged
    | with_reducible apply Kept.modSession
    | split

theorem warningTest (h : Kept s u) (i : SessionId) :
    Kept s (u.warningTest i) := by
  unfold State.warningTest
  repeat' first
    | with_reducible exact h
    | with_reducible apply Kept.modSession
    | with_reducible apply Kept.raise
    | split

theorem limitTest (h : Kept s u) (i : SessionId) :
    Kept s (u.limitTest i) := by
  unfold State.limitTest
  repeat' first
    | with_reducible exact h
    | with_reducible apply Kept.raise
    | with_reducible apply Kept.limitReached
    | with_reducible apply Kept.modSession
    | split

theorem limitTests (h : Kept s u) (i : SessionId) :
    Kept s (u.limitTests i) := by
  unfold State.limitTests
  repeat' first
    | with_reducible exact h
    | with_reducible apply Kept.limitTest
    | with_reducible apply Kept.warningTest

theorem minuteDue (h : Kept s u) (i : SessionId) :
    Kept s (u.minuteDue i) := by
  unfold State.minuteDue
  repeat' first
    | with_reducible exact h
    | with_reducible apply Kept.modSession
    | with_reducible apply Kept.swapForLookup
    | with_reducible apply Kept.chargeMinute
    | with_reducible apply Kept.limitTests
    | split

theorem expirySecond (h : Kept s u) (i : SessionId) :
    Kept s (u.expirySecond i) := by
  unfold State.expirySecond
  repeat' first
    | with_reducible exact h
    | with_reducible apply Kept.endExpiryWait
    | with_reducible apply Kept.modSession
    | split

theorem billingTick (h : Kept s u) (i : SessionId) :
    Kept s (u.billingTick i) := by
  unfold State.billingTick
  repeat' first
    | with_reducible exact h
    | with_reducible apply Kept.modSession
    | with_reducible apply Kept.minuteDue
    | with_reducible apply Kept.expirySecond
    | split

theorem tellCredit (h : Kept s u) (l : LaneId) :
    Kept s (u.tellCredit l) := by
  unfold State.tellCredit
  repeat' first
    | with_reducible exact h
    | with_reducible apply Kept.modSession
    | split

theorem chargeGame (h : Kept s u) (l : LaneId) (i : SessionId) (slot game : Nat) :
    Kept s (u.chargeGame l i slot game) := by
  unfold State.chargeGame
  repeat' first
    | with_reducible exact h
    | with_reducible apply Kept.swapForLookup
    | with_reducible apply Kept.addCharged
    | with_reducible apply Kept.appendLine
    | with_reducible apply Kept.modSession
    | with_reducible apply Kept.limitTests
    | split

theorem closePartial (h : Kept s u) (i : SessionId) (k : Lookup) :
    Kept s (u.closePartial i k) := by
  unfold State.closePartial
  repeat' first
    | with_reducible exact h
    | with_reducible apply Kept.chargeMinute
    | with_reducible apply Kept.modSession
    | split

theorem closeRounding (h : Kept s u) (i : SessionId) (k : Lookup) :
    Kept s (u.closeRounding i k) := by
  unfold State.closeRounding
  repeat' first
    | with_reducible exact h
    | with_reducible apply Kept.modMeter
    | with_reducible apply Kept.addCharged
    | with_reducible apply Kept.modSession
    | split

theorem closeMinimum (h : Kept s u) (i : SessionId) (k : Lookup) :
    Kept s (u.closeMinimum i k) := by
  unfold State.closeMinimum
  repeat' first
    | with_reducible exact h
    | with_reducible apply Kept.addCharged
    | with_reducible apply Kept.modSession
    | with_reducible apply Kept.appendLine
    | split

theorem closeDowntime (h : Kept s u) (i : SessionId) (k : Lookup) :
    Kept s (u.closeDowntime i k) := by
  unfold State.closeDowntime
  repeat' first
    | with_reducible exact h
    | with_reducible apply Kept.appendLine
    | split

theorem billingClose (h : Kept s u) (i : SessionId) :
    Kept s (u.billingClose i) := by
  unfold State.billingClose
  repeat' first
    | with_reducible exact h
    | with_reducible apply Kept.swapForLookup
    | with_reducible apply Kept.closePartial
    | with_reducible apply Kept.closeRounding
    | with_reducible apply Kept.appendOpenLine
    | with_reducible apply Kept.closeMinimum
    | with_reducible apply Kept.closeDowntime
    | split

theorem moveCredit (h : Kept s u) (i : SessionId) (target : LaneId) :
    Kept s (u.moveCredit i target) := by
  unfold State.moveCredit
  repeat' first
    | with_reducible exact h
    | with_reducible apply Kept.modSession

/-! ## Machine/Turns.lean -/

theorem raiseBallScored (h : Kept s u) (l : LaneId) (i : SessionId) (x : Session) (g : Game) (slot frame index : Nat) (cause : ScoreCause) (frames : List FrameReport) :
    Kept s (u.raiseBallScored l i x g slot frame index cause frames) := by
  unfold State.raiseBallScored
  repeat' first
    | with_reducible exact h
    | with_reducible apply Kept.raise

theorem raiseGameDone (h : Kept s u) (i : SessionId) (slot : Nat) :
    Kept s (u.raiseGameDone i slot) := by
  unfold State.raiseGameDone
  repeat' first
    | with_reducible exact h
    | with_reducible apply Kept.raise
    | split

theorem raiseTurnChanged (h : Kept s u) (l : LaneId) (i : SessionId) :
    Kept s (u.raiseTurnChanged l i) := by
  unfold State.raiseTurnChanged
  repeat' first
    | with_reducible exact h
    | with_reducible apply Kept.raise
    | split

theorem grant (h : Kept s u) (l : LaneId) (i : SessionId) :
    Kept s (u.grant l i) := by
  unfold State.grant
  repeat' first
    | with_reducible exact h
    | with_reducible apply Kept.modEntry
    | with_reducible apply Kept.modSession
    | with_reducible apply Kept.raiseTurnChanged
    | with_reducible apply Kept.tellCredit
    | with_reducible apply Kept.armingCheck
    | split
    | exact fun _ => ⟨rfl, rfl, rfl⟩

theorem releaseLane (h : Kept s u) (l : LaneId) :
    Kept s (u.releaseLane l) := by
  unfold State.releaseLane
  repeat' first
    | with_reducible exact h
    | with_reducible apply Kept.modEntry
    | with_reducible apply Kept.grant
    | with_reducible apply Kept.armingCheck
    | split
    | exact fun _ => ⟨rfl, rfl, rfl⟩

theorem requestLane (h : Kept s u) (l : LaneId) (i : SessionId) :
    Kept s (u.requestLane l i) := by
  unfold State.requestLane
  repeat' first
    | with_reducible exact h
    | with_reducible apply Kept.grant
    | with_reducible apply Kept.modEntry
    | with_reducible apply Kept.modSession
    | split
    | exact fun _ => ⟨rfl, rfl, rfl⟩

theorem frameCompleted (h : Kept s u) (i : SessionId) :
    Kept s (u.frameCompleted i) := by
  unfold State.frameCompleted
  repeat' first
    | with_reducible exact h
    | with_reducible apply Kept.releaseLane
    | with_reducible apply Kept.requestLane
    | split

theorem applyResume (h : Kept s u) (i : SessionId) (r : Resume) :
    Kept s (u.applyResume i r) := by
  unfold State.applyResume
  repeat' first
    | with_reducible exact h
    | with_reducible apply Kept.setSession
    | with_reducible apply Kept.raiseBallScored
    | split
    | dsimp only

theorem resumeInstruction (h : Kept s u) (i : SessionId) (r : Resume) :
    Kept s (u.resumeInstruction i r) := by
  unfold State.resumeInstruction
  repeat' first
    | with_reducible exact h
    | with_reducible apply Kept.modSession
    | with_reducible apply Kept.applyResume
    | split

theorem applyPending (h : Kept s u) (i : SessionId) :
    Kept s (u.applyPending i) := by
  unfold State.applyPending
  repeat' first
    | with_reducible exact h
    | with_reducible apply Kept.modSession
    | with_reducible apply Kept.applyResume
    | split

/-! ## Machine/Closing.lean -/

theorem closeLaneEntry (h : Kept s u) (l : LaneId) :
    Kept s (u.closeLaneEntry l) := by
  unfold State.closeLaneEntry
  repeat' first
    | with_reducible exact h
    | with_reducible apply Kept.modEntry
    | with_reducible apply Kept.modSupervisor
    | with_reducible apply Kept.laneChanged
    | with_reducible apply Kept.sessionEnds
    | split
    | exact fun _ => ⟨rfl, rfl, rfl⟩

theorem leaveSlots (h : Kept s u) (i : SessionId) (l : LaneId) :
    Kept s (u.leaveSlots i l) := by
  unfold State.leaveSlots
  repeat' first
    | with_reducible exact h
    | with_reducible apply Kept.releaseLane
    | with_reducible apply Kept.modEntry
    | split
    | exact fun _ => ⟨rfl, rfl, rfl⟩

theorem releaseForClose (h : Kept s u) (i : SessionId) (x : Session) :
    Kept s (u.releaseForClose i x) := by
  unfold State.releaseForClose
  repeat' first
    | with_reducible exact h
    | with_reducible apply Kept.closeLaneEntry
    | with_reducible apply Kept.leaveSlots
    | split
    | dsimp only

theorem runClose (h : Kept s u) (i : SessionId) :
    Kept s (u.runClose i) := by
  unfold State.runClose
  repeat' first
    | with_reducible exact h
    | with_reducible apply Kept.billingClose
    | with_reducible apply Kept.modEntry
    | with_reducible apply Kept.releaseForClose
    | with_reducible apply Kept.setSession
    | with_reducible apply Kept.raiseSessionClosed
    | split
    | exact fun _ => ⟨rfl, rfl, rfl⟩

theorem tryClose (h : Kept s u) (i : SessionId) :
    Kept s (u.tryClose i) := by
  unfold State.tryClose
  repeat' first
    | with_reducible exact h
    | with_reducible apply Kept.runClose
    | split

theorem exhaust (h : Kept s u) (i : SessionId) :
    Kept s (u.exhaust i) := by
  unfold State.exhaust
  repeat' first
    | with_reducible exact h
    | with_reducible apply Kept.modSession
    | with_reducible apply Kept.raiseSessionState
    | with_reducible apply Kept.sessionEnds
    | with_reducible apply Kept.cancelMove
    | with_reducible apply Kept.becomeClosing
    | with_reducible apply Kept.leaveSlots
    | with_reducible apply Kept.runClose
    | split

theorem runMove (h : Kept s u) (l : LaneId) (i : SessionId) (x : Session) (m : MovePending) :
    Kept s (u.runMove l i x m) := by
  unfold State.runMove
  repeat' first
    | with_reducible exact h
    | with_reducible apply Kept.appendOpenLine
    | with_reducible apply Kept.discardOwed
    | with_reducible apply Kept.modEntry
    | with_reducible apply Kept.closeLaneEntry
    | with_reducible apply Kept.modSession
    | with_reducible apply Kept.moveCredit
    | with_reducible apply Kept.raiseSessionState
    | with_reducible apply Kept.decideLift
    | with_reducible apply Kept.holderArrives
    | with_reducible apply Kept.resumeInstruction
    | split
    | exact fun _ => ⟨rfl, rfl, rfl⟩

theorem tryMove (h : Kept s u) (l : LaneId) :
    Kept s (u.tryMove l) := by
  unfold State.tryMove
  repeat' first
    | with_reducible exact h
    | with_reducible apply Kept.runMove
    | split

theorem settleLane (h : Kept s u) (l : LaneId) :
    Kept s (u.settleLane l) := by
  unfold State.settleLane
  repeat' first
    | with_reducible exact h
    | with_reducible apply Kept.tryClose
    | with_reducible apply Kept.tryMove
    | split

theorem settlePair (h : Kept s u) (p : PairId) :
    Kept s (u.settlePair p) := by
  unfold State.settlePair
  repeat' first
    | with_reducible exact h
    | with_reducible apply Kept.settleLane

/-! ## Machine/FaultSet.lean -/

theorem tellFall (h : Kept s u) (l : LaneId) :
    Kept s (u.tellFall l) := by
  unfold State.tellFall
  repeat' first
    | with_reducible exact h
    | with_reducible apply Kept.runOwed
    | with_reducible apply Kept.armingCheck
    | with_reducible apply Kept.tellCredit

theorem raiseLaneCleared (h : Kept s u) (l : LaneId) (c : FaultClass) (cause : ClearCause) :
    Kept s (u.raiseLaneCleared l c cause) := by
  unfold State.raiseLaneCleared
  repeat' first
    | with_reducible exact h
    | with_reducible apply Kept.raise

theorem raisePairCleared (h : Kept s u) (p : PairId) (c : FaultClass) (cause : ClearCause) :
    Kept s (u.raisePairCleared p c cause) := by
  unfold State.raisePairCleared
  repeat' first
    | with_reducible exact h
    | with_reducible apply Kept.raise

theorem removeLaneFault (h : Kept s u) (l : LaneId) (c : FaultClass) (cause : ClearCause) :
    Kept s (u.removeLaneFault l c cause) := by
  unfold State.removeLaneFault
  repeat' first
    | with_reducible exact h
    | with_reducible apply Kept.setLaneFaults
    | with_reducible apply Kept.raiseLaneCleared
    | with_reducible apply Kept.tellFall
    | split

theorem removePairFault (h : Kept s u) (p : PairId) (c : FaultClass) (cause : ClearCause) :
    Kept s (u.removePairFault p c cause) := by
  unfold State.removePairFault
  repeat' first
    | with_reducible exact h
    | with_reducible apply Kept.setPairFaults
    | with_reducible apply Kept.raisePairCleared
    | with_reducible apply Kept.tellFall
    | split

theorem laneConditionEnds (h : Kept s u) (l : LaneId) (c : FaultClass) :
    Kept s (u.laneConditionEnds l c) := by
  unfold State.laneConditionEnds
  repeat' first
    | with_reducible exact h
    | with_reducible apply Kept.setLaneFaults
    | with_reducible apply Kept.removeLaneFault
    | split

theorem pairConditionEnds (h : Kept s u) (p : PairId) (c : FaultClass) :
    Kept s (u.pairConditionEnds p c) := by
  unfold State.pairConditionEnds
  repeat' first
    | with_reducible exact h
    | with_reducible apply Kept.setPairFaults
    | with_reducible apply Kept.removePairFault
    | split

theorem sensorConditionEnds (h : Kept s u) (l : LaneId) :
    Kept s (u.sensorConditionEnds l) := by
  unfold State.sensorConditionEnds
  repeat' first
    | with_reducible exact h
    | with_reducible apply Kept.laneConditionEnds
    | split

/-! ## Machine/Apply.lean -/

theorem turnEffects (h : Kept s u) (i : SessionId) (o : TurnOutcome) :
    Kept s (u.turnEffects i o) := by
  unfold State.turnEffects
  repeat' first
    | with_reducible exact h
    | with_reducible apply Kept.exhaust
    | with_reducible apply Kept.frameCompleted
    | split

theorem passTurnFrom (h : Kept s u) (i : SessionId) (slot : Nat) :
    Kept s (u.passTurnFrom i slot) := by
  unfold State.passTurnFrom
  repeat' first
    | with_reducible exact h
    | with_reducible apply Kept.setSession
    | with_reducible apply Kept.armingCheck
    | with_reducible apply Kept.turnEffects
    | split

theorem withdrawalEffect (h : Kept s u) (i : SessionId) (slot : Nat) :
    Kept s (u.withdrawalEffect i slot) := by
  unfold State.withdrawalEffect
  repeat' first
    | with_reducible exact h
    | with_reducible apply Kept.setSession
    | with_reducible apply Kept.raiseGameDone
    | split

theorem ballEnds (h : Kept s u) (i : SessionId) (b : Bowler) (n : NextBall) (complete : Bool) :
    Kept s (u.ballEnds i b n complete) := by
  unfold State.ballEnds
  repeat' first
    | with_reducible exact h
    | with_reducible apply Kept.modSession
    | with_reducible apply Kept.raiseGameDone
    | with_reducible apply Kept.withdrawalEffect
    | split

theorem applyResult (h : Kept s u) (l : LaneId) (i : SessionId) (r : BallResult) :
    Kept s (u.applyResult l i r) := by
  unfold State.applyResult
  repeat' first
    | with_reducible exact h
    | with_reducible apply Kept.setSession
    | with_reducible apply Kept.chargeGame
    | with_reducible apply Kept.raiseBallScored
    | with_reducible apply Kept.ballEnds
    | with_reducible apply Kept.frameEnded
    | with_reducible apply Kept.passTurnFrom
    | with_reducible apply Kept.takeNeed
    | with_reducible apply Kept.applyPending
    | split
    | dsimp only

theorem handResult (h : Kept s u) (l : LaneId) (r : BallResult) :
    Kept s (u.handResult l r) := by
  unfold State.handResult
  repeat' first
    | with_reducible exact h
    | with_reducible apply Kept.needTaken
    | with_reducible apply Kept.modSession
    | with_reducible apply Kept.applyResult
    | split

theorem applyHeld (h : Kept s u) (l : LaneId) :
    Kept s (u.applyHeld l) := by
  unfold State.applyHeld
  repeat' first
    | with_reducible exact h
    | with_reducible apply Kept.applyResult
    | split

theorem releaseHeld (h : Kept s u) (l : LaneId) :
    Kept s (u.releaseHeld l) := by
  unfold State.releaseHeld
  repeat' first
    | with_reducible exact h
    | with_reducible apply Kept.applyHeld
    | split

theorem handDeferred (h : Kept s u) (l : LaneId) :
    Kept s (u.handDeferred l) := by
  unfold State.handDeferred
  repeat' first
    | with_reducible exact h
    | with_reducible apply Kept.modSupervisor
    | with_reducible apply Kept.takeNeed
    | split

theorem releaseDeferred (h : Kept s u) (l : LaneId) :
    Kept s (u.releaseDeferred l) := by
  unfold State.releaseDeferred
  repeat' first
    | with_reducible exact h
    | with_reducible apply Kept.handDeferred
    | split

theorem released (h : Kept s u) (l : LaneId) :
    Kept s (u.released l) := by
  unfold State.released
  repeat' first
    | with_reducible exact h
    | with_reducible apply Kept.releaseHeld
    | with_reducible apply Kept.releaseDeferred

theorem withdrawalNeed (h : Kept s u) (i : SessionId) (l : LaneId) :
    Kept s (u.withdrawalNeed i l) := by
  unfold State.withdrawalNeed
  repeat' first
    | with_reducible exact h
    | with_reducible apply Kept.handNeed
    | split

theorem withdrawNow (h : Kept s u) (i : SessionId) (slot : Nat) :
    Kept s (u.withdrawNow i slot) := by
  unfold State.withdrawNow
  repeat' first
    | with_reducible exact h
    | with_reducible apply Kept.withdrawalEffect
    | with_reducible apply Kept.frameEnded
    | with_reducible apply Kept.passTurnFrom
    | with_reducible apply Kept.withdrawalNeed
    | split

theorem dropWithdrawal (h : Kept s u) (i : SessionId) (x : Session) :
    Kept s (u.dropWithdrawal i x) := by
  unfold State.dropWithdrawal
  repeat' first
    | with_reducible exact h
    | with_reducible apply Kept.withdrawNow
    | split

theorem dropOverdue (h : Kept s u) (i : SessionId) :
    Kept s (u.dropOverdue i) := by
  unfold State.dropOverdue
  repeat' first
    | with_reducible exact h
    | with_reducible apply Kept.modTracker
    | with_reducible apply Kept.modSession
    | with_reducible apply Kept.removeLaneFault
    | with_reducible apply Kept.dropWithdrawal
    | split

/-! ## Machine/SequenceEnd.lean -/

theorem sendResume (h : Kept s u) (l : LaneId) (r : CycleRecord) :
    Kept s (u.sendResume l r) := by
  unfold State.sendResume
  repeat' first
    | with_reducible exact h
    | with_reducible apply Kept.resumeInstruction
    | split

theorem considerFollowOn (h : Kept s u) (l : LaneId) :
    Kept s (u.considerFollowOn l) := by
  unfold State.considerFollowOn
  repeat' first
    | with_reducible exact h
    | with_reducible apply Kept.runOwed
    | with_reducible apply Kept.armingCheck
    | with_reducible apply Kept.followPark
    | with_reducible apply Kept.followStart

theorem sequenceDone (h : Kept s u) (l : LaneId) (r : CycleRecord) :
    Kept s (u.sequenceDone l r) := by
  unfold State.sequenceDone
  repeat' first
    | with_reducible exact h
    | with_reducible apply Kept.modSupervisor
    | with_reducible apply Kept.endStepConditions
    | with_reducible apply Kept.raiseMachineState
    | with_reducible apply Kept.laneChanged
    | with_reducible apply Kept.released
    | with_reducible apply Kept.sendResume
    | with_reducible apply Kept.considerFollowOn

theorem sequenceReleased (h : Kept s u) (l : LaneId) :
    Kept s (u.sequenceReleased l) := by
  unfold State.sequenceReleased
  repeat' first
    | with_reducible exact h
    | with_reducible apply Kept.released
    | with_reducible apply Kept.armingCheck
    | with_reducible apply Kept.followPark
    | split

theorem supersededReleases (h : Kept s u) (l : LaneId) :
    Kept s (u.supersededReleases l) := by
  unfold State.supersededReleases
  repeat' first
    | with_reducible exact h
    | with_reducible apply Kept.applyHeld
    | with_reducible apply Kept.handDeferred
    | with_reducible apply Kept.armingCheck
    | with_reducible apply Kept.followPark

theorem stopReleases (h : Kept s u) (l : LaneId) (before : Supervisor) :
    Kept s (u.stopReleases l before) := by
  unfold State.stopReleases
  repeat' first
    | with_reducible exact h
    | with_reducible apply Kept.sequenceReleased
    | with_reducible apply Kept.supersededReleases
    | split

theorem halt (h : Kept s u) (l : LaneId) :
    Kept s (u.halt l) := by
  unfold State.halt
  repeat' first
    | with_reducible exact h
    | with_reducible apply Kept.stopRise
    | with_reducible apply Kept.stopReleases

theorem park (h : Kept s u) (l : LaneId) :
    Kept s (u.park l) := by
  unfold State.park
  repeat' first
    | with_reducible exact h
    | with_reducible apply Kept.parkRise
    | with_reducible apply Kept.stopReleases

theorem acknowledge (h : Kept s u) (l : LaneId) (c : Command) :
    Kept s (u.acknowledge l c) := by
  unfold State.acknowledge
  repeat' first
    | with_reducible exact h
    | with_reducible apply Kept.modSupervisor
    | split

theorem reportAcknowledges (h : Kept s u) (l : LaneId) (r : CycleRecord) :
    Kept s (u.reportAcknowledges l r) := by
  unfold State.reportAcknowledges
  repeat' first
    | with_reducible exact h
    | with_reducible apply Kept.acknowledge
    | with_reducible apply Kept.clearSlot
    | split
    | dsimp only

theorem completeStep (h : Kept s u) (l : LaneId) (later : List Step) :
    Kept s (u.completeStep l later) := by
  unfold State.completeStep
  repeat' first
    | with_reducible exact h
    | with_reducible apply Kept.modSupervisor
    | with_reducible apply Kept.endStepConditions
    | dsimp only
    | split

/-! ## Machine/Faults.lean -/

theorem carryRise (h : Kept s u) (l : LaneId) (before : Action) :
    Kept s (u.carryRise l before) := by
  unfold State.carryRise
  repeat' first
    | with_reducible exact h
    | with_reducible apply Kept.clearRestart
    | with_reducible apply Kept.halt
    | with_reducible apply Kept.park
    | split

theorem tellRise (h : Kept s u) (l : LaneId) (before : Action) :
    Kept s (u.tellRise l before) := by
  unfold State.tellRise
  repeat' first
    | with_reducible exact h
    | with_reducible apply Kept.tellCredit
    | with_reducible apply Kept.carryRise
    | with_reducible apply Kept.armingCheck

theorem raiseLane (h : Kept s u) (l : LaneId) (c : FaultClass) :
    Kept s (u.raiseLane l c) := by
  unfold State.raiseLane
  repeat' first
    | with_reducible exact h
    | with_reducible apply Kept.setLaneFaults
    | with_reducible apply Kept.raiseWith
    | with_reducible apply Kept.tellRise

theorem raisePair (h : Kept s u) (p : PairId) (c : FaultClass) :
    Kept s (u.raisePair p c) := by
  unfold State.raisePair
  repeat' first
    | with_reducible exact h
    | with_reducible apply Kept.setPairFaults
    | with_reducible apply Kept.raiseWith
    | with_reducible apply Kept.tellRise

theorem parkFails (h : Kept s u) (l : LaneId) :
    Kept s (u.parkFails l) := by
  unfold State.parkFails
  repeat' first
    | with_reducible exact h
    | with_reducible apply Kept.endUnfinished
    | with_reducible apply Kept.modSupervisor
    | with_reducible apply Kept.clearStart
    | with_reducible apply Kept.raiseMachineState
    | with_reducible apply Kept.laneChanged
    | with_reducible apply Kept.raiseLane
    | with_reducible apply Kept.sequenceReleased

theorem watchExpires (h : Kept s u) (l : LaneId) (r : CycleRecord) :
    Kept s (u.watchExpires l r) := by
  unfold State.watchExpires
  repeat' first
    | with_reducible exact h
    | with_reducible apply Kept.modSupervisor
    | with_reducible apply Kept.raiseLane
    | with_reducible apply Kept.halt
    | with_reducible apply Kept.park
    | with_reducible apply Kept.parkFails
    | split

theorem examineWatch (h : Kept s u) (l : LaneId) :
    Kept s (u.examineWatch l) := by
  unfold State.examineWatch
  repeat' first
    | with_reducible exact h
    | with_reducible apply Kept.watchExpires
    | split

theorem endDropped (h : Kept s u) (l : LaneId) (c : Command) :
    Kept s (u.endDropped l c) := by
  unfold State.endDropped
  repeat' first
    | with_reducible exact h
    | with_reducible apply Kept.endUnfinished
    | split

theorem cycleLost (h : Kept s u) (l : LaneId) (c : Command) :
    Kept s (u.cycleLost l c) := by
  unfold State.cycleLost
  repeat' first
    | with_reducible exact h
    | with_reducible apply Kept.clearRestart
    | with_reducible apply Kept.endDropped
    | with_reducible apply Kept.placeStop
    | with_reducible apply Kept.supersededReleases
    | with_reducible apply Kept.raiseLane

theorem stopLost (h : Kept s u) (l : LaneId) (k : StopKind) (c : Command) :
    Kept s (u.stopLost l k c) := by
  unfold State.stopLost
  repeat' first
    | with_reducible exact h
    | with_reducible apply Kept.clearStart
    | with_reducible apply Kept.endDropped
    | with_reducible apply Kept.oweStop
    | with_reducible apply Kept.sequenceReleased
    | with_reducible apply Kept.raiseLane

/-! ## Machine/Returns.lean -/

theorem tellFlags (h : Kept s u) (p : PairId) (before : BallReturn) :
    Kept s (u.tellFlags p before) := by
  unfold State.tellFlags
  split
  · exact h
  · exact Kept.raiseReturnState h _

theorem returnChanged (h : Kept s u) (p : PairId) (before : BallReturn) :
    Kept s (u.returnChanged p before) := Kept.armPair (Kept.tellFlags h _ _) _

theorem jamEnds (h : Kept s u) (p : PairId) (before : BallReturn) :
    Kept s (u.jamEnds p before) := by
  unfold State.jamEnds
  repeat' first
    | with_reducible exact h
    | with_reducible apply Kept.pairConditionEnds
    | split

theorem trackAppend (h : Kept s u) (l : LaneId) :
    Kept s (u.trackAppend l) := by
  unfold State.trackAppend
  dsimp only
  split
  · next hl =>
    refine Kept.returnChanged (Kept.decideWatch (Kept.modReturn h _ ⟨rfl, rfl, fun _ => ?_⟩) _ _) _ _
    simp only [appendEntry, withCapacity, List.length_append, List.length_singleton]; omega
  · exact Kept.returnChanged (Kept.raisePair (Kept.modReturn h _ ⟨rfl, rfl, id⟩) _ _) _ _

theorem removeEntry (h : Kept s u) (p : PairId) (tell : Bool) :
    Kept s (u.removeEntry p tell) := by
  have h' : Kept s ((u.modReturn p removeOldest).decideWatch p true) := by
    refine Kept.decideWatch (Kept.modReturn h _ ⟨rfl, rfl, fun _ => ?_⟩) _ _
    simp only [removeOldest, withCapacity, List.length_drop]; omega
  unfold State.removeEntry
  cases tell
  · exact Kept.jamEnds (Kept.armPair h' _) _ _
  · exact Kept.jamEnds (Kept.armPair (Kept.tellFlags h' _ _) _) _ _

theorem removeEntries (h : Kept s u) (p : PairId) (n : Nat) :
    Kept s (u.removeEntries p n) := by
  induction n generalizing u with
  | zero => exact h
  | succ n ih => exact ih (Kept.removeEntry h p false)

theorem liftPassage (h : Kept s u) (p : PairId) :
    Kept s (u.liftPassage p) := by
  unfold State.liftPassage
  repeat' first
    | with_reducible exact h
    | with_reducible apply Kept.modReturn
    | with_reducible apply Kept.removeEntry
    | split
    | exact fun _ => ⟨rfl, rfl, rfl⟩
    | exact ⟨rfl, rfl, id⟩

theorem rackLevel (h : Kept s u) (p : PairId) (full : Bool) :
    Kept s (u.rackLevel p full) := by
  unfold State.rackLevel
  repeat' first
    | with_reducible exact h
    | with_reducible apply Kept.modReturn
    | with_reducible apply Kept.raiseReturnState
    | with_reducible apply Kept.decideLift
    | with_reducible apply Kept.decideWatch
    | split
    | exact fun _ => ⟨rfl, rfl, rfl⟩
    | exact ⟨rfl, rfl, id⟩

theorem jamExpires (h : Kept s u) (p : PairId) :
    Kept s (u.jamExpires p) := by
  unfold State.jamExpires
  repeat' first
    | with_reducible exact h
    | with_reducible apply Kept.modReturn
    | with_reducible apply Kept.raisePair
    | with_reducible apply Kept.raiseReturnState
    | split
    | exact fun _ => ⟨rfl, rfl, rfl⟩
    | exact ⟨rfl, rfl, id⟩

theorem trim (h : Kept s u) (p : PairId) (count : Nat) :
    Kept s (u.trim p count) := by
  unfold State.trim
  repeat' first
    | with_reducible exact h
    | with_reducible apply Kept.removeEntries
    | with_reducible apply Kept.raiseReturnState
    | split
    | dsimp only

/-! ## Machine/Tracker.lean -/

theorem foulPassage (h : Kept s u) (l : LaneId) (stamp : NodeTime) :
    Kept s (u.foulPassage l stamp) := by
  unfold State.foulPassage
  repeat' first
    | with_reducible exact h
    | with_reducible apply Kept.modTracker
    | split

theorem strayBall (h : Kept s u) (l : LaneId) (stamp : NodeTime) :
    Kept s (u.strayBall l stamp) := by
  unfold State.strayBall
  repeat' first
    | with_reducible exact h
    | with_reducible apply Kept.modTracker
    | with_reducible apply Kept.raise
    | split

theorem pitPassage (h : Kept s u) (l : LaneId) (stamp : NodeTime) :
    Kept s (u.pitPassage l stamp) := by
  unfold State.pitPassage
  repeat' first
    | with_reducible exact h
    | with_reducible apply Kept.modTracker
    | with_reducible apply Kept.strayBall
    | split

theorem placeRead (h : Kept s u) (l : LaneId) :
    Kept s (u.placeRead l) := by
  unfold State.placeRead
  repeat' first
    | with_reducible exact h
    | with_reducible apply Kept.place
    | with_reducible apply Kept.modTracker
    | split
    | dsimp only

theorem placeWaitingRead (h : Kept s u) (l : LaneId) :
    Kept s (u.placeWaitingRead l) := by
  unfold State.placeWaitingRead
  repeat' first
    | with_reducible exact h
    | with_reducible apply Kept.placeRead
    | split

theorem settleExpires (h : Kept s u) (l : LaneId) :
    Kept s (u.settleExpires l) := by
  unfold State.settleExpires
  repeat' first
    | with_reducible exact h
    | with_reducible apply Kept.modTracker
    | with_reducible apply Kept.placeRead

theorem startRetry (h : Kept s u) (l : LaneId) :
    Kept s (u.startRetry l) := by
  unfold State.startRetry
  repeat' first
    | with_reducible exact h
    | with_reducible apply Kept.modTracker

theorem retryExpires (h : Kept s u) (l : LaneId) :
    Kept s (u.retryExpires l) := by
  unfold State.retryExpires
  repeat' first
    | with_reducible exact h
    | with_reducible apply Kept.modTracker
    | with_reducible apply Kept.placeRead
    | dsimp only
    | split

theorem readDropped (h : Kept s u) (l : LaneId) :
    Kept s (u.readDropped l) := by
  unfold State.readDropped
  repeat' first
    | with_reducible exact h
    | with_reducible apply Kept.startRetry

theorem deadlineExpires (h : Kept s u) (l : LaneId) :
    Kept s (u.deadlineExpires l) := by
  unfold State.deadlineExpires
  repeat' first
    | with_reducible exact h
    | with_reducible apply Kept.modTracker
    | with_reducible apply Kept.raiseLane

theorem raiseAnomaly (h : Kept s u) (l : LaneId) (a : Anomaly) :
    Kept s (u.raiseAnomaly l a) := by
  unfold State.raiseAnomaly
  repeat' first
    | with_reducible exact h
    | with_reducible apply Kept.modTracker
    | with_reducible apply Kept.raise

theorem acceptReading (h : Kept s u) (l : LaneId) (x : Session) (rd : Reading) :
    Kept s (u.acceptReading l x rd) := by
  unfold State.acceptReading
  repeat' first
    | with_reducible exact h
    | with_reducible apply Kept.raiseAnomaly
    | with_reducible apply Kept.modTracker
    | with_reducible apply Kept.handResult
    | split

theorem skewReading (h : Kept s u) (l : LaneId) (rd : Reading) :
    Kept s (u.skewReading l rd) := by
  unfold State.skewReading
  repeat' first
    | with_reducible exact h
    | with_reducible apply Kept.raiseAnomaly
    | with_reducible apply Kept.startRetry

theorem judgeReading (h : Kept s u) (l : LaneId) (rd : Reading) :
    Kept s (u.judgeReading l rd) := by
  unfold State.judgeReading
  repeat' first
    | with_reducible exact h
    | with_reducible apply Kept.modTracker
    | with_reducible apply Kept.acceptReading
    | with_reducible apply Kept.startRetry
    | with_reducible apply Kept.skewReading
    | split
    | dsimp only

theorem takeReading (h : Kept s u) (l : LaneId) (rd : Reading) :
    Kept s (u.takeReading l rd) := by
  unfold State.takeReading
  repeat' first
    | with_reducible exact h
    | with_reducible apply Kept.judgeReading
    | with_reducible apply Kept.modTracker
    | split

theorem resync (h : Kept s u) (l : LaneId) :
    Kept s (u.resync l) := by
  unfold State.resync
  repeat' first
    | with_reducible exact h
    | with_reducible apply Kept.place
    | with_reducible apply Kept.modTracker
    | dsimp only
    | split

theorem placeWaitingCount (h : Kept s u) (l : LaneId) :
    Kept s (u.placeWaitingCount l) := by
  unfold State.placeWaitingCount
  repeat' first
    | with_reducible exact h
    | with_reducible apply Kept.resync
    | with_reducible apply Kept.modTracker
    | split

theorem resyncDiscarded (h : Kept s u) (l : LaneId) :
    Kept s (u.resyncDiscarded l) := by
  unfold State.resyncDiscarded
  repeat' first
    | with_reducible exact h
    | with_reducible apply Kept.modTracker

theorem resyncLost (h : Kept s u) (l : LaneId) :
    Kept s (u.resyncLost l) := by
  unfold State.resyncLost
  repeat' first
    | with_reducible exact h
    | with_reducible apply Kept.modTracker

theorem resyncDone (h : Kept s u) (l : LaneId) :
    Kept s (u.resyncDone l) := by
  unfold State.resyncDone
  repeat' first
    | with_reducible exact h
    | with_reducible apply Kept.modTracker

/-! ## Machine/Detectors.lean -/

theorem handPit (h : Kept s u) (l : LaneId) (stamp : NodeTime) :
    Kept s (u.handPit l stamp) := by
  unfold State.handPit
  repeat' first
    | with_reducible exact h
    | with_reducible apply Kept.pitPassage
    | with_reducible apply Kept.trackAppend

theorem handOn (h : Kept s u) (p : PairId) (x : Declaration) :
    Kept s (u.handOn p x) := by
  unfold State.handOn
  repeat' first
    | with_reducible exact h
    | with_reducible apply Kept.foulPassage
    | with_reducible apply Kept.handPit
    | with_reducible apply Kept.liftPassage
    | with_reducible apply Kept.rackLevel
    | split

theorem tellBlock (h : Kept s u) (p : PairId) (x : BlockChange) :
    Kept s (u.tellBlock p x) := by
  unfold State.tellBlock
  split
  · exact Kept.foldl (fun v k hv => Kept.raiseLane hv _ _) _ h
  · exact Kept.foldl (fun v k hv => Kept.laneConditionEnds hv _ _) _ h

theorem reinitAnswer (h : Kept s u) (p : PairId) (now : NodeTime) (levels : Byte) (ts : List Transition) :
    Kept s (u.reinitAnswer p now levels ts) := by
  unfold State.reinitAnswer
  refine Kept.foldl (fun v x hv => Kept.tellBlock hv _ _) _ (Kept.rackLevel (Kept.modTracker
    (Kept.modTracker (Kept.modFilter h _ ?_) _ _) _ _) _ _)
  exact debounce_reinitFilter ..

theorem orderedAnswer (h : Kept s u) (p : PairId) (now : NodeTime) (levels : Byte) (ts : List Transition) :
    Kept s (u.orderedAnswer p now levels ts) := by
  unfold State.orderedAnswer
  refine Kept.foldl (fun v x hv => Kept.tellBlock hv _ _) _
    (Kept.foldl (fun v x hv => Kept.handOn hv _ _) _ (Kept.modFilter h _ ?_))
  exact debounce_takeAnswerTimes ..

theorem filterAnswer (h : Kept s u) (p : PairId) (now : NodeTime) (levels : Byte) (ts : List Transition) :
    Kept s (u.filterAnswer p now levels ts) := by
  unfold State.filterAnswer
  repeat' first
    | with_reducible exact h
    | with_reducible apply Kept.reinitAnswer
    | with_reducible apply Kept.orderedAnswer
    | split

theorem filterLost (h : Kept s u) (p : PairId) :
    Kept s (u.filterLost p) := by
  unfold State.filterLost
  repeat' first
    | with_reducible exact h
    | with_reducible apply Kept.modFilter
    | split
    | exact fun _ => ⟨rfl, rfl, rfl⟩
    | exact ⟨rfl, rfl, id⟩
    | exact ⟨rfl, rfl, id, fun k => ⟨k.order, k.pendingOrder, k.current⟩⟩
    | rfl

/-! ## Machine/Links.lean -/

theorem sendPoll (h : Kept s u) (p : PairId) :
    Kept s (u.sendPoll p) := by
  unfold State.sendPoll
  repeat' first
    | with_reducible exact h
    | with_reducible apply Kept.modNode
    | with_reducible apply Kept.modPoller
    | split
    | exact fun _ => ⟨rfl, rfl, rfl⟩
    | exact ⟨rfl, rfl, id⟩
    | exact ⟨rfl, rfl, id, fun k => ⟨k.order, k.pendingOrder, k.current⟩⟩

theorem ensurePoll (h : Kept s u) (p : PairId) :
    Kept s (u.ensurePoll p) := by
  unfold State.ensurePoll
  repeat' first
    | with_reducible exact h
    | with_reducible apply Kept.sendPoll
    | split

theorem nextPoll (h : Kept s u) (p : PairId) :
    Kept s (u.nextPoll p) := by
  unfold State.nextPoll
  refine Kept.sendPoll (Kept.modPoller h _ ?_) _
  exact advance_keeps _

theorem placeAwaiting (h : Kept s u) (l : LaneId) :
    Kept s (u.placeAwaiting l) := by
  unfold State.placeAwaiting
  repeat' first
    | with_reducible exact h
    | with_reducible apply Kept.modSupervisor
    | with_reducible apply Kept.placeStop
    | with_reducible apply Kept.stopReleases
    | split

theorem placeDisplay (h : Kept s u) (p : PairId) (d : Side) :
    Kept s (u.placeDisplay p d) := by
  unfold State.placeDisplay
  split
  · exact h
  · split
    · exact h
    · next hq =>
      exact Kept.place (Kept.modPoller h _ ⟨rfl, rfl,
        fun k => (length_takeFrame _ _ hq).trans k, fun k => ⟨k.order, k.pendingOrder, k.current⟩⟩) _ _ _

theorem slotEmptied (h : Kept s u) (p : PairId) (a : NodeAddr) :
    Kept s (u.slotEmptied p a) := by
  unfold State.slotEmptied
  repeat' first
    | with_reducible exact h
    | with_reducible apply Kept.placeAwaiting
    | with_reducible apply Kept.placeWaitingRead
    | with_reducible apply Kept.placeWaitingCount
    | with_reducible apply Kept.placeDisplay
    | split

theorem placeOwed (h : Kept s u) (l : LaneId) :
    Kept s (u.placeOwed l) := by
  unfold State.placeOwed
  repeat' first
    | with_reducible exact h
    | with_reducible apply Kept.modNode
    | with_reducible apply Kept.endUnfinished
    | with_reducible apply Kept.beginSequence
    | with_reducible apply Kept.stopReleases
    | split
    | dsimp only

theorem placeOwedOf (h : Kept s u) (p : PairId) (a : NodeAddr) :
    Kept s (u.placeOwedOf p a) := by
  unfold State.placeOwedOf
  repeat' first
    | with_reducible exact h
    | with_reducible apply Kept.placeOwed
    | split

theorem acked (h : Kept s u) (p : PairId) (a : NodeAddr) (c : Command) :
    Kept s (u.acked p a c) := by
  unfold State.acked
  repeat' first
    | with_reducible exact h
    | with_reducible apply Kept.raiseMachineReport
    | with_reducible apply Kept.acknowledge
    | with_reducible apply Kept.resyncDone
    | split

theorem outputsLost (h : Kept s u) (p : PairId) :
    Kept s (u.outputsLost p) := by
  unfold State.outputsLost
  repeat' first
    | with_reducible exact h
    | with_reducible apply Kept.raiseLane

theorem droppedCommand (h : Kept s u) (p : PairId) (a : NodeAddr) (c : Command) :
    Kept s (u.droppedCommand p a c) := by
  unfold State.droppedCommand
  repeat' first
    | with_reducible exact h
    | with_reducible apply Kept.halt
    | with_reducible apply Kept.stopLost
    | with_reducible apply Kept.park
    | with_reducible apply Kept.raiseMachineReport
    | with_reducible apply Kept.cycleLost
    | with_reducible apply Kept.resyncLost
    | with_reducible apply Kept.readDropped
    | with_reducible apply Kept.outputsLost
    | with_reducible apply Kept.modNode
    | split

theorem unacknowledged (h : Kept s u) (p : PairId) (a : NodeAddr) (c : Command) :
    Kept s (u.unacknowledged p a c) := by
  unfold State.unacknowledged
  repeat' first
    | with_reducible exact h
    | with_reducible apply Kept.modNode
    | with_reducible apply Kept.droppedCommand
    | with_reducible apply Kept.slotEmptied
    | split

theorem resolveCommand (h : Kept s u) (p : PairId) (q : Poll) (r : CommandResult) :
    Kept s (u.resolveCommand p q r) := by
  unfold State.resolveCommand
  repeat' first
    | with_reducible exact h
    | with_reducible apply Kept.clearSlot
    | with_reducible apply Kept.acked
    | with_reducible apply Kept.slotEmptied
    | with_reducible apply Kept.placeOwedOf
    | with_reducible apply Kept.unacknowledged
    | split
    | dsimp only

theorem discardDisplay (h : Kept s u) (p : PairId) (d : Side) :
    Kept s (u.discardDisplay p d) := by
  unfold State.discardDisplay
  exact Kept.modNode (Kept.modPoller (f := fun q => { q with queue := q.queue.filter fun f => f.side ≠ d }) h p
    ⟨rfl, rfl, fun k => (List.length_filter_le _ _).trans k, fun k => ⟨k.order, k.pendingOrder, k.current⟩⟩) _ _ _

theorem slotAtLoss (h : Kept s u) (p : PairId) (a : NodeAddr) :
    Kept s (u.slotAtLoss p a) := by
  unfold State.slotAtLoss
  repeat' first
    | with_reducible exact h
    | with_reducible apply Kept.clearSlot
    | with_reducible apply Kept.resyncDiscarded
    | with_reducible apply Kept.slotEmptied
    | with_reducible apply Kept.discardDisplay
    | split

theorem raiseLoss (h : Kept s u) (p : PairId) (a : NodeAddr) :
    Kept s (u.raiseLoss p a) := by
  unfold State.raiseLoss
  repeat' first
    | with_reducible exact h
    | with_reducible apply Kept.raiseLane
    | split

theorem laneIoAway (h : Kept s u) (p : PairId) (a : NodeAddr) :
    Kept s (u.laneIoAway p a) := by
  unfold State.laneIoAway
  repeat' first
    | with_reducible exact h
    | with_reducible apply Kept.filterLost
    | with_reducible apply Kept.decideWatch
    | split

theorem nodeLost (h : Kept s u) (p : PairId) (a : NodeAddr) :
    Kept s (u.nodeLost p a) := by
  unfold State.nodeLost
  repeat' first
    | with_reducible exact h
    | with_reducible apply Kept.modNode
    | with_reducible apply Kept.slotAtLoss
    | with_reducible apply Kept.raiseLoss
    | with_reducible apply Kept.laneIoAway
    | with_reducible apply Kept.raiseNodeState

theorem miss (h : Kept s u) (p : PairId) (a : NodeAddr) :
    Kept s (u.miss p a) := by
  unfold State.miss
  repeat' first
    | with_reducible exact h
    | with_reducible apply Kept.modNode
    | with_reducible apply Kept.nodeLost
    | split
    | dsimp only

theorem lossEnds (h : Kept s u) (p : PairId) (a : NodeAddr) :
    Kept s (u.lossEnds p a) := by
  unfold State.lossEnds
  repeat' first
    | with_reducible exact h
    | with_reducible apply Kept.laneConditionEnds
    | with_reducible apply Kept.sensorConditionEnds
    | split

theorem laneIoBack (h : Kept s u) (p : PairId) (a : NodeAddr) :
    Kept s (u.laneIoBack p a) := by
  unfold State.laneIoBack
  repeat' first
    | with_reducible exact h
    | with_reducible apply Kept.placeOutputs
    | with_reducible apply Kept.decideWatch
    | split

theorem nodeReturns (h : Kept s u) (p : PairId) (a : NodeAddr) :
    Kept s (u.nodeReturns p a) := by
  unfold State.nodeReturns
  repeat' first
    | with_reducible exact h
    | with_reducible apply Kept.modNode
    | with_reducible apply Kept.lossEnds
    | with_reducible apply Kept.placeOwedOf
    | with_reducible apply Kept.laneIoBack
    | with_reducible apply Kept.raiseNodeState

theorem nodeAnswers (h : Kept s u) (p : PairId) (a : NodeAddr) :
    Kept s (u.nodeAnswers p a) := by
  unfold State.nodeAnswers
  repeat' first
    | with_reducible exact h
    | with_reducible apply Kept.modNode
    | with_reducible apply Kept.placeOwedOf
    | with_reducible apply Kept.nodeReturns
    | split

theorem discardReport (h : Kept s u) (l : LaneId) (superseded : Bool) :
    Kept s (u.discardReport l superseded) := by
  unfold State.discardReport
  repeat' first
    | with_reducible exact h
    | with_reducible apply Kept.modSupervisor

theorem judgeRunning (h : Kept s u) (l : LaneId) (r : CycleRecord) (step : Option Nat) :
    Kept s (u.judgeRunning l r step) := by
  unfold State.judgeRunning
  repeat' first
    | with_reducible exact h
    | with_reducible apply Kept.completeStep
    | with_reducible apply Kept.raiseLane
    | with_reducible apply Kept.sequenceDone
    | split

theorem runningReport (h : Kept s u) (l : LaneId) (r : CycleRecord) (step : Option Nat) :
    Kept s (u.runningReport l r step) := by
  unfold State.runningReport
  repeat' first
    | with_reducible exact h
    | with_reducible apply Kept.reportAcknowledges
    | with_reducible apply Kept.judgeRunning
    | with_reducible apply Kept.placeAwaiting

theorem stepReport (h : Kept s u) (l : LaneId) (number : CycleNo) (step : Option Nat) :
    Kept s (u.stepReport l number step) := by
  unfold State.stepReport
  repeat' first
    | with_reducible exact h
    | with_reducible apply Kept.discardReport
    | with_reducible apply Kept.runningReport
    | with_reducible apply Kept.raiseLane
    | split
    | dsimp only

theorem takeReport (h : Kept s u) (l : LaneId) (r : Report) :
    Kept s (u.takeReport l r) := by
  unfold State.takeReport
  repeat' first
    | with_reducible exact h
    | with_reducible apply Kept.stepReport
    | with_reducible apply Kept.sequenceDone
    | with_reducible apply Kept.raiseLane
    | with_reducible apply Kept.laneConditionEnds
    | split

theorem manualReport (h : Kept s u) (l : LaneId) (r : Report) (a b : Byte) :
    Kept s (u.manualReport l r a b) := by
  unfold State.manualReport
  repeat' first
    | with_reducible exact h
    | with_reducible apply Kept.raiseMachineReport
    | with_reducible apply Kept.laneConditionEnds
    | with_reducible apply Kept.sequenceDone
    | split

theorem pinsetterReport (h : Kept s u) (l : LaneId) (x : Report × Byte × Byte) :
    Kept s (u.pinsetterReport l x) := by
  unfold State.pinsetterReport
  repeat' first
    | with_reducible exact h
    | with_reducible apply Kept.manualReport
    | with_reducible apply Kept.takeReport
    | split

theorem consoleReRack (h : Kept s u) (l : LaneId) :
    Kept s (u.consoleReRack l) := by
  unfold State.consoleReRack
  repeat' first
    | with_reducible exact h
    | with_reducible apply Kept.beginSequence
    | with_reducible apply Kept.raise
    | split

theorem consoleCall (h : Kept s u) (l : LaneId) :
    Kept s (u.consoleCall l) := by
  unfold State.consoleCall
  repeat' first
    | with_reducible exact h
    | with_reducible apply Kept.raise

theorem keystroke (h : Kept s u) (l : LaneId) (k : Keystroke) :
    Kept s (u.keystroke l k) := by
  unfold State.keystroke
  repeat' first
    | with_reducible exact h
    | with_reducible apply Kept.consoleReRack
    | with_reducible apply Kept.consoleCall
    | split

theorem takeContents (h : Kept s u) (p : PairId) (a : NodeAddr) (c : AnswerContents) :
    Kept s (u.takeContents p a c) := by
  unfold State.takeContents
  split
  · exact Kept.foldl (fun v x hv => Kept.pinsetterReport hv _ _) _ h
  · exact Kept.takeReading h _ _
  · exact Kept.filterAnswer h _ _ _ _
  · exact Kept.keystroke h _ _
  · exact h

theorem handContents (h : Kept s u) (p : PairId) (a : NodeAddr) (c : AnswerContents) :
    Kept s (u.handContents p a c) := by
  unfold State.handContents
  repeat' first
    | with_reducible exact h
    | with_reducible apply Kept.takeContents
    | split

theorem examineAt (h : Kept s u) (p : PairId) (a : NodeAddr) :
    Kept s (u.examineAt p a) := by
  unfold State.examineAt
  repeat' first
    | with_reducible exact h
    | with_reducible apply Kept.examineWatch
    | split

theorem takeAnswer (h : Kept s u) (p : PairId) (q : Poll) (x : Answer) :
    Kept s (u.takeAnswer p q x) := by
  unfold State.takeAnswer
  repeat' first
    | with_reducible exact h
    | with_reducible apply Kept.nodeAnswers
    | with_reducible apply Kept.resolveCommand
    | with_reducible apply Kept.handContents
    | with_reducible apply Kept.examineAt
    | with_reducible apply Kept.settlePair
    | with_reducible apply Kept.nextPoll

theorem pollMissed (h : Kept s u) (p : PairId) (q : Poll) :
    Kept s (u.pollMissed p q) := by
  unfold State.pollMissed
  repeat' first
    | with_reducible exact h
    | with_reducible apply Kept.miss
    | with_reducible apply Kept.resolveCommand
    | with_reducible apply Kept.examineAt
    | with_reducible apply Kept.settlePair
    | with_reducible apply Kept.nextPoll

theorem countWrongAddress (h : Kept s u) (p : PairId) :
    Kept s (u.countWrongAddress p) := by
  unfold State.countWrongAddress
  repeat' first
    | with_reducible exact h
    | with_reducible apply Kept.modPoller
    | split
    | exact fun _ => ⟨rfl, rfl, rfl⟩
    | exact ⟨rfl, rfl, id⟩
    | exact ⟨rfl, rfl, id, fun k => ⟨k.order, k.pendingOrder, k.current⟩⟩

theorem countDamaged (h : Kept s u) (p : PairId) :
    Kept s (u.countDamaged p) := by
  unfold State.countDamaged
  repeat' first
    | with_reducible exact h
    | with_reducible apply Kept.modPoller
    | split
    | exact fun _ => ⟨rfl, rfl, rfl⟩
    | exact ⟨rfl, rfl, id⟩
    | exact ⟨rfl, rfl, id, fun k => ⟨k.order, k.pendingOrder, k.current⟩⟩

theorem countAbandoned (h : Kept s u) (p : PairId) :
    Kept s (u.countAbandoned p) := by
  unfold State.countAbandoned
  repeat' first
    | with_reducible exact h
    | with_reducible apply Kept.modPoller
    | split
    | exact fun _ => ⟨rfl, rfl, rfl⟩
    | exact ⟨rfl, rfl, id⟩
    | exact ⟨rfl, rfl, id, fun k => ⟨k.order, k.pendingOrder, k.current⟩⟩

theorem answerFrame (h : Kept s u) (p : PairId) (q : Poll) (frame : List Byte) :
    Kept s (u.answerFrame p q frame) := by
  unfold State.answerFrame
  repeat' first
    | with_reducible exact h
    | with_reducible apply Kept.countDamaged
    | with_reducible apply Kept.countWrongAddress
    | with_reducible apply Kept.countAbandoned
    | with_reducible apply Kept.takeAnswer
    | split

theorem timeoutPoll (h : Kept s u) (p : PairId) (q : Poll) :
    Kept s (u.timeoutPoll p q) := by
  unfold State.timeoutPoll
  repeat' first
    | with_reducible exact h
    | with_reducible apply Kept.sendPoll
    | with_reducible apply Kept.pollMissed
    | split

/-! ## Machine/Loads.lean -/

theorem mendOrder (h : Kept s u) (before : State) (p : PairId) :
    Kept s (u.mendOrder before p) := by
  unfold State.mendOrder
  repeat' first
    | with_reducible exact h
    | with_reducible apply Kept.modPoller
    | split
    | exact ⟨rfl, rfl, id, fun k => ⟨k.order, fun o ho => by cases ho; decide, k.current⟩⟩

/-! ## Machine/Desk.lean -/

theorem restartReader (h : Kept s u) (l : LaneId) :
    Kept s (u.restartReader l) := by
  unfold State.restartReader
  repeat' first
    | with_reducible exact h
    | with_reducible apply Kept.resyncDiscarded
    | split

theorem restartSupervisor (h : Kept s u) (l : LaneId) :
    Kept s (u.restartSupervisor l) := by
  unfold State.restartSupervisor
  repeat' first
    | with_reducible exact h
    | with_reducible apply Kept.modSupervisor

theorem restartConditions (h : Kept s u) (l : LaneId) :
    Kept s (u.restartConditions l) := by
  unfold State.restartConditions
  repeat' first
    | with_reducible exact h
    | with_reducible apply Kept.laneConditionEnds
    | with_reducible apply Kept.sensorConditionEnds

theorem restartLink (h : Kept s u) (p : PairId) :
    Kept s (u.restartLink p) := by
  have base : Kept s ((((u.restartReader (laneAt p .left)).restartReader
      (laneAt p .right)).discardDisplay p .left).discardDisplay p .right) :=
    Kept.discardDisplay (Kept.discardDisplay (Kept.restartReader (Kept.restartReader h _) _) _ _) _ _
  have empty := Kept.modPoller (f := restartPoller) base p (restartPoller_keeps _)
  exact Kept.raiseNodeState (Kept.decideWatch (Kept.filterLost (Kept.restartConditions
    (Kept.restartConditions (Kept.restartSupervisor (Kept.restartSupervisor empty _) _) _) _) _) _
    _) _ _

theorem clearUnlisted (h : Kept s u) (l : LaneId) :
    Kept s (u.clearUnlisted l) := by
  unfold State.clearUnlisted
  repeat' first
    | with_reducible exact h
    | with_reducible apply Kept.modMeter

/-! ## Machine/SessionRequests.lean -/

theorem takeRecord (h : Kept s u) (i : SessionId) (mode : Mode) (l : LaneId) (t : Terms) (bowlers : List Bowler) :
    Kept s (u.takeRecord i mode l t bowlers) := by
  unfold State.takeRecord
  repeat' first
    | with_reducible exact h
    | with_reducible apply Kept.setSession

theorem openLane (h : Kept s u) (l : LaneId) (i : SessionId) (t : Terms) (bowlers : List Bowler) :
    Kept s (u.openLane l i t bowlers) := by
  unfold State.openLane
  repeat' first
    | with_reducible exact h
    | with_reducible apply Kept.takeRecord
    | with_reducible apply Kept.modEntry
    | with_reducible apply Kept.warningTest
    | with_reducible apply Kept.raiseSessionState
    | with_reducible apply Kept.decideLift
    | with_reducible apply Kept.holderArrives
    | split
    | exact fun _ => ⟨rfl, rfl, rfl⟩

theorem openTeam (h : Kept s u) (p : PairId) (d : Side) (i : SessionId) (t : Terms) (bowlers : List Bowler) :
    Kept s (u.openTeam p d i t bowlers) := by
  unfold State.openTeam
  repeat' first
    | with_reducible exact h
    | with_reducible apply Kept.takeRecord
    | with_reducible apply Kept.modEntry
    | split
    | exact fun _ => ⟨rfl, rfl, rfl⟩

theorem openPair (h : Kept s u) (p : PairId) (i j : SessionId) (t1 t2 : Terms) (b1 b2 : List Bowler) :
    Kept s (u.openPair p i j t1 t2 b1 b2) := by
  unfold State.openPair
  repeat' first
    | with_reducible exact h
    | with_reducible apply Kept.openTeam
    | with_reducible apply Kept.grant
    | with_reducible apply Kept.warningTest
    | with_reducible apply Kept.raiseSessionState
    | with_reducible apply Kept.decideLift
    | with_reducible apply Kept.holderArrives

theorem withdraw (h : Kept s u) (i : SessionId) (x : Session) (slot : Nat) :
    Kept s (u.withdraw i x slot) := by
  unfold State.withdraw
  repeat' first
    | with_reducible exact h
    | with_reducible apply Kept.modSession
    | with_reducible apply Kept.withdrawNow
    | with_reducible apply Kept.settlePair
    | split

theorem closeSession (h : Kept s u) (i : SessionId) :
    Kept s (u.closeSession i) := by
  unfold State.closeSession
  repeat' first
    | with_reducible exact h
    | with_reducible apply Kept.becomeClosing
    | with_reducible apply Kept.dropOverdue
    | with_reducible apply Kept.tryClose
    | split
    | dsimp only

theorem beginMove (h : Kept s u) (i : SessionId) (source target : LaneId) (r : MoveResume) :
    Kept s (u.beginMove i source target r) := by
  unfold State.beginMove
  repeat' first
    | with_reducible exact h
    | with_reducible apply Kept.modSession
    | with_reducible apply Kept.modEntry
    | with_reducible apply Kept.armingCheck
    | with_reducible apply Kept.raiseSessionState
    | with_reducible apply Kept.settleLane
    | split
    | exact fun _ => ⟨rfl, rfl, rfl⟩

theorem extendStopped (h : Kept s u) (i : SessionId) (x : Session) :
    Kept s (u.extendStopped i x) := by
  unfold State.extendStopped
  repeat' first
    | with_reducible exact h
    | with_reducible apply Kept.modSession
    | with_reducible apply Kept.raiseSessionState
    | with_reducible apply Kept.armingCheck

theorem extendExhausted (h : Kept s u) (i : SessionId) (x : Session) :
    Kept s (u.extendExhausted i x) := by
  unfold State.extendExhausted
  repeat' first
    | with_reducible exact h
    | with_reducible apply Kept.modSession
    | with_reducible apply Kept.raiseSessionState
    | with_reducible apply Kept.holderArrives

theorem extendEffects (h : Kept s u) (i : SessionId) (x : Session) :
    Kept s (u.extendEffects i x) := by
  unfold State.extendEffects
  repeat' first
    | with_reducible exact h
    | with_reducible apply Kept.extendStopped
    | with_reducible apply Kept.extendExhausted
    | split

theorem extend (h : Kept s u) (i : SessionId) (x : Session) (k : Limit) :
    Kept s (u.extend i x k) := by
  unfold State.extend
  repeat' first
    | with_reducible exact h
    | with_reducible apply Kept.modSession
    | with_reducible apply Kept.extendEffects
    | with_reducible apply Kept.warningTest

/-! ## Machine/MachineRequests.lean -/

theorem startMachine (h : Kept s u) (l : LaneId) (r : Option Resume) :
    Kept s (u.startMachine l r) := by
  unfold State.startMachine
  repeat' first
    | with_reducible exact h
    | with_reducible apply Kept.modSupervisor
    | with_reducible apply Kept.beginSequence

theorem stopMachine (h : Kept s u) (l : LaneId) (k : StopKind) :
    Kept s (u.stopMachine l k) := by
  unfold State.stopMachine
  repeat' first
    | with_reducible exact h
    | with_reducible apply Kept.clearStart
    | with_reducible apply Kept.halt
    | with_reducible apply Kept.park
    | with_reducible apply Kept.settlePair
    | split

theorem enterManual (h : Kept s u) (l : LaneId) :
    Kept s (u.enterManual l) := by
  unfold State.enterManual
  repeat' first
    | with_reducible exact h
    | with_reducible apply Kept.modEntry
    | with_reducible apply Kept.modSupervisor
    | with_reducible apply Kept.raiseMachineState
    | with_reducible apply Kept.laneChanged
    | split
    | exact fun _ => ⟨rfl, rfl, rfl⟩

theorem leaveManual (h : Kept s u) (l : LaneId) :
    Kept s (u.leaveManual l) := by
  unfold State.leaveManual
  repeat' first
    | with_reducible exact h
    | with_reducible apply Kept.modNode
    | with_reducible apply Kept.modEntry
    | with_reducible apply Kept.modSupervisor
    | with_reducible apply Kept.raiseMachineState
    | with_reducible apply Kept.laneChanged
    | split
    | exact fun _ => ⟨rfl, rfl, rfl⟩

theorem serviceClear (h : Kept s u) (l : LaneId) :
    Kept s (u.serviceClear l) := by
  unfold State.serviceClear
  repeat' first
    | with_reducible exact h
    | with_reducible apply Kept.modSupervisor
    | with_reducible apply Kept.raiseMachineState
    | with_reducible apply Kept.laneChanged
    | split

theorem restartOther (h : Kept s u) (l : LaneId) (removed : List FaultEntry) (r : Option Resume) :
    Kept s (u.restartOther l removed r) := by
  unfold State.restartOther
  split
  · unfold State.restart
    split
    · exact h
    · split
      · exact Kept.setFollowOn h _ _
      · exact Kept.beginSequence h _ _ _
  · exact h

/-! ## Machine/BallRequests.lean -/

theorem enterBall (h : Kept s u) (l : LaneId) (x : Session) (pins : PinSet) :
    Kept s (u.enterBall l x pins) := by
  unfold State.enterBall
  repeat' first
    | with_reducible exact h
    | with_reducible apply Kept.modTracker
    | with_reducible apply Kept.removeLaneFault
    | with_reducible apply Kept.handResult
    | with_reducible apply Kept.settlePair

theorem correctBall (h : Kept s u) (i : SessionId) (x : Session) (slot frame index pinfall : Nat) (b : Bowler) (ball : Ball) :
    Kept s (u.correctBall i x slot frame index pinfall b ball) := by
  unfold State.correctBall
  repeat' first
    | with_reducible exact h
    | with_reducible apply Kept.setSession
    | with_reducible apply Kept.raiseGameDone
    | with_reducible apply Kept.raiseBallScored
    | split

/-! ## Machine/Events.lean -/

theorem linkFrame (h : Kept s u) (p : PairId) (frame : List Byte) :
    Kept s (u.linkFrame p frame) := by
  unfold State.linkFrame
  repeat' first
    | with_reducible exact h
    | with_reducible apply Kept.answerFrame
    | split

theorem settleSession (h : Kept s u) (i : SessionId) :
    Kept s (u.settleSession i) := by
  unfold State.settleSession
  repeat' first
    | with_reducible exact h
    | with_reducible apply Kept.settleLane
    | split

theorem sessionTick (h : Kept s u) (i : SessionId) :
    Kept s (u.sessionTick i) := by
  unfold State.sessionTick
  repeat' first
    | with_reducible exact h
    | with_reducible apply Kept.billingTick
    | with_reducible apply Kept.settleSession

theorem expiryEnds (h : Kept s u) (i : SessionId) :
    Kept s (u.expiryEnds i) := by
  unfold State.expiryEnds
  repeat' first
    | with_reducible exact h
    | with_reducible apply Kept.endExpiryWait
    | with_reducible apply Kept.settleSession
    | split

end Sys2Proof.Machine.Kept
end

