-- ==== Sys2Proof/Laws/KeptRequests.lean ====
section
/-! SUPPORT. What the requests keep: one lemma for each request that loads no table, and for the
equipment's clearing of faults. -/

namespace Sys2Proof.Machine.Kept

open Sys2Proof

variable {s u : State}

theorem reqPassThrough (h : Kept s u) (lane : Nat) (payload : List Byte) :
    Kept s (Machine.reqPassThrough lane payload u).1 := by
  unfold Machine.reqPassThrough
  split
  · exact h
  · dsimp only
    split
    · exact h
    · split
      · exact h
      · split
        · exact h
        · next hq =>
          refine Kept.placeDisplay (Kept.modPoller h _ ⟨rfl, rfl, fun _ => ?_,
            fun k => ⟨k.order, k.pendingOrder, k.current⟩⟩) _ _
          simp only [List.length_append, List.length_singleton]; omega

theorem reqRestartPairLink (h : Kept s u) (pair : Nat) :
    Kept s (Machine.reqRestartPairLink pair u).1 := by
  unfold Machine.reqRestartPairLink
  repeat' first
    | with_reducible exact h
    | with_reducible apply Kept.restartLink
    | split

theorem reqTrimTrack (h : Kept s u) (pair count : Nat) :
    Kept s (Machine.reqTrimTrack pair count u).1 := by
  unfold Machine.reqTrimTrack
  repeat' first
    | with_reducible exact h
    | with_reducible apply Kept.trim
    | with_reducible apply Kept.settlePair
    | split

theorem reqStageEntry (h : Kept s u) (slot : Nat) (entry : Option PeriodFields) :
    Kept s (Machine.reqStageEntry slot entry u).1 := by
  unfold Machine.reqStageEntry
  split
  · exact h
  · split
    · split
      · exact Kept.setTariff h _ rfl fun k => k.setSlot _ _ fun _ e => absurd e (by simp)
      · split
        · exact h
        · next hf =>
          exact Kept.setTariff h _ rfl fun k => k.setSlot _ _ fun _ e =>
            Option.some.inj e ▸ periodOk_of hf
    · exact h

theorem reqStageClassDefault (h : Kept s u) (tariffClass : Nat) (d : ClassDefault) :
    Kept s (Machine.reqStageClassDefault tariffClass d u).1 := by
  unfold Machine.reqStageClassDefault
  split
  · exact h
  · split
    · next hd _ => exact Kept.setTariff h _ rfl fun k => k.setDefault _ (classDefaultOk_of hd)
    · exact h
    · exact h

theorem reqCommitTariff (h : Kept s u) (count check : Nat) :
    Kept s (Machine.reqCommitTariff count check u).1 := by
  unfold Machine.reqCommitTariff State.commit
  split
  · exact h
  · split
    · exact h
    · next hc =>
      split
      · exact h
      · split
        · split
          · exact Kept.swap h _
          · exact Kept.setTariff h _ rfl fun k => k.setPending fun _ e => by
              cases e; exact Nat.le_of_not_lt hc
        · exact h

theorem reqCancelCommit (h : Kept s u) :
    Kept s (Machine.reqCancelCommit u).1 := by
  unfold Machine.reqCancelCommit
  split
  · exact Kept.setTariff h _ rfl fun k => k.setPending fun _ e => absurd e (by simp)
  · exact h

theorem reqReadLane (h : Kept s u) (lane : Nat) :
    Kept s (Machine.reqReadLane lane u).1 := by
  unfold Machine.reqReadLane
  repeat' first
    | with_reducible exact h
    | split

theorem reqReadSession (h : Kept s u) (session : Nat) :
    Kept s (Machine.reqReadSession session u).1 := by
  unfold Machine.reqReadSession
  repeat' first
    | with_reducible exact h
    | split

theorem reqReadDevice (h : Kept s u) :
    Kept s (Machine.reqReadDevice u).1 := by
  unfold Machine.reqReadDevice
  repeat' first
    | with_reducible exact h

theorem reqReadReturn (h : Kept s u) (pair : Nat) :
    Kept s (Machine.reqReadReturn pair u).1 := by
  unfold Machine.reqReadReturn
  repeat' first
    | with_reducible exact h
    | split

theorem reqReadTariff (h : Kept s u) (copy : TariffCopy) :
    Kept s (Machine.reqReadTariff copy u).1 := by
  unfold Machine.reqReadTariff
  repeat' first
    | with_reducible exact h

theorem reqReadNoticeStatus (h : Kept s u) :
    Kept s (Machine.reqReadNoticeStatus u).1 := by
  unfold Machine.reqReadNoticeStatus
  repeat' first
    | with_reducible exact h

theorem reqOpenLane (h : Kept s u) (lane : Nat) (terms : TermSelectors) (entries : List BowlerEntry) :
    Kept s (Machine.reqOpenLane lane terms entries u).1 := by
  unfold Machine.reqOpenLane
  repeat' first
    | with_reducible exact h
    | with_reducible apply Kept.openLane
    | split

theorem reqOpenPairPlay (h : Kept s u) (pair : Nat) (terms : TermSelectors) (team1 team2 : List BowlerEntry) :
    Kept s (Machine.reqOpenPairPlay pair terms team1 team2 u).1 := by
  unfold Machine.reqOpenPairPlay
  repeat' first
    | with_reducible exact h
    | with_reducible apply Kept.openPair
    | split
    | dsimp only

theorem reqAddBowler (h : Kept s u) (session : Nat) (e : BowlerEntry) :
    Kept s (Machine.reqAddBowler session e u).1 := by
  unfold Machine.reqAddBowler
  repeat' first
    | with_reducible exact h
    | with_reducible apply Kept.setSession
    | split
    | dsimp only

theorem reqWithdrawBowler (h : Kept s u) (session slot : Nat) :
    Kept s (Machine.reqWithdrawBowler session slot u).1 := by
  unfold Machine.reqWithdrawBowler
  repeat' first
    | with_reducible exact h
    | with_reducible apply Kept.withdraw
    | split

theorem reqCloseLane (h : Kept s u) (lane : Nat) (session : Option Nat) :
    Kept s (Machine.reqCloseLane lane session u).1 := by
  unfold Machine.reqCloseLane
  repeat' first
    | with_reducible exact h
    | with_reducible exact Kept.settlePair (Kept.foldl (fun v x hv => Kept.closeSession hv x) _ h) _
    | split

theorem reqMoveSession (h : Kept s u) (session target : Nat) (r : MoveResume) :
    Kept s (Machine.reqMoveSession session target r u).1 := by
  unfold Machine.reqMoveSession
  repeat' first
    | with_reducible exact h
    | with_reducible apply Kept.beginMove
    | split

theorem reqExtendLimit (h : Kept s u) (session value : Nat) :
    Kept s (Machine.reqExtendLimit session value u).1 := by
  unfold Machine.reqExtendLimit
  repeat' first
    | with_reducible exact h
    | with_reducible apply Kept.extend
    | split

theorem reqStartMachine (h : Kept s u) (lane : Nat) (r : Option Resume) :
    Kept s (Machine.reqStartMachine lane r u).1 := by
  unfold Machine.reqStartMachine
  repeat' first
    | with_reducible exact h
    | with_reducible apply Kept.startMachine
    | split

theorem reqStopMachine (h : Kept s u) (lane : Nat) (k : StopKind) :
    Kept s (Machine.reqStopMachine lane k u).1 := by
  unfold Machine.reqStopMachine
  repeat' first
    | with_reducible exact h
    | with_reducible apply Kept.stopMachine
    | split

theorem reqReRack (h : Kept s u) (lane : Nat) :
    Kept s (Machine.reqReRack lane u).1 := by
  unfold Machine.reqReRack
  repeat' first
    | with_reducible exact h
    | with_reducible apply Kept.beginSequence
    | split

theorem reqEnterManual (h : Kept s u) (lane : Nat) :
    Kept s (Machine.reqEnterManual lane u).1 := by
  unfold Machine.reqEnterManual
  repeat' first
    | with_reducible exact h
    | with_reducible apply Kept.enterManual
    | split

theorem reqLeaveManual (h : Kept s u) (lane : Nat) :
    Kept s (Machine.reqLeaveManual lane u).1 := by
  unfold Machine.reqLeaveManual
  repeat' first
    | with_reducible exact h
    | with_reducible apply Kept.leaveManual
    | split

theorem reqManualCommand (h : Kept s u) (lane : Nat) (body : List Byte) :
    Kept s (Machine.reqManualCommand lane body u).1 := by
  unfold Machine.reqManualCommand
  repeat' first
    | with_reducible exact h
    | with_reducible apply Kept.place
    | split

theorem reqEnterBall (h : Kept s u) (lane session : Nat) (pins : List Nat) :
    Kept s (Machine.reqEnterBall lane session pins u).1 := by
  unfold Machine.reqEnterBall
  repeat' first
    | with_reducible exact h
    | with_reducible apply Kept.enterBall
    | split

theorem reqCorrectBall (h : Kept s u) (session slot game frame index pinfall : Nat) :
    Kept s (Machine.reqCorrectBall session slot game frame index pinfall u).1 := by
  unfold Machine.reqCorrectBall
  repeat' first
    | with_reducible exact h
    | with_reducible apply Kept.correctBall
    | split

theorem reqResyncReader (h : Kept s u) (lane : Nat) :
    Kept s (Machine.reqResyncReader lane u).1 := by
  unfold Machine.reqResyncReader
  repeat' first
    | with_reducible exact h
    | with_reducible apply Kept.resync
    | split

theorem reqCollectCharges (h : Kept s u) (maximum : Nat) (unlisted : Bool) :
    Kept s (Machine.reqCollectCharges maximum unlisted u).1 := by
  have k : u.charges.lines.length ≤ chargeCapacity →
      (takeLines maximum u.charges).lines.length ≤ chargeCapacity := by
    simp only [takeLines, List.length_drop]; omega
  have e : Kept s { u with charges := takeLines maximum u.charges } :=
    { h with charges := fun x => k (h.charges x) }
  unfold Machine.reqCollectCharges
  split
  · exact h
  · dsimp only
    split
    · exact Kept.foldl (fun v x hv => Kept.clearUnlisted hv x) _ e
    · exact e

/-- R117, R118: the clearing of faults by the desk. -/
theorem clearFaults (h : Kept s u) (l : LaneId) (removed : List FaultEntry) (r : Option Resume) :
    Kept s (u.clearFaults l removed r).1 := by
  have e : Kept s (removed.foldl (State.clearEntry l) u) := by
    refine Kept.foldl (fun v f hv => ?_) _ h
    unfold State.clearEntry
    split
    · exact Kept.serviceClear (Kept.removeLaneFault hv _ _ _) _
    · exact Kept.removePairFault hv _ _ _
    · exact Kept.removeLaneFault hv _ _ _
  have k : Kept s ((removed.foldl (State.clearEntry l) u).restart l r).1 := by
    unfold State.restart
    split
    · exact e
    · split
      · exact Kept.setFollowOn e _ _
      · exact Kept.beginSequence e _ _ _
  exact Kept.settlePair (Kept.restartOther k _ _ _) _

theorem reqClearFault (h : Kept s u) (lane classCode : Nat) (serviceDone : Bool)
    (resume : Option Nat) :
    Kept s (Machine.reqClearFault lane classCode serviceDone resume u).1 := by
  unfold Machine.reqClearFault
  repeat' first
    | with_reducible exact h
    | with_reducible exact Kept.clearFaults h _ _ _
    | split
    | dsimp only

end Sys2Proof.Machine.Kept
end

