-- ==== Sys2Proof/Laws/OnPair.lean ====
section
/-! SUPPORT. `OnPair p`: reflexive, transitive, and kept by the named updates of one pair's lanes,
nodes and return. `Laws/OnPairOps.lean` has one lemma for each operation of the Machine Supervisor and
of the lift. -/

namespace Sys2Proof.Machine

open Sys2Proof

namespace OnPair

theorem refl (p : PairId) (s : State) : OnPair p s s where
  others := rfl
  lanes := fun _ _ => rfl
  pairs := fun _ _ => rfl
  entry := fun _ => rfl
  meter := fun _ => rfl
  classes := fun _ => rfl
  pairFaults := fun _ => rfl
  pitCount := fun _ => rfl
  filter := fun _ => rfl
  track := fun _ => rfl
  poll := fun _ => rfl

theorem trans {p : PairId} {s t u : State} (h : OnPair p s t) (k : OnPair p t u) :
    OnPair p s u where
  others := by rw [k.others, h.others]
  lanes := fun x hx => (k.lanes x hx).trans (h.lanes x hx)
  pairs := fun x hx => (k.pairs x hx).trans (h.pairs x hx)
  entry := fun x => (k.entry x).trans (h.entry x)
  meter := fun x => (k.meter x).trans (h.meter x)
  classes := fun x => (k.classes x).trans (h.classes x)
  pairFaults := fun x => (k.pairFaults x).trans (h.pairFaults x)
  pitCount := fun x => (k.pitCount x).trans (h.pitCount x)
  filter := fun x => (k.filter x).trans (h.filter x)
  track := fun x => (k.track x).trans (h.track x)
  poll := fun x => (k.poll x).trans (h.poll x)

/-- The sessions, as read. -/
theorem session {p : PairId} {s t : State} (h : OnPair p s t) (i : SessionId) :
    t.session i = s.session i := by rw [h.others]; rfl

/-- The holder of a lane, as read. -/
theorem holder {p : PairId} {s t : State} (h : OnPair p s t) (l : LaneId) :
    t.holder l = s.holder l := by
  simp only [State.holder, h.entry l, h.session]

variable {p : PairId} {s u : State}

theorem raiseWith (h : OnPair p s u) (n : Nat) (x : NoticePayload) (w : Nat) :
    OnPair p s (u.raiseWith n x w) :=
  { h with others := by rw [h.others]; rfl }

theorem raise (h : OnPair p s u) (n : Nat) (x : NoticePayload) : OnPair p s (u.raise n x) :=
  h.raiseWith n x _

/-- The records of one of the pair's lanes replaced, with the lane table entry, the meter and the pit
count as they were. -/
theorem setLane (h : OnPair p s u) (l : LaneId) (x : Lane) (hl : pairOf l = p)
    (hx : x.entry = u.entry l ∧ x.meter = u.meter l ∧
      x.tracker.pitCount = (u.tracker l).pitCount ∧
      x.faults.map (·.cls) = (u.lane l).faults.map (·.cls)) :
    OnPair p s (u.setLane l x) where
  others := by rw [h.others]; rfl
  lanes := fun k hk => by
    rw [lane_setLane, if_neg (by rintro rfl; exact hk hl)]; exact h.lanes k hk
  pairs := h.pairs
  entry := fun k => by
    rw [State.entry, lane_setLane]; split
    · next e => subst e; exact hx.1.trans (h.entry _)
    · exact h.entry k
  meter := fun k => by
    rw [State.meter, lane_setLane]; split
    · next e => subst e; exact hx.2.1.trans (h.meter _)
    · exact h.meter k
  pitCount := fun k => by
    rw [State.tracker, lane_setLane]; split
    · next e => subst e; exact hx.2.2.1.trans (h.pitCount _)
    · exact h.pitCount k
  classes := fun k => by
    rw [lane_setLane]; split
    · next e => subst e; exact hx.2.2.2.trans (h.classes _)
    · exact h.classes k
  pairFaults := h.pairFaults
  filter := h.filter
  track := h.track
  poll := h.poll

/-- The records of the pair replaced, with the filter, the track list and the poll as they were. -/
theorem setPair (h : OnPair p s u) (q : PairId) (x : Pair) (hq : q = p)
    (hx : x.filter = u.filter q ∧ x.ballReturn.track = (u.ballReturn q).track ∧
      x.poller.poll = (u.poller q).poll ∧ x.faults = (u.pair q).faults) :
    OnPair p s (u.setPair q x) where
  others := by rw [h.others]; rfl
  lanes := h.lanes
  pairs := fun k hk => by
    rw [pair_setPair, if_neg (by rintro rfl; exact hk hq)]; exact h.pairs k hk
  entry := h.entry
  meter := h.meter
  classes := h.classes
  pairFaults := fun k => by
    rw [pair_setPair]; split
    · next e => subst e; exact hx.2.2.2.trans (h.pairFaults _)
    · exact h.pairFaults k
  pitCount := h.pitCount
  filter := fun k => by
    rw [State.filter, pair_setPair]; split
    · next e => subst e; exact hx.1.trans (h.filter _)
    · exact h.filter k
  track := fun k => by
    rw [State.ballReturn, pair_setPair]; split
    · next e => subst e; exact hx.2.1.trans (h.track _)
    · exact h.track k
  poll := fun k => by
    rw [State.poller, pair_setPair]; split
    · next e => subst e; exact hx.2.2.1.trans (h.poll _)
    · exact h.poll k

theorem modTracker (h : OnPair p s u) (l : LaneId) {f : Tracker → Tracker} (hl : pairOf l = p)
    (hf : (f (u.tracker l)).pitCount = (u.tracker l).pitCount) :
    OnPair p s (u.modTracker l f) := h.setLane l _ hl ⟨rfl, rfl, hf, rfl⟩

theorem modSupervisor (h : OnPair p s u) (l : LaneId) (f : Supervisor → Supervisor)
    (hl : pairOf l = p) : OnPair p s (u.modSupervisor l f) := h.setLane l _ hl ⟨rfl, rfl, rfl, rfl⟩

/-- The conditions of a lane's fault entries changed. -/
theorem setLaneFaults (h : OnPair p s u) (l : LaneId) {fs : List FaultEntry} (hl : pairOf l = p)
    (hf : fs.map (·.cls) = (u.lane l).faults.map (·.cls)) :
    OnPair p s (u.setLaneFaults l fs) := h.setLane l _ hl ⟨rfl, rfl, rfl, hf⟩

theorem modPoller (h : OnPair p s u) (q : PairId) {f : Poller → Poller} (hq : q = p)
    (hf : (f (u.poller q)).poll = (u.poller q).poll) :
    OnPair p s (u.modPoller q f) := h.setPair q _ hq ⟨rfl, rfl, hf, rfl⟩

theorem modNode (h : OnPair p s u) (q : PairId) (a : NodeAddr) (f : Node → Node) (hq : q = p) :
    OnPair p s (u.modNode q a f) := h.modPoller q hq rfl

theorem modReturn (h : OnPair p s u) (q : PairId) {f : BallReturn → BallReturn} (hq : q = p)
    (hf : (f (u.ballReturn q)).track = (u.ballReturn q).track) :
    OnPair p s (u.modReturn q f) := h.setPair q _ hq ⟨rfl, hf, rfl, rfl⟩

end OnPair

end Sys2Proof.Machine
end

