-- ==== Sys2Proof/Laws/OnPairOps.lean ====
section
/-! SUPPORT. One lemma for each operation that stays on one pair's equipment: it keeps what `OnPair`
says. -/

namespace Sys2Proof.Machine.OnPair

open Sys2Proof

variable {pr : PairId} {s u : State}

/-! ## Machine/Notices.lean -/

theorem raiseMachineState (h : OnPair pr s u) (l : LaneId) (_hl : pairOf l = pr) :
    OnPair pr s (u.raiseMachineState l) := by
  unfold State.raiseMachineState
  repeat' first
    | with_reducible exact h
    | with_reducible assumption
    | with_reducible apply OnPair.raise

theorem raiseSessionState (h : OnPair pr s u) (i : SessionId) (previous : Option LaneId) :
    OnPair pr s (u.raiseSessionState i previous) := by
  unfold State.raiseSessionState
  repeat' first
    | with_reducible exact h
    | with_reducible assumption
    | with_reducible apply OnPair.raise
    | split

theorem raiseSessionClosed (h : OnPair pr s u) (i : SessionId) (lane : LaneId) (_hlane : pairOf lane = pr) :
    OnPair pr s (u.raiseSessionClosed i lane) := by
  unfold State.raiseSessionClosed
  repeat' first
    | with_reducible exact h
    | with_reducible assumption
    | with_reducible apply OnPair.raise

theorem raiseReturnState (h : OnPair pr s u) (p : PairId) (_hp : p = pr) :
    OnPair pr s (u.raiseReturnState p) := by
  unfold State.raiseReturnState
  repeat' first
    | with_reducible exact h
    | with_reducible assumption
    | with_reducible apply OnPair.raise

theorem raiseNodeState (h : OnPair pr s u) (p : PairId) (a : Option NodeAddr) (_hp : p = pr) :
    OnPair pr s (u.raiseNodeState p a) := by
  unfold State.raiseNodeState
  repeat' first
    | with_reducible exact h
    | with_reducible assumption
    | with_reducible apply OnPair.raise

theorem raiseMachineReport (h : OnPair pr s u) (l : LaneId) (r : MachineReport) (hl : pairOf l = pr) :
    OnPair pr s (u.raiseMachineReport l r) := by
  unfold State.raiseMachineReport
  repeat' first
    | with_reducible exact h
    | with_reducible assumption
    | with_reducible apply OnPair.modSupervisor
    | with_reducible apply OnPair.raise

/-! ## Machine/Slots.lean -/

theorem place (h : OnPair pr s u) (p : PairId) (a : NodeAddr) (c : Command) (hp : p = pr) :
    OnPair pr s (u.place p a c) := by
  unfold State.place
  repeat' first
    | with_reducible exact h
    | with_reducible assumption
    | with_reducible apply OnPair.modNode
    | split

theorem clearSlot (h : OnPair pr s u) (p : PairId) (a : NodeAddr) (hp : p = pr) :
    OnPair pr s (u.clearSlot p a) := by
  unfold State.clearSlot
  repeat' first
    | with_reducible exact h
    | with_reducible assumption
    | with_reducible apply OnPair.modNode

theorem armingCheck (h : OnPair pr s u) (l : LaneId) (hl : pairOf l = pr) :
    OnPair pr s (u.armingCheck l) := by
  unfold State.armingCheck
  repeat' first
    | with_reducible exact h
    | with_reducible assumption
    | with_reducible apply OnPair.modTracker
    | split
    | exact (pairOf_laneAt _ _).trans (by assumption)
    | rfl

theorem armPair (h : OnPair pr s u) (p : PairId) (hp : p = pr) :
    OnPair pr s (u.armPair p) := by
  unfold State.armPair
  repeat' first
    | with_reducible exact h
    | with_reducible assumption
    | with_reducible apply OnPair.armingCheck
    | split
    | exact (pairOf_laneAt _ _).trans (by assumption)

theorem decideWatch (h : OnPair pr s u) (p : PairId) (removed : Bool) (hp : p = pr) :
    OnPair pr s (u.decideWatch p removed) := by
  unfold State.decideWatch
  repeat' first
    | with_reducible exact h
    | with_reducible assumption
    | with_reducible apply OnPair.modReturn
    | split
    | exact (pairOf_laneAt _ _).trans (by assumption)
    | rfl

theorem placeOutputs (h : OnPair pr s u) (p : PairId) (hp : p = pr) :
    OnPair pr s (u.placeOutputs p) := by
  unfold State.placeOutputs
  repeat' first
    | with_reducible exact h
    | with_reducible assumption
    | with_reducible apply OnPair.place
    | split

theorem decideLift (h : OnPair pr s u) (p : PairId) (hp : p = pr) :
    OnPair pr s (u.decideLift p) := by
  unfold State.decideLift
  repeat' first
    | with_reducible exact h
    | with_reducible assumption
    | with_reducible apply OnPair.modReturn
    | with_reducible apply OnPair.raiseReturnState
    | with_reducible apply OnPair.placeOutputs
    | with_reducible apply OnPair.decideWatch
    | split
    | exact (pairOf_laneAt _ _).trans (by assumption)
    | rfl
    | dsimp only

theorem laneChanged (h : OnPair pr s u) (l : LaneId) (hl : pairOf l = pr) :
    OnPair pr s (u.laneChanged l) := by
  unfold State.laneChanged
  repeat' first
    | with_reducible exact h
    | with_reducible assumption
    | with_reducible apply OnPair.decideLift
    | with_reducible apply OnPair.armingCheck

/-! ## Machine/Supervisor.lean -/

theorem endStepConditions (h : OnPair pr s u) (l : LaneId) (hl : pairOf l = pr) :
    OnPair pr s (u.endStepConditions l) := by
  unfold State.endStepConditions
  refine OnPair.setLaneFaults h _ hl ?_
  rw [List.map_map]
  refine List.map_congr_left fun f _ => ?_
  simp only [Function.comp, endStepCondition]
  split <;> rfl

theorem endUnfinished (h : OnPair pr s u) (l : LaneId) (hl : pairOf l = pr) :
    OnPair pr s (u.endUnfinished l) := by
  unfold State.endUnfinished
  repeat' first
    | with_reducible exact h
    | with_reducible assumption
    | with_reducible apply OnPair.modSupervisor
    | with_reducible apply OnPair.endStepConditions
    | split

theorem beginSequence (h : OnPair pr s u) (l : LaneId) (k : Sequence) (mark : Option RestartMark) (hl : pairOf l = pr) :
    OnPair pr s (u.beginSequence l k mark) := by
  unfold State.beginSequence
  repeat' first
    | with_reducible exact h
    | with_reducible assumption
    | with_reducible apply OnPair.modSupervisor
    | with_reducible apply OnPair.place
    | with_reducible apply OnPair.raiseMachineState
    | with_reducible apply OnPair.laneChanged
    | split
    | exact (pairOf_laneAt _ _).trans (by assumption)
    | dsimp only

theorem setFollowOn (h : OnPair pr s u) (l : LaneId) (f : FollowOn) (hl : pairOf l = pr) :
    OnPair pr s (u.setFollowOn l f) := by
  unfold State.setFollowOn
  repeat' first
    | with_reducible exact h
    | with_reducible assumption
    | with_reducible apply OnPair.modSupervisor
    | with_reducible apply OnPair.raiseMachineState
    | split

theorem discardOwed (h : OnPair pr s u) (l : LaneId) (hl : pairOf l = pr) :
    OnPair pr s (u.discardOwed l) := by
  unfold State.discardOwed
  repeat' first
    | with_reducible exact h
    | with_reducible assumption
    | with_reducible apply OnPair.modSupervisor
    | with_reducible apply OnPair.raiseMachineState
    | split

theorem clearStart (h : OnPair pr s u) (l : LaneId) (hl : pairOf l = pr) :
    OnPair pr s (u.clearStart l) := by
  unfold State.clearStart
  repeat' first
    | with_reducible exact h
    | with_reducible assumption
    | with_reducible apply OnPair.setFollowOn
    | split

theorem clearRestart (h : OnPair pr s u) (l : LaneId) (hl : pairOf l = pr) :
    OnPair pr s (u.clearRestart l) := by
  unfold State.clearRestart
  repeat' first
    | with_reducible exact h
    | with_reducible assumption
    | with_reducible apply OnPair.setFollowOn
    | split

theorem oweStop (h : OnPair pr s u) (l : LaneId) (k : StopKind) (hl : pairOf l = pr) :
    OnPair pr s (u.oweStop l k) := by
  unfold State.oweStop
  repeat' first
    | with_reducible exact h
    | with_reducible assumption
    | with_reducible apply OnPair.modNode
    | with_reducible apply OnPair.endUnfinished
    | with_reducible apply OnPair.modSupervisor
    | with_reducible apply OnPair.discardOwed
    | with_reducible apply OnPair.raiseMachineState
    | with_reducible apply OnPair.laneChanged

theorem placeStop (h : OnPair pr s u) (l : LaneId) (k : StopKind) (hl : pairOf l = pr) :
    OnPair pr s (u.placeStop l k) := by
  unfold State.placeStop
  repeat' first
    | with_reducible exact h
    | with_reducible assumption
    | with_reducible apply OnPair.oweStop
    | with_reducible apply OnPair.endUnfinished
    | with_reducible apply OnPair.beginSequence
    | with_reducible apply OnPair.discardOwed
    | with_reducible apply OnPair.modSupervisor
    | split

theorem stopRise (h : OnPair pr s u) (l : LaneId) (hl : pairOf l = pr) :
    OnPair pr s (u.stopRise l) := by
  unfold State.stopRise
  repeat' first
    | with_reducible exact h
    | with_reducible assumption
    | with_reducible apply OnPair.placeStop
    | split

theorem parkRise (h : OnPair pr s u) (l : LaneId) (hl : pairOf l = pr) :
    OnPair pr s (u.parkRise l) := by
  unfold State.parkRise
  repeat' first
    | with_reducible exact h
    | with_reducible assumption
    | with_reducible apply OnPair.placeStop
    | split

theorem runNeed (h : OnPair pr s u) (l : LaneId) (n : Need) (hl : pairOf l = pr) :
    OnPair pr s (u.runNeed l n) := by
  unfold State.runNeed
  repeat' first
    | with_reducible exact h
    | with_reducible assumption
    | with_reducible apply OnPair.modSupervisor
    | with_reducible apply OnPair.beginSequence

theorem runOwed (h : OnPair pr s u) (l : LaneId) (hl : pairOf l = pr) :
    OnPair pr s (u.runOwed l) := by
  unfold State.runOwed
  repeat' first
    | with_reducible exact h
    | with_reducible assumption
    | with_reducible apply OnPair.runNeed
    | split

theorem followPark (h : OnPair pr s u) (l : LaneId) (hl : pairOf l = pr) :
    OnPair pr s (u.followPark l) := by
  unfold State.followPark
  repeat' first
    | with_reducible exact h
    | with_reducible assumption
    | with_reducible apply OnPair.modSupervisor
    | with_reducible apply OnPair.placeStop
    | split

theorem followStart (h : OnPair pr s u) (l : LaneId) (hl : pairOf l = pr) :
    OnPair pr s (u.followStart l) := by
  unfold State.followStart
  repeat' first
    | with_reducible exact h
    | with_reducible assumption
    | with_reducible apply OnPair.setFollowOn
    | with_reducible apply OnPair.beginSequence
    | split

theorem needTaken (h : OnPair pr s u) (l : LaneId) (hl : pairOf l = pr) :
    OnPair pr s (u.needTaken l) := by
  unfold State.needTaken
  repeat' first
    | with_reducible exact h
    | with_reducible assumption
    | with_reducible apply OnPair.modTracker
    | split
    | exact (pairOf_laneAt _ _).trans (by assumption)
    | rfl

theorem takeNeed (h : OnPair pr s u) (l : LaneId) (n : Need) (hl : pairOf l = pr) :
    OnPair pr s (u.takeNeed l n) := by
  unfold State.takeNeed
  repeat' first
    | with_reducible exact h
    | with_reducible assumption
    | with_reducible apply OnPair.runNeed
    | with_reducible apply OnPair.modSupervisor
    | with_reducible apply OnPair.raiseMachineState
    | with_reducible apply OnPair.setFollowOn
    | with_reducible apply OnPair.needTaken
    | with_reducible apply OnPair.armingCheck
    | with_reducible apply OnPair.followPark
    | split

theorem handNeed (h : OnPair pr s u) (l : LaneId) (n : Need) (hl : pairOf l = pr) :
    OnPair pr s (u.handNeed l n) := by
  unfold State.handNeed
  repeat' first
    | with_reducible exact h
    | with_reducible assumption
    | with_reducible apply OnPair.modSupervisor
    | with_reducible apply OnPair.raiseMachineState
    | with_reducible apply OnPair.takeNeed
    | split

theorem cancelPark (h : OnPair pr s u) (l : LaneId) (hl : pairOf l = pr) :
    OnPair pr s (u.cancelPark l) := by
  unfold State.cancelPark
  repeat' first
    | with_reducible exact h
    | with_reducible assumption
    | with_reducible apply OnPair.modSupervisor
    | with_reducible apply OnPair.raiseMachineState
    | split
    | exact (pairOf_laneAt _ _).trans (by assumption)
    | dsimp only

theorem holderArrives (h : OnPair pr s u) (l : LaneId) (hl : pairOf l = pr) :
    OnPair pr s (u.holderArrives l) := by
  unfold State.holderArrives
  repeat' first
    | with_reducible exact h
    | with_reducible assumption
    | with_reducible apply OnPair.cancelPark
    | with_reducible apply OnPair.beginSequence
    | with_reducible apply OnPair.setFollowOn
    | with_reducible apply OnPair.armingCheck
    | split

theorem sessionEnds (h : OnPair pr s u) (l : LaneId) (hl : pairOf l = pr) :
    OnPair pr s (u.sessionEnds l) := by
  unfold State.sessionEnds
  repeat' first
    | with_reducible exact h
    | with_reducible assumption
    | with_reducible apply OnPair.placeStop
    | with_reducible apply OnPair.setFollowOn
    | with_reducible apply OnPair.clearStart
    | with_reducible apply OnPair.armingCheck
    | split

/-! ## Machine/FaultSet.lean -/

theorem raiseLaneCleared (h : OnPair pr s u) (l : LaneId) (c : FaultClass) (cause : ClearCause) (_hl : pairOf l = pr) :
    OnPair pr s (u.raiseLaneCleared l c cause) := by
  unfold State.raiseLaneCleared
  repeat' first
    | with_reducible exact h
    | with_reducible assumption
    | with_reducible apply OnPair.raise

theorem raisePairCleared (h : OnPair pr s u) (p : PairId) (c : FaultClass) (cause : ClearCause) (_hp : p = pr) :
    OnPair pr s (u.raisePairCleared p c cause) := by
  unfold State.raisePairCleared
  repeat' first
    | with_reducible exact h
    | with_reducible assumption
    | with_reducible apply OnPair.raise

/-! ## Machine/SequenceEnd.lean -/

theorem considerFollowOn (h : OnPair pr s u) (l : LaneId) (hl : pairOf l = pr) :
    OnPair pr s (u.considerFollowOn l) := by
  unfold State.considerFollowOn
  repeat' first
    | with_reducible exact h
    | with_reducible assumption
    | with_reducible apply OnPair.runOwed
    | with_reducible apply OnPair.armingCheck
    | with_reducible apply OnPair.followPark
    | with_reducible apply OnPair.followStart

theorem acknowledge (h : OnPair pr s u) (l : LaneId) (c : Command) (hl : pairOf l = pr) :
    OnPair pr s (u.acknowledge l c) := by
  unfold State.acknowledge
  repeat' first
    | with_reducible exact h
    | with_reducible assumption
    | with_reducible apply OnPair.modSupervisor
    | split

theorem reportAcknowledges (h : OnPair pr s u) (l : LaneId) (r : CycleRecord) (hl : pairOf l = pr) :
    OnPair pr s (u.reportAcknowledges l r) := by
  unfold State.reportAcknowledges
  repeat' first
    | with_reducible exact h
    | with_reducible assumption
    | with_reducible apply OnPair.acknowledge
    | with_reducible apply OnPair.clearSlot
    | split
    | exact (pairOf_laneAt _ _).trans (by assumption)
    | dsimp only

theorem completeStep (h : OnPair pr s u) (l : LaneId) (later : List Step) (hl : pairOf l = pr) :
    OnPair pr s (u.completeStep l later) := by
  unfold State.completeStep
  repeat' first
    | with_reducible exact h
    | with_reducible assumption
    | with_reducible apply OnPair.modSupervisor
    | with_reducible apply OnPair.endStepConditions
    | dsimp only
    | split

/-! ## Machine/Faults.lean -/

theorem endDropped (h : OnPair pr s u) (l : LaneId) (c : Command) (hl : pairOf l = pr) :
    OnPair pr s (u.endDropped l c) := by
  unfold State.endDropped
  repeat' first
    | with_reducible exact h
    | with_reducible assumption
    | with_reducible apply OnPair.endUnfinished
    | split

/-! ## Machine/Returns.lean -/

theorem tellFlags (h : OnPair pr s u) (p : PairId) (before : BallReturn) (hp : p = pr) :
    OnPair pr s (u.tellFlags p before) := by
  unfold State.tellFlags
  split
  · exact h
  · exact OnPair.raiseReturnState h _ hp

theorem returnChanged (h : OnPair pr s u) (p : PairId) (before : BallReturn) (hp : p = pr) :
    OnPair pr s (u.returnChanged p before) := OnPair.armPair (OnPair.tellFlags h _ _ hp) _ hp

theorem rackLevel (h : OnPair pr s u) (p : PairId) (full : Bool) (hp : p = pr) :
    OnPair pr s (u.rackLevel p full) := by
  unfold State.rackLevel
  repeat' first
    | with_reducible exact h
    | with_reducible assumption
    | with_reducible apply OnPair.modReturn
    | with_reducible apply OnPair.raiseReturnState
    | with_reducible apply OnPair.decideLift
    | with_reducible apply OnPair.decideWatch
    | split
    | exact (pairOf_laneAt _ _).trans (by assumption)
    | rfl

/-! ## Machine/Tracker.lean -/

theorem foulPassage (h : OnPair pr s u) (l : LaneId) (stamp : NodeTime) (hl : pairOf l = pr) :
    OnPair pr s (u.foulPassage l stamp) := by
  unfold State.foulPassage
  repeat' first
    | with_reducible exact h
    | with_reducible assumption
    | with_reducible apply OnPair.modTracker
    | split
    | exact (pairOf_laneAt _ _).trans (by assumption)
    | rfl

theorem placeRead (h : OnPair pr s u) (l : LaneId) (hl : pairOf l = pr) :
    OnPair pr s (u.placeRead l) := by
  unfold State.placeRead
  repeat' first
    | with_reducible exact h
    | with_reducible assumption
    | with_reducible apply OnPair.place
    | with_reducible apply OnPair.modTracker
    | split
    | exact (pairOf_laneAt _ _).trans (by assumption)
    | rfl
    | dsimp only

theorem placeWaitingRead (h : OnPair pr s u) (l : LaneId) (hl : pairOf l = pr) :
    OnPair pr s (u.placeWaitingRead l) := by
  unfold State.placeWaitingRead
  repeat' first
    | with_reducible exact h
    | with_reducible assumption
    | with_reducible apply OnPair.placeRead
    | split

theorem settleExpires (h : OnPair pr s u) (l : LaneId) (hl : pairOf l = pr) :
    OnPair pr s (u.settleExpires l) := by
  unfold State.settleExpires
  repeat' first
    | with_reducible exact h
    | with_reducible assumption
    | with_reducible apply OnPair.modTracker
    | with_reducible apply OnPair.placeRead
    | split
    | exact (pairOf_laneAt _ _).trans (by assumption)
    | rfl

theorem startRetry (h : OnPair pr s u) (l : LaneId) (hl : pairOf l = pr) :
    OnPair pr s (u.startRetry l) := by
  unfold State.startRetry
  repeat' first
    | with_reducible exact h
    | with_reducible assumption
    | with_reducible apply OnPair.modTracker
    | split
    | exact (pairOf_laneAt _ _).trans (by assumption)
    | rfl

theorem retryExpires (h : OnPair pr s u) (l : LaneId) (hl : pairOf l = pr) :
    OnPair pr s (u.retryExpires l) := by
  unfold State.retryExpires
  repeat' first
    | with_reducible exact h
    | with_reducible assumption
    | with_reducible apply OnPair.modTracker
    | with_reducible apply OnPair.placeRead
    | split
    | exact (pairOf_laneAt _ _).trans (by assumption)
    | rfl

theorem readDropped (h : OnPair pr s u) (l : LaneId) (hl : pairOf l = pr) :
    OnPair pr s (u.readDropped l) := by
  unfold State.readDropped
  repeat' first
    | with_reducible exact h
    | with_reducible assumption
    | with_reducible apply OnPair.startRetry

theorem resync (h : OnPair pr s u) (l : LaneId) (hl : pairOf l = pr) :
    OnPair pr s (u.resync l) := by
  unfold State.resync
  repeat' first
    | with_reducible exact h
    | with_reducible assumption
    | with_reducible apply OnPair.place
    | with_reducible apply OnPair.modTracker
    | rfl
    | dsimp only
    | split

theorem placeWaitingCount (h : OnPair pr s u) (l : LaneId) (hl : pairOf l = pr) :
    OnPair pr s (u.placeWaitingCount l) := by
  unfold State.placeWaitingCount
  repeat' first
    | with_reducible exact h
    | with_reducible assumption
    | with_reducible apply OnPair.resync
    | with_reducible apply OnPair.modTracker
    | rfl
    | split

theorem raiseAnomaly (h : OnPair pr s u) (l : LaneId) (a : Anomaly) (hl : pairOf l = pr) :
    OnPair pr s (u.raiseAnomaly l a) := by
  unfold State.raiseAnomaly
  repeat' first
    | with_reducible exact h
    | with_reducible assumption
    | with_reducible apply OnPair.modTracker
    | with_reducible apply OnPair.raise
    | split
    | exact (pairOf_laneAt _ _).trans (by assumption)
    | rfl

theorem skewReading (h : OnPair pr s u) (l : LaneId) (rd : Reading) (hl : pairOf l = pr) :
    OnPair pr s (u.skewReading l rd) := by
  unfold State.skewReading
  repeat' first
    | with_reducible exact h
    | with_reducible assumption
    | with_reducible apply OnPair.raiseAnomaly
    | with_reducible apply OnPair.startRetry

/-! ## Machine/Links.lean -/

theorem placeDisplay (h : OnPair pr s u) (p : PairId) (d : Side) (hp : p = pr) :
    OnPair pr s (u.placeDisplay p d) := by
  unfold State.placeDisplay
  repeat' first
    | with_reducible exact h
    | with_reducible assumption
    | with_reducible apply OnPair.modPoller
    | with_reducible apply OnPair.place
    | split
    | exact (pairOf_laneAt _ _).trans (by assumption)
    | rfl

theorem discardDisplay (h : OnPair pr s u) (p : PairId) (d : Side) (hp : p = pr) :
    OnPair pr s (u.discardDisplay p d) := by
  unfold State.discardDisplay
  repeat' first
    | with_reducible exact h
    | with_reducible assumption
    | with_reducible apply OnPair.modPoller
    | with_reducible apply OnPair.modNode
    | split
    | exact (pairOf_laneAt _ _).trans (by assumption)
    | rfl

theorem laneIoBack (h : OnPair pr s u) (p : PairId) (a : NodeAddr) (hp : p = pr) :
    OnPair pr s (u.laneIoBack p a) := by
  unfold State.laneIoBack
  repeat' first
    | with_reducible exact h
    | with_reducible assumption
    | with_reducible apply OnPair.placeOutputs
    | with_reducible apply OnPair.decideWatch
    | split

theorem discardReport (h : OnPair pr s u) (l : LaneId) (superseded : Bool) (hl : pairOf l = pr) :
    OnPair pr s (u.discardReport l superseded) := by
  unfold State.discardReport
  repeat' first
    | with_reducible exact h
    | with_reducible assumption
    | with_reducible apply OnPair.modSupervisor

theorem consoleReRack (h : OnPair pr s u) (l : LaneId) (hl : pairOf l = pr) :
    OnPair pr s (u.consoleReRack l) := by
  unfold State.consoleReRack
  repeat' first
    | with_reducible exact h
    | with_reducible assumption
    | with_reducible apply OnPair.beginSequence
    | with_reducible apply OnPair.raise
    | split

theorem consoleCall (h : OnPair pr s u) (l : LaneId) (_hl : pairOf l = pr) :
    OnPair pr s (u.consoleCall l) := by
  unfold State.consoleCall
  repeat' first
    | with_reducible exact h
    | with_reducible assumption
    | with_reducible apply OnPair.raise

theorem keystroke (h : OnPair pr s u) (l : LaneId) (k : Keystroke) (hl : pairOf l = pr) :
    OnPair pr s (u.keystroke l k) := by
  unfold State.keystroke
  repeat' first
    | with_reducible exact h
    | with_reducible assumption
    | with_reducible apply OnPair.consoleReRack
    | with_reducible apply OnPair.consoleCall
    | split

theorem countWrongAddress (h : OnPair pr s u) (p : PairId) (hp : p = pr) :
    OnPair pr s (u.countWrongAddress p) := by
  unfold State.countWrongAddress
  repeat' first
    | with_reducible exact h
    | with_reducible assumption
    | with_reducible apply OnPair.modPoller
    | split
    | exact (pairOf_laneAt _ _).trans (by assumption)
    | rfl

theorem countDamaged (h : OnPair pr s u) (p : PairId) (hp : p = pr) :
    OnPair pr s (u.countDamaged p) := by
  unfold State.countDamaged
  repeat' first
    | with_reducible exact h
    | with_reducible assumption
    | with_reducible apply OnPair.modPoller
    | split
    | exact (pairOf_laneAt _ _).trans (by assumption)
    | rfl

theorem countAbandoned (h : OnPair pr s u) (p : PairId) (hp : p = pr) :
    OnPair pr s (u.countAbandoned p) := by
  unfold State.countAbandoned
  repeat' first
    | with_reducible exact h
    | with_reducible assumption
    | with_reducible apply OnPair.modPoller
    | split
    | exact (pairOf_laneAt _ _).trans (by assumption)
    | rfl

/-! ## Machine/MachineRequests.lean -/

theorem startMachine (h : OnPair pr s u) (l : LaneId) (r : Option Resume) (hl : pairOf l = pr) :
    OnPair pr s (u.startMachine l r) := by
  unfold State.startMachine
  repeat' first
    | with_reducible exact h
    | with_reducible assumption
    | with_reducible apply OnPair.modSupervisor
    | with_reducible apply OnPair.beginSequence

theorem serviceClear (h : OnPair pr s u) (l : LaneId) (hl : pairOf l = pr) :
    OnPair pr s (u.serviceClear l) := by
  unfold State.serviceClear
  repeat' first
    | with_reducible exact h
    | with_reducible assumption
    | with_reducible apply OnPair.modSupervisor
    | with_reducible apply OnPair.raiseMachineState
    | with_reducible apply OnPair.laneChanged
    | split

end Sys2Proof.Machine.OnPair
end

