-- ==== Sys2Proof/Laws/Removal.lean ====
section
/-! SUPPORT. What taking a park back, a command in or awaiting its slot, removing track entries and a pending
resume can do: one lemma per case of each operation. -/

namespace Sys2Proof.Machine

open Sys2Proof

/-! ## A park taken back (R8, R96) -/

@[simp] theorem unparked_machine (v : Supervisor) : (unparked v).machine = v.machine := rfl
@[simp] theorem unparked_record (v : Supervisor) : (unparked v).record = v.record := rfl
@[simp] theorem unparked_awaiting (v : Supervisor) : (unparked v).awaiting = v.awaiting := rfl
@[simp] theorem unparked_superseded (v : Supervisor) : (unparked v).superseded = v.superseded := rfl

/-- No need is a FULL-then-park once its park is taken away. -/
theorem withoutPark_ne_park (n : Need) : withoutPark n ≠ .fullThenPark := by cases n <;> decide

/-- No park follows a supervisor whose park was taken back. -/
theorem unparked_followOn_ne_park (v : Supervisor) : (unparked v).followOn ≠ .park := by
  unfold unparked
  dsimp only
  split
  · decide
  · assumption

/-- Taking a park back changes the lane's supervisor and raises MACHINE_STATE at most. -/
theorem cancelPark_cases (s : State) (l : LaneId) :
    s.cancelPark l = s.modSupervisor l unparked ∨
      s.cancelPark l = (s.modSupervisor l unparked).raiseMachineState l := by
  unfold State.cancelPark
  dsimp only
  split
  · exact .inl rfl
  · exact .inr rfl

/-! ## What awaits a slot (R95) -/

@[simp] theorem awaitingBehind_park (w : Option StopKind) : awaitingBehind .park w = none := rfl
@[simp] theorem awaitingBehind_none (k : StopKind) : awaitingBehind k none = none := by
  cases k <;> rfl

/-- Only a PARK goes on awaiting, and only behind a HALT. -/
theorem awaitingBehind_some {k w : StopKind} {v : Option StopKind} (h : awaitingBehind k v = some w) :
    k = .halt ∧ w = .park ∧ v = some .park := by
  cases k <;> rcases v with _ | _ | _ <;> cases w <;> simp_all [awaitingBehind]

/-! ## A command replaced while its poll waits (R168, R169) -/

/-- A command just placed is none that a poll still waiting has carried. -/
@[simp] theorem stillInSlot_putCommand (c d : Command) (q : Serial) (n : Node) :
    stillInSlot (putCommand c n) d q = false := by simp [stillInSlot, putCommand]

/-- A poll's command is still in the slot exactly where the slot holds it, tried. -/
theorem stillInSlot_iff {n : Node} {c : Command} {q : Serial} :
    stillInSlot n c q = true ↔ ∃ k, n.slot = some ⟨c, q, some k⟩ := by
  rcases n with ⟨_, _, _ | ⟨d, r, _ | k⟩⟩ <;> simp [stillInSlot]

/-! ## Entries removed from a track list (R125, R132) -/

@[simp] theorem removeOldest_track (r : BallReturn) : (removeOldest r).track = r.track.drop 1 := rfl
@[simp] theorem removeOldest_watchExpired (r : BallReturn) : (removeOldest r).watchExpired = false := rfl
@[simp] theorem removeOldest_overflow (r : BallReturn) : (removeOldest r).overflow = false := rfl
@[simp] theorem removeOldest_phantoms (r : BallReturn) : (removeOldest r).phantoms = r.phantoms := rfl

/-- A trim of an empty list, or by none, changes nothing. -/
theorem trim_nothing {s : State} {p : PairId} {n : Nat}
    (h : min n (s.ballReturn p).track.length = 0) : s.trim p n = s := if_pos h

/-- A trim that removes something: the removals one after another, then RETURN_STATE. -/
theorem trim_some {s : State} {p : PairId} {n : Nat}
    (h : min n (s.ballReturn p).track.length ≠ 0) :
    s.trim p n = (s.removeEntries p (min n (s.ballReturn p).track.length)).raiseReturnState p :=
  if_neg h

/-! ## A pending resume (R59) -/

/-- What becomes of a session's pending resume: it waits, is discarded, or is applied. -/
theorem applyPending_cases {s : State} {i : SessionId} {x : Session} {r : Resume}
    (hx : s.session i = some x) (hr : x.pendingResume = some r) :
    s.applyPending i =
      if s.unresolved i x then s
      else if x.slot = none then s.modSession i fun y => { y with pendingResume := none }
      else s.applyResume i r := by
  simp only [State.applyPending, hx, hr]

end Sys2Proof.Machine
end

