-- ==== Sys2Proof/Laws/Supersede.lean ====
section
/-! SUPPORT. What the end of a superseded sequence brings about (R85, R87): one lemma per case of the
operation, and that a lane on which nothing is held stays within the equipment of its pair. -/

namespace Sys2Proof.Machine

open Sys2Proof

/-! ## The cases of a placed HALT or PARK -/

/-- A HALT or PARK that finds no sequence and begins one reports no end. -/
theorem stopReleases_begun {s : State} {l : LaneId} {v : Supervisor} (hv : v.record = none)
    (h : (s.supervisor l).record.isSome = true) : s.stopReleases l v = s := by
  obtain ⟨r, h⟩ := Option.isSome_iff_exists.mp h
  simp only [State.stopReleases, hv, h]

/-- A sequence that goes on, its HALT or PARK awaiting the slot, has no end to report. -/
theorem stopReleases_goesOn {s : State} {l : LaneId} {v : Supervisor}
    (h : (s.supervisor l).record.isSome = true) (hc : (s.supervisor l).cycle = v.cycle) :
    s.stopReleases l v = s := by
  obtain ⟨r, h⟩ := Option.isSome_iff_exists.mp h
  cases hv : v.record <;> simp only [State.stopReleases, hv, h, hc, if_true]

/-- A sequence superseded by another reports its end. -/
theorem stopReleases_superseded {s : State} {l : LaneId} {v : Supervisor}
    (hv : v.record.isSome = true) (h : (s.supervisor l).record.isSome = true)
    (hc : (s.supervisor l).cycle = v.cycle + 1) :
    s.stopReleases l v = s.supersededReleases l := by
  obtain ⟨r, h⟩ := Option.isSome_iff_exists.mp h
  obtain ⟨r', hv⟩ := Option.isSome_iff_exists.mp hv
  simp only [State.stopReleases, hv, h, hc]
  exact if_neg (by bv_omega)

/-- A sequence that an owed command has ended reports its end as any that leaves none in progress. -/
theorem stopReleases_owed {s : State} {l : LaneId} {v : Supervisor}
    (h : (s.supervisor l).record = none) : s.stopReleases l v = s.sequenceReleased l := by
  cases hv : v.record <;> simp only [State.stopReleases, hv, h]

/-! ## Nothing held -/

/-- The holder of a lane with its record is the session that the lane table names, in use. -/
theorem holder_eq_some {s : State} {l : LaneId} {i : SessionId} {x : Session} :
    s.holder l = some (i, x) ↔ (s.entry l).holder = some i ∧ s.session i = some x := by
  unfold State.holder
  split
  · next e => simp [e]
  · next j e =>
    simp only [e, Option.map_eq_some_iff, Prod.mk.injEq, Option.some.injEq]
    constructor
    · rintro ⟨y, hy, rfl, rfl⟩; exact ⟨rfl, hy⟩
    · rintro ⟨rfl, hy⟩; exact ⟨x, hy, rfl, rfl⟩

/-- Where nothing is held, applying the held result changes nothing. -/
theorem applyHeld_nothing {s : State} {l : LaneId} (h : s.NothingHeld l) : s.applyHeld l = s := by
  unfold State.applyHeld
  split
  · rfl
  · next i x e =>
    obtain ⟨hi, hx⟩ := holder_eq_some.mp e
    rw [h i x hi hx]

/-- A lane without a deferred need has none to hand. -/
theorem handDeferred_none {s : State} {l : LaneId} (h : (s.supervisor l).deferredNeed = none) :
    s.handDeferred l = s := by
  simp only [State.handDeferred, h]

/-- With nothing held and no need deferred, the end of a superseded sequence leaves the arming check and
the follow-on. -/
theorem supersededReleases_nothing {s : State} {l : LaneId} (h : s.NothingHeld l)
    (hd : (s.supervisor l).deferredNeed = none) :
    s.supersededReleases l = (s.armingCheck l).followPark l := by
  unfold State.supersededReleases
  rw [applyHeld_nothing h, handDeferred_none hd]

namespace OnPair

variable {pr : PairId} {s u : State}

/-- Decisions about the equipment of a pair hold no ball result back. -/
theorem nothingHeld (h : OnPair pr s u) {l : LaneId} (hs : s.NothingHeld l) : u.NothingHeld l :=
  fun i x hi hx => hs i x (h.entry l ▸ hi) (h.session i ▸ hx)

theorem handDeferred (h : OnPair pr s u) (l : LaneId) (hl : pairOf l = pr) :
    OnPair pr s (u.handDeferred l) := by
  unfold State.handDeferred
  split
  · exact h
  · exact (h.modSupervisor l _ hl).takeNeed l _ hl

theorem releaseDeferred (h : OnPair pr s u) (l : LaneId) (hl : pairOf l = pr) :
    OnPair pr s (u.releaseDeferred l) := by
  unfold State.releaseDeferred
  split
  · exact h
  · exact h.handDeferred l hl

theorem supersededReleases (h : OnPair pr s u) (l : LaneId) (hl : pairOf l = pr)
    (hs : s.NothingHeld l) : OnPair pr s (u.supersededReleases l) := by
  unfold State.supersededReleases
  rw [applyHeld_nothing (h.nothingHeld hs)]
  exact ((h.handDeferred l hl).armingCheck l hl).followPark l hl

theorem sequenceReleased (h : OnPair pr s u) (l : LaneId) (hl : pairOf l = pr)
    (hs : s.NothingHeld l) : OnPair pr s (u.sequenceReleased l) := by
  unfold State.sequenceReleased
  split
  · exact h
  · unfold State.released State.releaseHeld
    rw [applyHeld_nothing (h.nothingHeld hs), ite_self]
    exact ((h.releaseDeferred l hl).armingCheck l hl).followPark l hl

theorem stopReleases (h : OnPair pr s u) (l : LaneId) (before : Supervisor)
    (hl : pairOf l = pr) (hs : s.NothingHeld l) : OnPair pr s (u.stopReleases l before) := by
  unfold State.stopReleases
  split
  · exact h.sequenceReleased l hl hs
  · exact h
  · split
    · exact h
    · exact h.supersededReleases l hl hs

theorem halt (h : OnPair pr s u) (l : LaneId) (hl : pairOf l = pr) (hs : s.NothingHeld l) :
    OnPair pr s (u.halt l) := (h.stopRise l hl).stopReleases l _ hl hs

theorem park (h : OnPair pr s u) (l : LaneId) (hl : pairOf l = pr) (hs : s.NothingHeld l) :
    OnPair pr s (u.park l) := (h.parkRise l hl).stopReleases l _ hl hs

theorem placeAwaiting (h : OnPair pr s u) (l : LaneId) (hl : pairOf l = pr)
    (hs : s.NothingHeld l) : OnPair pr s (u.placeAwaiting l) := by
  unfold State.placeAwaiting
  split
  · exact h
  · split
    · exact h
    · exact ((h.modSupervisor l _ hl).placeStop l _ hl).stopReleases l _ hl hs

theorem placeOwed (h : OnPair pr s u) (l : LaneId) (hl : pairOf l = pr) (hs : s.NothingHeld l) :
    OnPair pr s (u.placeOwed l) := by
  unfold State.placeOwed
  split
  · exact h
  · dsimp only
    split
    · exact (((h.modNode _ _ _ hl).endUnfinished l hl).beginSequence l _ _ hl).stopReleases l _ hl hs
    · exact h

end OnPair

end Sys2Proof.Machine
end

