-- ==== Sys2Proof/Laws/Trunk.lean ====
section
/-! SUPPORT. What the Trunk Interface does with a request and at the end of a command. -/

namespace Sys2Proof.Machine

open Sys2Proof

/-- Every request command is an arrival of that request. -/
theorem exec_request {i : Instr} (s : State) (hi : (asked i).isSome = true) :
    exec i s = .next (s.submit i) := by
  cases i <;>
    first
    | (simp only [asked, Option.isSome_none, Bool.false_eq_true] at hi; done)
    | rfl

/-- A request is no request of the kind `asked` does not know. -/
theorem enqueue_of_room {s : State} {i : Instr} {a : Asked} (ha : asked i = some a)
    (hr : s.trunk.requests.length < requestCapacity) :
    s.enqueue i = { s with trunk := { s.trunk with requests := s.trunk.requests ++ [i] } } := by
  simp only [State.enqueue, ha, if_pos hr]

/-- R176: a request that finds the queue full is dropped. -/
theorem enqueue_of_full {s : State} {i : Instr} {a : Asked} (ha : asked i = some a)
    (hr : ¬ s.trunk.requests.length < requestCapacity) :
    s.enqueue i = s.dropRequest a.tag a.code := by
  simp only [State.enqueue, ha, if_neg hr]

/-- While a frame is on the line and the response slot is filled, the trunk stays as it is. -/
theorem settleTrunk_waits {s : State} {f : TxFrame} {r : Response}
    (ht : s.trunk.transmitting = some f) (hr : s.trunk.response = some r) :
    s.settleTrunk = s := by
  have h1 : s.takeOldest = s := by simp only [State.takeOldest, hr]
  have h2 : s.transmit = s := by simp only [State.transmit, ht]
  simp only [State.settleTrunk, h1, h2]

/-- While a frame is on the line and no request waits, the trunk stays as it is. -/
theorem settleTrunk_busy {s : State} {f : TxFrame} (ht : s.trunk.transmitting = some f)
    (hq : s.trunk.requests = []) : s.settleTrunk = s := by
  have h1 : s.takeOldest = s := by simp only [State.takeOldest, hq]; split <;> simp_all
  have h2 : s.transmit = s := by simp only [State.transmit, ht]
  simp only [State.settleTrunk, h1, h2]

/-- With the line free, nothing asked and nothing to answer, the best eligible notice is begun. -/
theorem settleTrunk_notice {s : State} (ht : s.trunk.transmitting = none) (hs : s.TrunkFree) :
    s.settleTrunk =
      match bestNotice s.notices with
      | some n => s.sendNotice n
      | none => s := by
  have h1 : s.takeOldest = s := by simp only [State.takeOldest, hs.1, hs.2]
  simp only [State.settleTrunk, h1, State.transmit, ht, hs.1]
  cases bestNotice s.notices with
  | none => exact h1
  | some n => simp only [State.takeOldest, State.sendNotice, hs.1, hs.2]

/-- R176, R177: a request that finds nothing before it is acted on and its response placed. -/
theorem submit_reply {s : State} {i : Instr} {a : Asked} (ha : asked i = some a)
    (hs : s.TrunkFree) (ht : (a.act s).1.TrunkFree) :
    s.submit i = (a.act s).1.reply ⟨a.tag, a.code, (a.act s).2⟩ := by
  obtain ⟨hs1, hs2⟩ := hs
  obtain ⟨ht1, ht2⟩ := ht
  have hq : s.trunk.requests.length < requestCapacity := by simp [hs2]
  have hd : (s.enqueue i).dequeue [] = s := by
    rw [enqueue_of_room ha hq]
    simp only [State.dequeue]
    conv => rhs; rw [show s = { s with trunk := { s.trunk with requests := [] } } by
      rw [← hs2]]
  have ho : (s.enqueue i).takeOldest = s.answer a := by
    have e1 : (s.enqueue i).trunk.response = none := by rw [enqueue_of_room ha hq]; exact hs1
    have e2 : (s.enqueue i).trunk.requests = [i] := by
      rw [enqueue_of_room ha hq]; simp [hs2]
    simp only [State.takeOldest, e1, e2, ha, hd]
  simp only [State.submit, State.settleTrunk, ho, State.transmit, State.answer, State.reply]
  split
  · next h =>
    simp only [h, State.takeOldest]
  · next h =>
    simp only [h, State.sendResponse, State.takeOldest, ht2]
    simp only [ht1]

/-- A request that finds nothing before it: the next state of its command. -/
theorem exec_reply {s : State} {i : Instr} {a : Asked} (ha : asked i = some a) (hs : s.TrunkFree)
    (ht : (a.act s).1.TrunkFree) :
    exec i s = .next ((a.act s).1.reply ⟨a.tag, a.code, (a.act s).2⟩) := by
  rw [exec_request s (by rw [ha]; rfl), submit_reply ha hs ht]

/-- The same, from what the request's effect answers, where it leaves the trunk. -/
theorem exec_of_act {s t : State} {i : Instr} {tag code : Byte} {act : State → State × Reply}
    {r : Reply} (ha : asked i = some ⟨tag, code, act⟩) (hs : s.TrunkFree) (he : act s = (t, r))
    (ht : t.trunk = s.trunk) : exec i s = .next (t.reply ⟨tag, code, r⟩) := by
  have h : (act s).1.TrunkFree := by rw [he]; simpa only [State.TrunkFree, ht] using hs
  have e := exec_reply ha hs h
  simp only [he] at e
  exact e

/-- R176: a request that finds the response slot filled waits in the queue. -/
theorem submit_waits {s : State} {i : Instr} {a : Asked} {f : TxFrame} {r : Response}
    (ha : asked i = some a) (ht : s.trunk.transmitting = some f) (hr : s.trunk.response = some r)
    (hq : s.trunk.requests.length < requestCapacity) :
    s.submit i = { s with trunk := { s.trunk with requests := s.trunk.requests ++ [i] } } := by
  rw [State.submit, enqueue_of_room ha hq]
  exact settleTrunk_waits (f := f) (r := r) ht hr

/-! ## Where a response leaves -/

/-- A response leaves everything but the trunk. -/
@[simp] theorem reply_lanes (s : State) (r : Response) : (s.reply r).lanes = s.lanes := by
  simp only [State.reply]; split <;> rfl
@[simp] theorem reply_pairs (s : State) (r : Response) : (s.reply r).pairs = s.pairs := by
  simp only [State.reply]; split <;> rfl
@[simp] theorem reply_sessions (s : State) (r : Response) :
    (s.reply r).sessions = s.sessions := by simp only [State.reply]; split <;> rfl
@[simp] theorem reply_notices (s : State) (r : Response) :
    (s.reply r).notices = s.notices := by simp only [State.reply]; split <;> rfl
@[simp] theorem reply_tariff (s : State) (r : Response) : (s.reply r).tariff = s.tariff := by
  simp only [State.reply]; split <;> rfl
@[simp] theorem reply_clock (s : State) (r : Response) : (s.reply r).clock = s.clock := by
  simp only [State.reply]; split <;> rfl
@[simp] theorem reply_charges (s : State) (r : Response) :
    (s.reply r).charges = s.charges := by simp only [State.reply]; split <;> rfl
@[simp] theorem reply_device (s : State) (r : Response) : (s.reply r).device = s.device := by
  simp only [State.reply]; split <;> rfl
@[simp] theorem reply_requests (s : State) (r : Response) :
    (s.reply r).trunk.requests = s.trunk.requests := by simp only [State.reply]; split <;> rfl

end Sys2Proof.Machine
end

