-- ==== Sys2Proof/Tests/Slice0.lean ====
section
/-! SUPPORT. Tests: for each statement that has hypotheses a concrete state and operands that meet
them (`witness_<Name>`), clause by clause; ill-formed commands that `WellFormed` refuses; and single
operations against the worked examples of the spec. -/

namespace Sys2Proof.Tests

open Sys2Proof Sys2Proof.Machine

-- The kernel evaluations of this file run one after another, not all at once.
set_option Elab.async false

/-! ## Small states -/

/-- A pair whose seven nodes answer. -/
def alivePair : Pair :=
  { Initial.pair with
    poller :=
      { Initial.poller with nodes := Vector.replicate 7 { Initial.node with state := .alive } } }

/-- A lane of the map with a console, CLOSED. -/
def shutLane : Lane :=
  { Initial.lane with
    entry := { Initial.laneEntry with enabled := true, hasConsole := true, state := .closed } }

/-- A centre in RUN with every lane CLOSED, in the last second of 31 December 2099 (a Thursday). -/
def house : State :=
  { State.reset with
    device := .run
    laneMapLoaded := true
    clock := ⟨⟨59, 59, 23, 4, 31, 12, 2099⟩, true, 0, false⟩
    lanes := Vector.replicate 32 shutLane
    pairs := Vector.replicate 16 alivePair }

/-- A bowler in game 1. -/
def player (handle : Nat) : Bowler :=
  ⟨handle, true, false, false, 163, .none, { newGame 1 0 with status := .inProgress }, 0, []⟩

/-- A frame after its first ball of seven. -/
def halfFrame : Frame :=
  ⟨.inProgress, [⟨7, .full, fullRack, pinSetOf [1, 2, 3], false, false, .readGood, false, 1⟩], none,
    none⟩

/-- The first bowler in that frame. -/
def halfPlayer : Bowler :=
  { player 1 with game := { (player 1).game with frames := halfFrame :: List.replicate 9 emptyFrame } }

/-- Two bowlers on lane 1, before their first ball. -/
def party : Session where
  state := .opened
  mode := .single
  lane := 0
  terms := Initial.terms
  expiryDue := false
  game := 1
  frame := 1
  slot := some 1
  bowlers := [player 1, player 2]
  takingPart := [1, 2]
  nextBall := ⟨1, 1, 1, .full, fullRack, none⟩
  held := none
  pendingResume := none
  billing := newBilling .game false 5

/-- The centre with a session of number 1 open on lane 1. -/
def hosting (x : Session) : State :=
  (house.setSession 0 (some x)).modEntry 0 fun e => { e with state := .opened, holder := some 0 }

/-- The machine of lane 1 in a state. -/
def withMachine (m : MachineState) (s : State) : State := s.modSupervisor 0 fun v => { v with machine := m }

/-- The play state of lane 1. -/
def withPlay (p : PlayState) (s : State) : State := s.modTracker 0 fun k => { k with play := p }

/-- The two bowlers with lane 1's machine READY and the lane not armed: a quiet lane. -/
def rolling : State := withMachine .ready (hosting party)

/-- A command in the slot of the pinsetter of lane 1. -/
def withSlot (c : Command) (s : State) : State :=
  s.modNode 0 (pinsetterAddr .left) fun n => { n with slot := some ⟨c, 0, none⟩ }

/-- One class of the fault action table takes another action. -/
def withAction (c : FaultClass) (a : Action) (s : State) : State :=
  { s with faultTable := s.faultTable.set (faultIndex c) ⟨a, true, 9⟩ }

/-- A poll of pair 1 that carried nothing waits. -/
def polled (a : NodeAddr) (s : State) : State :=
  s.modPoller 0 fun q => { q with poll := some ⟨a, none, 6, false⟩ }

/-! ## Ways to say that a fixture meets a hypothesis -/

/-- The answer is a next state. -/
def isNext (r : Host.Outcome State Fault Refusal) : Bool :=
  match r with
  | .next _ => true
  | .fault _ => false
  | .refused _ => false

/-- An answer that is a next state names one. -/
theorem exists_next {r : Host.Outcome State Fault Refusal} (h : isNext r = true) :
    ∃ t, r = .next t := by
  cases r with
  | next t => exact ⟨t, rfl⟩
  | fault _ => cases h
  | refused _ => cases h

/-- A property of every session in use, checked record by record. -/
theorem forall_session {s : State} {P : SessionId → Session → Prop} [∀ i x, Decidable (P i x)]
    (h : ∀ i, (s.session i).all (fun x => decide (P i x)) = true) :
    ∀ i x, s.session i = some x → P i x := by
  intro i x hx
  have := h i
  simpa [hx] using this

/-- No session of a state leaves a lane, checked record by record. -/
theorem noneLeaving_of {s : State}
    (h : ∀ i, (s.session i).all (fun x => decide (x.state ≠ .closing ∧ x.state ≠ .moving)) = true) :
    s.NoneLeaving := forall_session (P := fun _ x => x.state ≠ .closing ∧ x.state ≠ .moving) h

/-! ## Witnesses: the block as a whole -/

/-- The settings and stores of the small states are those of power-on. -/
theorem settings_house : SettingsOk house where
  profiles := by
    have h : ∀ n : Fin 4, house.profiles[n] = Initial.profile := by decide
    intro n
    rw [h n]
    exact ⟨by decide, by decide, by decide, by decide, by decide⟩
  debounce := fun p => by
    have h : ∀ p, (house.filter p).debounce = ⟨10, 20, 20, 500⟩ := by decide +kernel
    rw [h p]
    exact ⟨by decide, by decide, by decide, by decide⟩
  timeout := by decide +kernel
  threshold := by decide +kernel
  capacity := by decide +kernel
  jamSeconds := by decide +kernel
  faultPriority := by decide
  noticePriority := by decide
  defaults := ⟨trivial, by decide, by decide, by decide, by decide, by decide, by decide⟩
  orders := by
    have h : ∀ p, (house.poller p).order.length = 8 ∧ (house.poller p).pendingOrder = none ∧
        (house.poller p).current = 0 := by decide +kernel
    intro p
    obtain ⟨a, b, c⟩ := h p
    exact ⟨by omega, fun o ho => (by simp [b] at ho), by omega⟩
  tariff :=
    have zero : ClassDefaultOk ⟨0, 0, 0, 0⟩ := ⟨by decide, by decide, by decide, by decide⟩
    { table := ⟨by decide, fun _ hp => (by cases hp)⟩
      activeDefaults := fun c => by
        rw [(by decide : ∀ c : Fin 8, house.tariff.activeDefaults[c] = ⟨0, 0, 0, 0⟩) c]; exact zero
      activeDays := ⟨⟨by decide, by decide⟩, fun _ hd => (by cases hd)⟩
      slots := fun n p hp => by
        rw [(by decide : ∀ n : Fin 24, house.tariff.slots[n] = none) n] at hp; cases hp
      stagedDefaults := fun c => by
        rw [(by decide : ∀ c : Fin 8, house.tariff.stagedDefaults[c] = ⟨0, 0, 0, 0⟩) c]; exact zero
      stagedDays := ⟨⟨by decide, by decide⟩, fun _ hd => (by cases hd)⟩
      pending := fun c hc => by cases hc }

theorem stores_house : StoresOk house where
  days := ⟨by decide, by decide⟩
  charges := by decide
  tracks := by decide +kernel
  frames := by decide +kernel

theorem notices_house : NoticesOk house.notices := ⟨by decide, by decide⟩

theorem queue_house : QueueOk house.trunk := ⟨by decide, by decide⟩

theorem settled_house : TrunkSettled house := ⟨by decide, by decide⟩

/-- The small states with a command that raises a notice waiting. -/
def houseAdjust : State := { house with pending := [.adjustClock 1] }

theorem witness_StepRunsFrontCommand : house.pending = [] := rfl

theorem witness_StepKeepsNoticesDistinct :
    NoticesOk houseAdjust.notices ∧ ∃ t, step houseAdjust = .next t :=
  ⟨notices_house, exists_next (by decide +kernel)⟩

theorem witness_StepKeepsQueueBounded :
    QueueOk houseAdjust.trunk ∧ ∃ t, step houseAdjust = .next t :=
  ⟨queue_house, exists_next (by decide +kernel)⟩

theorem witness_StepKeepsStoresBounded : StoresOk house ∧ ∃ t, step house = .next t :=
  ⟨stores_house, exists_next (by decide +kernel)⟩

theorem witness_StepKeepsSettingsInRange : SettingsOk house ∧ ∃ t, step house = .next t :=
  ⟨settings_house, exists_next (by decide +kernel)⟩

theorem witness_StepKeepsCalendarInRange :
    calendarInRange houseAdjust.clock.calendar = true ∧ ∃ t, step houseAdjust = .next t :=
  ⟨by decide, exists_next (by decide +kernel)⟩

theorem witness_StepLeavesTrunkSettled :
    QueueOk houseAdjust.trunk ∧ TrunkSettled houseAdjust ∧ ∃ t, step houseAdjust = .next t :=
  ⟨queue_house, ⟨settled_house.line, settled_house.queue⟩, exists_next (by decide +kernel)⟩

/-! ## Witnesses: requests on the trunk -/

theorem free_house : house.TrunkFree := ⟨rfl, rfl⟩

theorem witness_RequestTakenAtOnce :
    (∃ a, asked (.readDevice 3) = some a) ∧ house.TrunkFree := ⟨⟨_, rfl⟩, free_house⟩

/-- A response is on the line and one waits in the slot. -/
def answered : Trunk :=
  { Initial.trunk with
    transmitting := some (.response ⟨1, 25, ⟨.ok, .nothing⟩⟩)
    response := some ⟨2, 25, ⟨.ok, .nothing⟩⟩ }

/-- The queue empty, and the queue full: the two cases of a request that is not taken at once. -/
theorem witness_RequestWaitsOrIsDropped :
    (∃ a, asked (.readDevice 3) = some a) ∧
    (∃ f r, answered.transmitting = some f ∧ answered.response = some r) ∧
    answered.requests.length < 8 ∧
    ¬ ({ answered with requests := List.replicate 8 (.readDevice 3) } : Trunk).requests.length < 8 :=
  ⟨⟨_, rfl⟩, ⟨_, _, rfl, rfl⟩, by decide, by decide⟩

/-- In SETUP the last request code that it refuses, and an unknown one among its codes; an unknown one
in RUN, and just below and above those codes. -/
theorem witness_RequestsRefusedAtOnce :
    State.reset.TrunkFree ∧ State.reset.device = .setup ∧ house.TrunkFree ∧ house.device = .run ∧
    (26#8).toNat < 27 ∧ 44 < (45#8).toNat ∧
    (∃ a, asked (.returnSetup 3) = some a ∧ 27 ≤ a.code.toNat ∧ a.code.toNat ≤ 44) ∧
    (∃ a, asked (.unknownRequest 3 27) = some a ∧ 27 ≤ a.code.toNat ∧ a.code.toNat ≤ 44) :=
  ⟨⟨rfl, rfl⟩, rfl, ⟨rfl, rfl⟩, rfl, by decide, by decide, ⟨_, rfl, by decide, by decide⟩,
    ⟨_, rfl, by decide, by decide⟩⟩

/-- READ_DEVICE, a request without fields, and READ_LANE with one. -/
theorem witness_RequestFrameRunsItsRequest :
    house.TrunkFree ∧ TrunkSettled house ∧ house.trunk.received = [] ∧
    [0#8, 3#8] = bytes2 (([] : List Byte).length + 3) ∧
    requestOf 9 25 [] = some (.readDevice 9) ∧ [0#8, 4#8] = bytes2 ([5#8].length + 3) ∧
    requestOf 9 21 [5] = some (.readLane 9 5) :=
  ⟨free_house, settled_house, rfl, by decide, by decide, by decide, by decide⟩

/-- A length of 2 and one of 516; a CRC that differs at the lowest length; another kind. -/
theorem witness_BadFrameIsCountedAndDropped :
    TrunkSettled house ∧ house.trunk.received = [] ∧
    (word2 0 2 < 3 ∧ 0xA5#8 ∉ [0#8, 2#8] ++ ([] : List Byte) ++ [0, 0]) ∧
    (515 < word2 2 4 ∧ 0xA5#8 ∉ [2#8, 4#8] ++ ([] : List Byte) ++ [0, 0]) ∧
    (word2 0 3 = 3 ∧ [1#8, 9#8, 25#8].length = word2 0 3 ∧
      crc16 ([0, 3] ++ [1, 9, 25]) ≠ BitVec.ofNat 16 (word2 0 0)) ∧
    (∃ x y, crc16 ([0, 3] ++ [2, 9, 25]) = BitVec.ofNat 16 (word2 x y) ∧
      [2#8, 9#8, 25#8].head? ≠ some 1#8 ∧ 0xA5#8 ∉ [0#8, 3#8] ++ [2, 9, 25] ++ [x, y]) := by
  refine ⟨settled_house, rfl, by decide, by decide, by decide +kernel, ?_⟩
  exact ⟨(crc16 ([0, 3] ++ [2, 9, 25])).extractLsb' 8 8, (crc16 ([0, 3] ++ [2, 9, 25])).extractLsb' 0 8,
    by decide +kernel, by decide, by decide +kernel⟩

/-- An eligible notice, at the lowest priority that is sent, and one that waits at 0. -/
def told : Notice := ⟨0, .chargeListFull 1 [], 1, 1⟩

/-- Each way on of the line; and a READ_TARIFF response with the tables full. -/
theorem witness_TransmitCompleteSendsNext :
    (∀ q : List Instr, TrunkSettled { house with trunk := { answered with requests := q } }) ∧
    (∃ a, asked (.readDevice 3) = some a) ∧
    (TrunkSettled { house with
        trunk := { answered with response := none }, notices := [told] } ∧
      ∃ n ∈ [told], 1 ≤ n.priority) ∧
    (TrunkSettled { house with notices := [{ told with priority := 0 }] } ∧
      ∀ n ∈ [{ told with priority := 0 }], n.priority = 0) ∧
    (let table := List.replicate 24 (⟨255, 127, 0, 1439, 65535, 65535⟩ : Period)
     (table.map some).length ≤ 24 ∧
      (List.replicate 16 (⟨31, 12, 6⟩ : SpecialDay)).length ≤ 16) ∧
    ∀ x : Option Period, (Vector.replicate 24 x).toList.length ≤ 24 := by
  refine ⟨fun q => ⟨?_, ?_⟩, ⟨_, rfl⟩, ⟨⟨?_, fun _ => rfl⟩, by decide⟩,
    ⟨⟨by decide, by decide⟩, by decide⟩, ⟨by decide, by decide⟩, fun x => by simp⟩
  · intro h; cases h
  · intro h; cases h
  · intro h; cases h

/-! ## Witnesses: loads -/

/-- A pair in use whose load disables it turns the lift off; an order without the consoles lacks them once
they become required; a console that goes loses a frame in its slot. -/
theorem witness_SetLaneMapLoadsPair_follows :
    (let s := house.modReturn 0 fun r => { r with liftOn := true }
     s.pairInUse 0 = false ∧ (s.ballReturn 0).liftOn = true ∧
      (s.node 0 laneIoAddr).state = .alive ∧ (s.node 0 laneIoAddr).slot = none) ∧
    (State.reset.ballReturn 0).liftOn = false ∧
    (State.reset.required 0 (consoleAddr .left) = false ∧
      house.required 0 (consoleAddr .left) = true ∧
      consoleAddr .left ∉ ([0, 1, 2, 3, 4] : List NodeAddr) ∧
      ∀ a, a ∈ (State.reset.poller 0).order) ∧
    (let s := house.modNode 0 (consoleAddr .left) fun n =>
        { n with slot := some ⟨.display [1], 0, none⟩ }
     (s.entry 0).hasConsole = true ∧ s.pairAtRest 0 = true ∧
      (s.node 0 (consoleAddr .left)).slot.isSome = true) := by decide +kernel

/-- A device in SETUP with nothing loaded, and profile 3, the highest there is. -/
theorem witness_SetLaneMapLoadsPair :
    State.reset.TrunkFree ∧ pairOf? 1 = some 0 ∧ pairOf? 16 = some 15 ∧
    (3 : Nat) ≤ 3 ∧ (State.reset.device = .run → State.reset.pairAtRest 0 = true) ∧
    (house.device = .run ∧ house.pairAtRest 0 = true) ∧
    State.reset.isMoveTarget (laneAt 0 .left) = false ∧
    State.reset.isMoveTarget (laneAt 0 .right) = false :=
  ⟨⟨rfl, rfl⟩, by decide, by decide, by decide, by decide, ⟨rfl, by decide +kernel⟩,
    by decide +kernel, by decide +kernel⟩

theorem witness_SetProfileReplacesProfile : house.TrunkFree ∧ (3 : Nat) < 4 ∧ (3 : Nat) < 3 + 1 :=
  ⟨free_house, by decide, by decide⟩

/-- A list of two classes at the ends of their ranges, and an empty one. -/
theorem witness_SetFaultActionReplacesEntries :
    house.TrunkFree ∧
    (let items : List FaultActionItem := [⟨1, 0, true, 0⟩, ⟨14, 3, false, 15⟩]
     items ≠ [] ∧ (items.map (·.classCode)).Nodup ∧
      ∀ x ∈ items, 1 ≤ x.classCode ∧ x.classCode ≤ 14 ∧ x.actionCode ≤ 3 ∧ x.priority ≤ 15) ∧
    ¬ (([] : List FaultActionItem) ≠ []) :=
  ⟨free_house, ⟨by decide, by decide, by decide⟩, by decide⟩

theorem witness_SetNoticePriorityReplacesPriorities :
    house.TrunkFree ∧
    (let items : List NoticePriorityItem := [⟨1, 0⟩, ⟨20, 15⟩]
     items ≠ [] ∧ (items.map (·.kind)).Nodup ∧
      ∀ x ∈ items, 1 ≤ x.kind ∧ x.kind ≤ 20 ∧ x.kind ≠ 7 ∧ x.priority ≤ 15) ∧
    ¬ (([] : List NoticePriorityItem) ≠ []) :=
  ⟨free_house, ⟨by decide, by decide, by decide⟩, by decide⟩

/-- The seven addresses once each, for a pair whose lanes are in the map with consoles. -/
theorem witness_SetPollOrderMakesPendingList :
    house.TrunkFree ∧ pairOf? 1 = some 0 ∧ [1, 2, 3, 4, 5, 6, 7].length ≤ 12 ∧
    [1, 2, 3, 4, 5, 6, 7] = ([0, 1, 2, 3, 4, 5, 6] : List NodeAddr).map (fun a => a.val + 1) ∧
    (∀ a, house.required 0 a = true → a ∈ ([0, 1, 2, 3, 4, 5, 6] : List NodeAddr)) :=
  ⟨free_house, by decide, by decide, by decide, by decide⟩

/-- GAME billing with a GAMES limit; GAME billing with a MINUTES limit is not valid. -/
theorem witness_SetDefaultsReplacesRecord :
    house.TrunkFree ∧
    (let valid := fun f : DefaultsFields => f.billing ≤ 1 ∧ f.tariffClass ≤ 7 ∧ f.limitKind ≤ 2 ∧
        ¬ (f.billing = 0 ∧ f.limitKind = 2) ∧ ¬ (f.billing = 1 ∧ f.limitKind = 1)
     valid ⟨0, 7, 1, 300, 16, 0, 1, 1, 301, 101, 0, 31⟩ ∧
      ¬ valid ⟨0, 7, 2, 300, 16, 0, 1, 1, 301, 101, 0, 31⟩) :=
  ⟨free_house, by decide, by decide⟩

/-- A capacity of 1 that the list of one ball reaches. -/
theorem witness_SetReturnHoldsAtCapacity :
    house.TrunkFree ∧ pairOf? 1 = some 0 ∧
    max 1 (min 12 0) ≤
      ((house.modReturn 0 fun r => { r with track := [⟨0, 0⟩] }).ballReturn 0).track.length :=
  ⟨free_house, by decide, by decide +kernel⟩

/-! ## Witnesses: the clock and the tariff -/

/-- 29 February of a leap year, and of a year that has none. -/
theorem witness_SetClockSetsCalendar :
    house.TrunkFree ∧
    (let valid := fun c : Calendar =>
        c.second ≤ 59 ∧ c.minute ≤ 59 ∧ c.hour ≤ 23 ∧ 1 ≤ c.weekday ∧ c.weekday ≤ 7 ∧
        1 ≤ c.month ∧ c.month ≤ 12 ∧ 2000 ≤ c.year ∧ c.year ≤ 2099 ∧ 1 ≤ c.day ∧
        c.day ≤ (if c.month = 2 then (if c.year % 4 = 0 then 29 else 28)
          else if c.month ∈ [4, 6, 9, 11] then 30 else 31)
     valid ⟨0, 0, 0, 2, 29, 2, 2000⟩ ∧ ¬ valid ⟨0, 0, 0, 2, 29, 2, 2099⟩) :=
  ⟨free_house, by decide, by decide⟩

theorem witness_AdjustClockTrimsToMinute :
    house.TrunkFree ∧ State.reset.TrunkFree ∧ State.reset.clock.valid = false ∧
    house.clock.valid = true := ⟨free_house, ⟨rfl, rfl⟩, rfl, rfl⟩

/-- No commit pending, and one pending: the device with a commit of no entry. -/
def committing : State :=
  { house with tariff := { Initial.tariff with pending := some ⟨0, ⟨2099, 12, 31, 23, 58⟩⟩ } }

/-- Sixteen special days: every day of January up to the sixteenth. -/
def sixteenDays : List SpecialDay := (List.range 16).map fun n => ⟨n + 1, 1, 7⟩

theorem witness_StagingReplacesEntries :
    house.TrunkFree ∧ house.tariff.pending = none ∧ committing.TrunkFree ∧
    committing.tariff.pending.isSome = true ∧
    DaysOk house.tariff.stagedDays ∧ DaysOk sixteenDays ∧ sixteenDays.length = 16 ∧
    (∃ d ∈ sixteenDays, d.day = 16 ∧ d.month = 1) ∧
    (¬ ∃ d ∈ sixteenDays, d.day = 29 ∧ d.month = 2) ∧
    (1 ≤ 29 ∧ 29 ≤ (if 2 = 2 then 29 else if 2 ∈ [4, 6, 9, 11] then 30 else 31)) ∧
    ¬ (30 ≤ (if 2 = 2 then 29 else if 2 ∈ [4, 6, 9, 11] then 30 else 31)) :=
  ⟨free_house, rfl, ⟨rfl, rfl⟩, rfl, ⟨by decide, by decide⟩, ⟨by decide, by decide⟩, by decide,
    by decide, by decide, by decide, by decide⟩

/-- A commit of no entry in SETUP and in RUN, with the right check value and with another. -/
theorem witness_CommitTariffSwapsOrPends :
    house.TrunkFree ∧ house.tariff.pending = none ∧ house.device = .run ∧
    State.reset.TrunkFree ∧ State.reset.tariff.pending = none ∧ State.reset.device = .setup ∧
    (∀ i : Fin 24, i.val < 0 → house.tariff.slots[i].isSome = true) ∧
    (∃ n, (stagedCrc house.tariff 0).toNat = n) ∧ (stagedCrc house.tariff 0).toNat ≠ 65536 :=
  ⟨free_house, rfl, rfl, ⟨rfl, rfl⟩, rfl, rfl, fun _ h => absurd h (Nat.not_lt_zero _), ⟨_, rfl⟩,
    Nat.ne_of_lt (stagedCrc house.tariff 0).isLt⟩

theorem witness_CancelCommitEndsPending :
    committing.TrunkFree ∧ committing.tariff.pending.isSome = true ∧ house.TrunkFree ∧
    house.tariff.pending = none := ⟨⟨rfl, rfl⟩, rfl, free_house, rfl⟩

/-! ## Witnesses: pair traffic, returns, charges and the device -/

/-- An empty console slot, and a full one. -/
theorem witness_PassThroughQueuesOrPlaces :
    house.TrunkFree ∧ house.mappedLane? 1 = some 0 ∧ (house.entry 0).hasConsole = true ∧
    (house.node 0 (consoleAddr .left)).state = .alive ∧ (house.poller 0).queue.length < 4 ∧
    (house.node 0 (consoleAddr .left)).slot = none ∧
    (∀ f ∈ (house.poller 0).queue, f.side ≠ Side.left) ∧
    (let s := house.modNode 0 (consoleAddr .left) fun n =>
        { n with slot := some ⟨.display [1], 0, none⟩ }
     (s.node 0 (consoleAddr .left)).slot.isSome = true ∧
      (s.node 0 (consoleAddr .left)).state = .alive) :=
  ⟨free_house, by decide +kernel, by decide +kernel, by decide +kernel, by decide +kernel,
    by decide +kernel, by decide +kernel, by decide +kernel⟩

/-- At rest with no holder and a SET_COUNT in a reader's slot; and not at rest. -/
theorem witness_RestartPairLinkEmptiesLink :
    (let s := house.modNode 0 (readerAddr .left) fun n => { n with slot := some ⟨.setCount 9, 3, none⟩ }
     s.TrunkFree ∧ pairOf? 1 = some 0 ∧ s.pairAtRest 0 = true ∧
      (∀ d, (s.entry (laneAt 0 d)).holder = none) ∧
      (s.reader (laneAt 0 .left)).slot = some ⟨.setCount 9, 3, none⟩) ∧
    rolling.TrunkFree ∧ rolling.pairAtRest 0 = false :=
  ⟨⟨⟨rfl, rfl⟩, by decide, by decide +kernel, fun d => (by cases d <;> decide +kernel),
    by decide +kernel⟩, ⟨rfl, rfl⟩, by decide +kernel⟩

/-- A track of one ball, and an empty one; counts of 1 and 16. -/
def oneBall : State := house.modReturn 0 fun r => { r with track := [⟨0, 0⟩] }

theorem nobody_leaves_house : house.NoneLeaving := noneLeaving_of (by decide +kernel)

theorem witness_TrimTrackRemovesOldest :
    oneBall.TrunkFree ∧ oneBall.NoneLeaving ∧ 1 ≤ (oneBall.ballReturn 0).track.length ∧
    house.NoneLeaving ∧ (house.ballReturn 0).track.length = 0 ∧ pairOf? 1 = some 0 :=
  ⟨⟨rfl, rfl⟩, noneLeaving_of (by decide +kernel), by decide +kernel, nobody_leaves_house,
    by decide +kernel, by decide⟩

/-- Maxima at the top and above; a list of 254 lines, of 255 without and with the full flag, of 256. -/
theorem witness_CollectChargesTakesOldest :
    house.TrunkFree ∧ (16 : Nat) ≤ 16 ∧ (16 : Nat) < 17 ∧
    (let line := timeLine 0 ⟨0, 1, 2, 3, 4, house.clock.calendar⟩
     let filled := fun (n : Nat) (full : Bool) =>
       ({ house with charges := ⟨List.replicate n line, full⟩ } : State).charges
     (filled 254 false).lines.length < 255 ∧
      ((filled 255 true).lines.length = 255 ∧ (filled 255 true).full = true) ∧
      ((filled 255 false).lines.length = 255 ∧ (filled 255 false).full = false) ∧
      256 ≤ (filled 256 true).lines.length) :=
  ⟨free_house, by decide, by decide, by simp only [List.length_replicate]; decide⟩

/-- At rest with nothing owed; at rest with a line in the Charge List, and with folded lines alone; a lane
open. -/
theorem witness_ResetDeviceClearsBlocks :
    house.TrunkFree ∧
    (let rests := fun s : State => ∀ l, ((s.entry l).state = .closed ∨ (s.entry l).state = .disabled) ∧
      ((s.supervisor l).machine = .off ∨ (s.supervisor l).machine = .parked ∨
        (s.supervisor l).machine = .outOfService)
     rests house ∧ ¬ rests rolling) ∧
    ¬ (house.charges.lines ≠ [] ∨
      ∃ l, (house.meter l).unlisted.amount ≠ 0 ∨ (house.meter l).unlisted.lines ≠ 0) ∧
    ({ house with charges := ⟨[timeLine 0 ⟨0, 1, 2, 3, 4, house.clock.calendar⟩], false⟩ } :
      State).charges.lines ≠ [] ∧
    (let s := house.modMeter 2 fun m => { m with unlisted := ⟨40, false, 2⟩ }
     s.TrunkFree ∧ s.charges.lines = [] ∧ (s.meter 2).unlisted.lines ≠ 0) :=
  ⟨free_house, ⟨by decide +kernel, by decide +kernel⟩, by decide +kernel, by decide,
    ⟨rfl, rfl⟩, by decide +kernel, by decide +kernel⟩

theorem witness_DeviceStateRequests :
    house.TrunkFree ∧ house.device = .run ∧ State.reset.device = .setup ∧
    State.reset.laneMapLoaded = false ∧ house.laneMapLoaded = true ∧
    State.reset.clock.valid = false ∧ house.clock.valid = true ∧
    house.tariff.committedOnce = false ∧
    ({ house with tariff := { Initial.tariff with committedOnce := true } } :
      State).tariff.committedOnce = true :=
  ⟨free_house, rfl, rfl, rfl, rfl, rfl, rfl, rfl, rfl⟩

theorem witness_ReadsAnswerAndChangeNothing :
    rolling.TrunkFree ∧ rolling.mappedLane? 32 = some 31 ∧ rolling.mappedLane? 33 = none ∧
    (∃ x, rolling.session 0 = some x) ∧
    (∀ i : SessionId, 2 = i.val + 1 → rolling.session i = none) ∧ (16 : Nat) < 17 :=
  ⟨⟨rfl, rfl⟩, by decide +kernel, by decide +kernel, ⟨party, by decide +kernel⟩, by decide +kernel,
    by decide⟩

/-! ## Witnesses: sessions -/

/-- Every field from the centre default record. -/
def byDefault : TermSelectors :=
  ⟨.centreDefault, .centreDefault, .centreDefault, .centreDefault, .centreDefault, .centreDefault,
    .centreDefault, .centreDefault, .centreDefault, .centreDefault⟩

/-- Eight bowlers, as many as a list holds. -/
def eight : List BowlerEntry := List.replicate 8 ⟨7, 163, 2, 0⟩

theorem free_rolling : rolling.TrunkFree := ⟨rfl, rfl⟩

theorem rolling_stays : rolling.NoneLeaving := noneLeaving_of (by decide +kernel)

theorem witness_OpenLaneTakesSession :
    house.TrunkFree ∧ house.device = .run ∧ house.mappedLane? 1 = some 0 ∧
    (house.entry 0).state = .closed ∧ house.isMoveTarget 0 = false ∧
    openableMachine (house.supervisor 0).machine = true ∧
    (∃ r, resolveTerms house.defaults.terms (house.entry 0).memory byDefault = some r ∧
      limitFits r.terms.billing r.terms.limit = true) ∧
    (∃ bs, bowlersOf? eight = some bs) ∧ 1 ≤ eight.length ∧ eight.length ≤ 8 ∧
    (∃ free, house.freeSessions = 0 :: free) ∧
    (house.belowStop 0 = true ∧ (house.supervisor 0).machine = .off ∧
      (house.pinsetter 0).slot = none) :=
  ⟨free_house, rfl, by decide +kernel, by decide +kernel, by decide +kernel, by decide +kernel,
    ⟨_, rfl, by decide⟩, ⟨_, rfl⟩, by decide, by decide, ⟨allSessions.tail, by decide +kernel⟩,
    by decide +kernel⟩

/-- The same lane with a fault at STOP. -/
theorem witness_OpenLaneTakesSession_stopped :
    (house.setLaneFaults 0 [⟨.stepOverdue, .stop, true, true, false, 1, 0, 0⟩]).belowStop 0 = false ∧
    (house.setLaneFaults 0 [⟨.stepOverdue, .stop, true, true, false, 1, 0, 0⟩]).isMoveTarget 0 =
      false := by decide +kernel

theorem witness_OpenPairPlayTakesBothLanes :
    house.TrunkFree ∧ pairOf? 1 = some 0 ∧ (house.entry (laneAt 0 .left)).state = .closed ∧
    (house.entry (laneAt 0 .right)).state = .closed ∧
    house.isMoveTarget (laneAt 0 .left) = false ∧ house.isMoveTarget (laneAt 0 .right) = false ∧
    openableMachine (house.supervisor (laneAt 0 .left)).machine = true ∧
    openableMachine (house.supervisor (laneAt 0 .right)).machine = true ∧
    (∃ r, resolveTerms house.defaults.terms (house.entry (laneAt 0 .right)).memory byDefault = some r ∧
      r.terms.billing = .game ∧ limitFits .game r.terms.limit = true) ∧
    (∃ free, house.freeSessions = 0 :: 1 :: free) :=
  ⟨free_house, by decide, by decide +kernel, by decide +kernel, by decide +kernel, by decide +kernel,
    by decide +kernel, by decide +kernel, ⟨_, rfl, by decide⟩,
    ⟨allSessions.tail.tail, by decide +kernel⟩⟩

/-- The team of a side, on a lane. -/
def team (d : Side) (l : LaneId) : Session := { party with mode := .pairPlay d, lane := l }

/-- Pair 1 in pair play: the holder and the waiting session of its left lane, the holder of its right. -/
def duel (held waiting other : Option SessionId) : State :=
  (((house.setSession 0 (some (team .left 0))).setSession 1 (some (team .right 1))).modEntry 0
    fun e => { e with state := .pairPlay, holder := held, waiting := waiting }).modEntry 1 fun e =>
      { e with state := .pairPlay, holder := other }

/-- Team 1 on the left lane: the other lane held; free; free with team 2 waiting for the left lane; team
1 waiting; and the end of frame 10. -/
theorem witness_OpenPairPlayTakesBothLanes_turns :
    (team .left 0).mode ≠ .single ∧ (team .left 0).state = .opened ∧
    (let s := duel (some 0) none (some 1)
     s.session 0 = some (team .left 0) ∧ (s.entry (laneAt 0 .left)).holder = some 0 ∧
      (s.entry (laneAt 0 .left)).waiting = none ∧ (s.entry (laneAt 0 .right)).holder = some 1) ∧
    (let s := duel (some 0) none none
     (s.entry (laneAt 0 .left)).waiting = none ∧ (s.entry (laneAt 0 .right)).holder = none) ∧
    (let s := duel (some 0) (some 1) none
     (s.entry (laneAt 0 .left)).waiting = some 1 ∧ s.session 1 = some (team .right 1) ∧
      (s.entry (laneAt 0 .right)).holder = none) ∧
    (let s := duel (some 1) (some 0) none
     (s.entry (laneAt 0 .left)).holder ≠ some 0 ∧ (s.entry (laneAt 0 .left)).waiting = some 0) ∧
    (let x := { team .left 0 with frame := 10 }
     (nextGame x).2 = false ∧ ∀ m ∈ x.takingPart, 2 < m → ∀ b, bowlerAt x m = some b →
      b.game.status ≠ .inProgress) :=
  ⟨by decide, by decide, by decide +kernel, by decide +kernel, by decide +kernel, by decide +kernel,
    by decide, fun m hm h => absurd hm (by simp [team, party]; omega)⟩

theorem witness_AddBowlerAppendsRecord :
    rolling.TrunkFree ∧ rolling.device = .run ∧ rolling.sessionInUse? 1 = some (0, party) ∧
    party.state ≠ .closing ∧ party.bowlers.length < 8 ∧
    handicapModeOf? 1 301 = some (.fixed 300) ∧ (∃ h, handicapModeOf? 0 0 = some h) ∧
    (∃ h, handicapModeOf? 2 0 = some h) :=
  ⟨free_rolling, rfl, by decide +kernel, by decide, by decide, by decide, ⟨_, rfl⟩, ⟨_, rfl⟩⟩

/-- The two bowlers at the start of frame 2. -/
def partyTwo : Session := { party with frame := 2, nextBall := ⟨1, 2, 1, .full, fullRack, none⟩ }

theorem witness_WithdrawBowlerEndsMembership :
    rolling.sessionInUse? 1 = some (0, party) ∧ bowlerAt party 1 = some (player 1) ∧
    bowlerAt party 2 = some (player 2) ∧ (player 1).member = true ∧ party.state ≠ .closing ∧
    (player 1).withdrawalPending = false ∧
    2 ≤ (party.bowlers.filter fun c => c.member && !c.withdrawalPending).length ∧
    ((withPlay .settling rolling).sessionInFlight 0 party = true ∧ party.slot = some 1) ∧
    (rolling.NoneLeaving ∧ party.slot ≠ some 2) ∧
    (let s := withMachine .ready (hosting partyTwo)
     s.NoneLeaving ∧ s.sessionInUse? 1 = some (0, partyTwo) ∧ partyTwo.slot = some 1 ∧
      s.sessionInFlight 0 partyTwo = false ∧ partyTwo.expiryDue = false ∧
      partyTwo.nextBall.faced ≠ .leave ∧
      (partyTwo.takingPart.filter fun m => decide (1 < m)).find?
        (fun m => gameStatus partyTwo m == some .inProgress ||
          partyTwo.frame == 1 && gameStatus partyTwo m == some .notStarted) = some 2) :=
  ⟨by decide +kernel, by decide, by decide, by decide, by decide, by decide, by decide,
    by decide +kernel, ⟨rolling_stays, by decide⟩, noneLeaving_of (by decide +kernel),
    by decide +kernel, by decide, by decide +kernel, by decide, by decide, by decide⟩

/-- Lane 1 with a START in progress. -/
def startRecord : CycleRecord := ⟨.start, 1, .step .powerUp [.home, .newRack], false, none, none⟩

/-- The first bowler in the middle of frame 1, with three pins left and 12 totals; the second has not
begun. -/
def partyLeave (l : Limit) (st : SessionState) : Session :=
  { party with
    state := st, terms := { party.terms with limit := l }
    bowlers := [{ halfPlayer with totals := List.replicate 12 ⟨0, 0, 0, 0, .complete⟩ },
      { player 2 with game := newGame 1 0 }]
    nextBall := ⟨1, 1, 2, .leave, pinSetOf [1, 2, 3], some 3⟩ }

/-- Its lane, the machine in one of the cases of a need: a cycle owed, a sequence in progress, at rest. -/
def leaving (w : Option Need × Option CycleRecord) (a : Action) (l : Limit) (st : SessionState) :
    State :=
  ((withMachine .ready (hosting (partyLeave l st))).modSupervisor 0 fun v =>
      { v with owed := w.1, record := w.2 }).setLaneFaults 0
    [⟨.deckFault, a, true, true, false, 1, 5, 5⟩]

/-- The turn passed in frame 1 on a leave, to a bowler who has not begun: below the games limit by one
game, or without a limit. -/
theorem witness_WithdrawBowlerEndsMembership_leave :
    ∀ l ∈ [Limit.none, .games 1], ∀ st ∈ [SessionState.opened, .exhausted],
      ∀ a ∈ [Action.none, .hold], ∀ w ∈ [(some Need.first, none), (none, some startRecord),
        (none, none)],
      let x := partyLeave l st
      let s := leaving w a l st
      s.sessionInUse? 1 = some (0, x) ∧
      (s.session 0).all (fun y => decide (y.state ≠ .closing ∧ y.state ≠ .moving)) = true ∧
      (bowlerAt x 1).map (·.game.status) = some .inProgress ∧
      x.slot = some 1 ∧ s.sessionInFlight 0 x = false ∧ x.expiryDue = false ∧
      (x.takingPart.filter fun m => decide (1 < m)).find?
        (fun m => gameStatus x m == some .inProgress ||
          x.frame == 1 && gameStatus x m == some .notStarted) = some 2 ∧
      gameStatus x 2 = some .notStarted ∧ x.billing.gamesCharged = 0 ∧
      x.nextBall.faced = .leave ∧ (s.entry x.lane).holder = some 0 ∧
      (s.supervisor 0).machine = .ready ∧
      (a = .none → s.belowHold 0 = true) ∧ (a = .hold → s.belowHold 0 = false) ∧
      (s.supervisor 0).owed = w.1 ∧ (s.supervisor 0).record = w.2 ∧
      (s.pinsetter 0).slot = none := by decide +kernel

/-- No session but the first is in use. -/
theorem alone_rolling (j : SessionId) (y : Session) (hj : j ≠ 0) (hy : rolling.session j = some y) :
    y.state ≠ .closing ∧ y.state ≠ .moving :=
  forall_session (P := fun j y => j ≠ 0 → y.state ≠ .closing ∧ y.state ≠ .moving)
    (by decide +kernel) j y hy hj

/-- The spec's session on lane 1 (lane 21 there): 59 seconds into its sixth minute at an hourly rate
of 2,350 with a carry of 50. -/
def timedParty : Session :=
  { party with
    terms := { Initial.terms with billing := .time }
    billing := { newBilling .time false 5 with
      secondsInMinute := 59, chargeable := 359, elapsed := 359, carry := 50, chargedMinutes := 5
      timeTotal := 195 } }

/-- That session, with a class default of 2,350 an hour. -/
def timedHouse : State :=
  { withMachine .ready (hosting timedParty) with
    tariff := { Initial.tariff with
      activeDefaults := Vector.replicate 8 ⟨0, 2350, 0, 0⟩ } }

/-- That session with its open line of five minutes. -/
def timedLine : OpenLine := ⟨0, 0, 0, 5, 195, house.clock.calendar⟩

def timedOpen : State :=
  timedHouse.modMeter 0 fun m => { m with openLine := some timedLine, chargedTotal := 195 }

/-- TIME billing on a quiet lane, the open line that of the tariff in force. -/
theorem witness_CloseLaneClosesOrWaits_time :
    timedOpen.TrunkFree ∧ timedOpen.device = .run ∧ timedOpen.mappedLane? 1 = some 0 ∧
    (timedOpen.entry 0).state = .opened ∧ (timedOpen.entry 0).holder = some 0 ∧
    timedOpen.session 0 = some timedParty ∧ timedParty.mode = .single ∧ timedParty.lane = 0 ∧
    timedParty.state ≠ .closing ∧ (timedOpen.tracker 0).play ≠ .awaitingEntry ∧
    (∀ i x, i ≠ 0 → timedOpen.session i = some x → x.state ≠ .closing ∧ x.state ≠ .moving) ∧
    timedOpen.quiet 0 = true ∧ timedParty.terms.billing = .time ∧ timedOpen.tariff.pending = none ∧
    (timedOpen.meter 0).openLine = some timedLine ∧ timedLine.minutes < 65535 ∧
    timedOpen.charges.lines.length ≤ 252 ∧
    (let k := lookupIn timedOpen.tariff timedParty.terms.tariffClass timedOpen.clock.calendar
     timedLine.reference = k.reference ∧ timedLine.version = k.version ∧
      k.grace < timedParty.billing.secondsInMinute ∧
      (timedOpen.meter 0).chargedTotal + (k.hourlyRate + timedParty.billing.carry) / 60 + 1 +
        k.minimum < 4294967295) :=
  ⟨⟨rfl, rfl⟩, rfl, by decide +kernel, by decide +kernel, by decide +kernel, by decide +kernel, rfl,
    rfl, by decide, by decide +kernel,
    fun i x hi hx => forall_session
      (P := fun i x => i ≠ 0 → x.state ≠ .closing ∧ x.state ≠ .moving) (by decide +kernel) i x hx hi,
    by decide +kernel, rfl, rfl, by decide +kernel, by decide, by decide, by decide +kernel⟩

/-- A lane CLOSED; a quiet lane; and one whose machine is CYCLING, which is not quiet. -/
theorem witness_CloseLaneClosesOrWaits :
    (house.mappedLane? 1 = some 0 ∧ (house.entry 0).state = .closed) ∧
    rolling.TrunkFree ∧ rolling.mappedLane? 1 = some 0 ∧ (rolling.entry 0).state = .opened ∧
    (rolling.entry 0).holder = some 0 ∧ rolling.session 0 = some party ∧ party.mode = .single ∧
    party.lane = 0 ∧ party.state ≠ .closing ∧ (rolling.tracker 0).play ≠ .awaitingEntry ∧
    (∀ j y, j ≠ 0 → rolling.session j = some y → y.state ≠ .closing ∧ y.state ≠ .moving) ∧
    rolling.quiet 0 = true ∧ party.terms.billing = .game ∧
    (withPlay .settling rolling).quiet 0 = false :=
  ⟨by decide +kernel, free_rolling, by decide +kernel, by decide +kernel, by decide +kernel,
    by decide +kernel, rfl, rfl, by decide, by decide +kernel, fun j y => alone_rolling j y,
    by decide +kernel, rfl, by decide +kernel⟩

theorem witness_MoveSessionMovesOrWaits :
    rolling.TrunkFree ∧ rolling.sessionInUse? 1 = some (0, party) ∧ party.mode = .single ∧
    party.state = .opened ∧ party.expiryDue = false ∧ rolling.mappedLane? 32 = some 31 ∧
    (31 : LaneId) ≠ party.lane ∧ (rolling.entry 31).state = .closed ∧
    rolling.isMoveTarget 31 = false ∧ openableMachine (rolling.supervisor 31).machine = true ∧
    (rolling.entry party.lane).holder = some 0 ∧ rolling.quiet party.lane = true ∧
    (rolling.meter party.lane).openLine = none ∧ rolling.charges.lines.length < 256 ∧
    (withPlay .settling rolling).quiet party.lane = false :=
  ⟨free_rolling, by decide +kernel, rfl, rfl, rfl, by decide +kernel, by decide, by decide +kernel,
    by decide +kernel, by decide +kernel, by decide +kernel, by decide +kernel, by decide +kernel,
    by decide +kernel, by decide +kernel⟩

/-- The party under a limit. -/
def limited (l : Limit) (st : SessionState) : Session :=
  { party with state := st, terms := { Initial.terms with limit := l } }

/-- Limits of 3 games and 1,439 minutes, raised by one, and values at either side of the ranges. -/
theorem witness_ExtendLimitRaisesLimit :
    ((hosting (limited (.games 3) .exhausted)).TrunkFree ∧
      (hosting (limited (.games 3) .exhausted)).sessionInUse? 1 =
        some (0, limited (.games 3) .exhausted) ∧
      (limited (.games 3) .exhausted).state ≠ .closing ∧ 3 ≤ 3 ∧ 255 < 256 ∧ 3 < 4 ∧ 4 ≤ 255 ∧
      (limited (.games 3) .exhausted).terms.warning < 4 - party.billing.gamesCharged) ∧
    ((hosting (limited (.minutes 1439) .opened)).sessionInUse? 1 =
        some (0, limited (.minutes 1439) .opened) ∧
      1439 < 1440 ∧ (limited (.minutes 1439) .opened).state ≠ .exhausted ∧
      (limited (.minutes 1439) .opened).billing.state ≠ .stopped) :=
  ⟨⟨⟨rfl, rfl⟩, by decide +kernel, by decide, by decide, by decide, by decide, by decide, by decide⟩,
    by decide +kernel, by decide, by decide, by decide⟩

/-- The party under a limit of 5 minutes, all charged, the record STOPPED or RUNNING. -/
def timeUp (st : SessionState) (b : BillingState) (wait : Nat) : Session :=
  { limited (.minutes 5) st with
    billing := { newBilling .time false wait with state := b, chargedMinutes := 5 } }

/-- A STOPPED record under a MINUTES limit; and the limit tests: none, reached (with and without a wait,
before and within a frame, and MOVING with a park to come), warned, and neither. -/
theorem witness_ExtendLimitRaisesLimit_tests :
    ((hosting (timeUp .expired .stopped 5)).sessionInUse? 1 = some (0, timeUp .expired .stopped 5) ∧
      (timeUp .expired .stopped 5).state ≠ .closing ∧ 5 < 6) ∧
    party.terms.limit = .none ∧
    (limited (.games 3) .opened).billing.gamesCharged < 3 ∧
    (let x := { limited (.games 3) .opened with
        billing := { newBilling .game false 5 with gamesCharged := 3 } }
     x.terms.limit = .games 3 ∧ 3 ≤ x.billing.gamesCharged) ∧
    (∀ wait, wait = 0 ∨ wait = 5 →
      let s := hosting (timeUp .opened .running wait)
      s.session 0 = some (timeUp .opened .running wait) ∧
      5 ≤ (timeUp .opened .running wait).billing.chargedMinutes ∧
      (timeUp .opened .running wait).billing.expiryWait = wait ∧ (s.entry 0).movePending = none ∧
      frameNotBegun (timeUp .opened .running wait) = true ∧
      s.sessionInFlight 0 (timeUp .opened .running wait) = false) ∧
    (∀ wait, wait = 0 ∨ wait = 5 →
      let s := (hosting (timeUp .moving .running wait)).modSupervisor 0 fun v =>
        { v with followOn := .park }
      s.session 0 = some (timeUp .moving .running wait) ∧
      5 ≤ (timeUp .moving .running wait).billing.chargedMinutes ∧
      (s.supervisor 0).followOn = .park ∧ frameNotBegun (timeUp .moving .running wait) = true ∧
      s.sessionInFlight 0 (timeUp .moving .running wait) = false) ∧
    frameNotBegun { timeUp .opened .running 5 with
      bowlers := [halfPlayer, player 2]
      nextBall := ⟨1, 1, 2, .leave, pinSetOf [1, 2, 3], some 3⟩ } = false ∧
    (let x := { limited (.games 4) .opened with
        terms := { Initial.terms with limit := .games 4, warning := 1 }
        billing := { newBilling .game false 5 with gamesCharged := 3 } }
     x.billing.gamesCharged < 4 ∧ x.billing.warned = false ∧
      4 - x.billing.gamesCharged ≤ x.terms.warning) ∧
    (limited (.games 3) .opened).terms.warning < 3 - party.billing.gamesCharged := by
  refine ⟨⟨by decide +kernel, by decide, by decide⟩, rfl, by decide, by decide, fun wait h => ?_,
    fun wait h => ?_, by decide, by decide, by decide⟩ <;>
  rcases h with rfl | rfl <;> decide +kernel

/-! ## Witnesses: machines -/

/-- A machine OFF below STOP; READY; HALTED with a sequence; HALTED at rest under STOP. -/
theorem witness_StartAndReRackBeginSequences :
    house.TrunkFree ∧ house.device = .run ∧ house.mappedLane? 1 = some 0 ∧
    ((house.supervisor 0).machine = .off ∧ house.belowStop 0 = true ∧
      (house.pinsetter 0).slot = none) ∧
    (let s := withMachine .halted rolling
     (s.supervisor 0).machine = .halted ∧ (s.supervisor 0).record = none ∧
      (s.supervisor 0).awaiting = none ∧ (s.pinsetter 0).owed = none ∧ s.belowStop 0 = true ∧
      (s.pinsetter 0).slot = none ∧ (s.entry 0).holder.isSome = true) ∧
    ((withMachine .halted house).modSupervisor 0 fun v =>
      { v with record := some startRecord }).isMoveTarget 0 = false ∧
    (house.setLaneFaults 0 [⟨.stepOverdue, .stop, true, true, false, 1, 0, 0⟩]).belowStop 0 =
      false ∧
    ((rolling.supervisor 0).machine = .ready ∧ (rolling.supervisor 0).owed = none ∧
      (rolling.tracker 0).play = .notArmed ∧ rolling.facesLeave 0 = false ∧
      rolling.belowHold 0 = true ∧ (rolling.pinsetter 0).slot = none) ∧
    (rolling.setLaneFaults 0 [⟨.readingOverdue, .hold, true, true, false, 1, 0, 0⟩]).belowHold 0 =
      false :=
  ⟨free_house, rfl, by decide +kernel, by decide +kernel, by decide +kernel, by decide +kernel,
    by decide +kernel, by decide +kernel, by decide +kernel⟩

/-- The console of lane 1 polled, its holder a session that may re-rack or not. -/
def keying (allowed : Bool) (p : PlayState) (faced : Faced) : State :=
  polled (consoleAddr .left) (withPlay p (withMachine .ready (hosting { party with
    terms := { Initial.terms with reRackAllowed := allowed }
    nextBall := ⟨1, 1, 1, faced, fullRack, none⟩ })))

/-- A keystroke where RE_RACK begins, and for each reason why it is refused; and on an empty lane. -/
theorem witness_StartAndReRackBeginSequences_keys :
    (∀ c ∈ [(true, PlayState.armed, Faced.full), (false, .armed, .full), (true, .notArmed, .full),
        (true, .armed, .leave)],
      let s := keying c.1 c.2.1 c.2.2
      (s.poller 0).poll = some ⟨consoleAddr .left, none, 6, false⟩ ∧
      (s.node 0 (consoleAddr .left)).state = .alive ∧ (s.entry 0).enabled = true ∧
      (s.entry 0).hasConsole = true ∧
      (∀ i, (s.session i).all (fun x => decide (x.state ≠ .closing ∧ x.state ≠ .moving)) = true) ∧
      (s.entry 0).holder = some 0 ∧
      (s.session 0).map (fun x => (x.terms.reRackAllowed, x.nextBall.faced)) = some (c.1, c.2.2) ∧
      (s.tracker 0).play = c.2.1 ∧ (s.pinsetter 0).slot = none) ∧
    ((polled (consoleAddr .left) house).entry 0).holder = none := by decide +kernel

/-- A READY machine with the slot empty; one whose START is in the slot; a HALTED one whose HALT is. -/
theorem witness_StopMachineSupersedes :
    rolling.NoneLeaving ∧
    ((rolling.supervisor 0).machine = .ready ∧ (rolling.pinsetter 0).state ≠ .lost ∧
      (rolling.pinsetter 0).owed = none ∧ (rolling.pinsetter 0).slot = none) ∧
    ((withSlot (.cycle .start 1) rolling).pinsetter 0).slot = some ⟨.cycle .start 1, 0, none⟩ ∧
    (let s := (withSlot (.halt 1) (withMachine .halted rolling)).modSupervisor 0 fun v =>
        { v with record := some ⟨.halt, 1, .step .halt [], false, none, none⟩ }
     s.NoneLeaving ∧ (s.supervisor 0).machine = .halted ∧
      (s.pinsetter 0).slot = some ⟨.halt 1, 0, none⟩ ∧ (s.supervisor 0).record.isSome = true) ∧
    (house.supervisor 0).machine = .off :=
  ⟨rolling_stays, by decide +kernel, by decide +kernel,
    ⟨noneLeaving_of (by decide +kernel), by decide +kernel, by decide +kernel, by decide +kernel⟩,
    by decide +kernel⟩

/-- A CYCLING machine whose sequence holds a first ball back, the tracker RESOLVED. -/
def cycling (x : Session) : State :=
  (withPlay .resolved (withMachine .cycling (hosting x))).modSupervisor 0 fun v =>
    { v with cycle := 1, record := some ⟨.firstCycle, 1, .step .sweep [.home], true, none, none⟩ }

/-- The session in frame 2 with a result held. -/
def holding : Session :=
  { partyTwo with held := some ⟨pinSetOf [1, 10], false, .entered, 1⟩ }

theorem plain_holding : PlainFirstBall holding ⟨pinSetOf [1, 10], false, .entered, 1⟩ 1 2 (player 1) ∧
    ¬ ChargeDue holding 2 (player 1) :=
  ⟨⟨rfl, by decide, rfl, by decide, by decide, rfl, ⟨emptyFrame, by decide, rfl⟩, rfl⟩,
    fun h => absurd h.2.1 (by decide)⟩

/-- A machine at rest, a sequence that holds nothing, and one that holds a result. -/
theorem witness_StopMachineSupersedes_held :
    (rolling.supervisor 0).record = none ∧ (cycling partyTwo).NothingHeld 0 ∧
    (let s := cycling holding
     s.TrunkFree ∧ s.device = .run ∧ s.mappedLane? 1 = some 0 ∧ s.NoneLeaving ∧
      (s.supervisor 0).machine = .cycling ∧ (s.pinsetter 0).state ≠ .lost ∧
      (s.pinsetter 0).owed = none ∧ (s.pinsetter 0).slot = none ∧
      (s.supervisor 0).record.isSome = true ∧ (s.entry 0).holder = some 0 ∧
      s.session 0 = some holding ∧ holding.held = some ⟨pinSetOf [1, 10], false, .entered, 1⟩ ∧
      (s.tracker 0).play = .resolved) :=
  ⟨by decide +kernel,
    fun i x _ h => forall_session (s := cycling partyTwo) (P := fun _ x => x.held = none)
      (by decide +kernel) i x h,
    ⟨rfl, rfl⟩, rfl, by decide +kernel, noneLeaving_of (by decide +kernel), by decide +kernel,
    by decide +kernel, by decide +kernel, by decide +kernel, by decide +kernel, by decide +kernel,
    by decide +kernel, rfl, by decide +kernel⟩

/-- Lane 1 in manual mode. -/
def manual : State := withMachine .manual (house.modEntry 0 fun e => { e with state := .manual })

theorem witness_ManualModeRequests :
    (house.TrunkFree ∧ house.mappedLane? 1 = some 0 ∧ (house.entry 0).state = .closed ∧
      house.isMoveTarget 0 = false ∧ (house.supervisor 0).machine = .off ∧
      (house.supervisor 0).awaiting = none) ∧
    (rolling.entry 0).state ≠ .closed ∧ (rolling.entry 0).state ≠ .manual ∧
    (manual.TrunkFree ∧ manual.mappedLane? 1 = some 0 ∧ (manual.entry 0).state = .manual ∧
      (manual.pinsetter 0).state = .alive ∧ (manual.pinsetter 0).slot = none) ∧
    ((withSlot (.manual [1]) manual).pinsetter 0).slot.isSome = true ∧
    ([1#8].length = 1 ∧ (List.replicate 32 1#8).length ≤ 32) :=
  ⟨⟨free_house, by decide +kernel, by decide +kernel, by decide +kernel, by decide +kernel,
      by decide +kernel⟩, by decide +kernel, by decide +kernel,
    ⟨⟨rfl, rfl⟩, by decide +kernel, by decide +kernel, by decide +kernel, by decide +kernel⟩,
    by decide +kernel, by decide⟩

/-! ## Witnesses: balls -/

/-- Lane 1 awaits the entry of a ball that was no foul. -/
def awaiting : State :=
  (withMachine .ready (hosting partyTwo)).modTracker 0 fun k =>
    { k with play := .awaitingEntry, pitCount := 1, ball := some ⟨9, 9, false, 8⟩ }

/-- The ball to be scored leaves pins 7 and 10; and a sequence in progress, which holds the result. -/
theorem witness_EnterBallHoldsOrScores :
    awaiting.TrunkFree ∧ awaiting.device = .run ∧ awaiting.mappedLane? 1 = some 0 ∧
    awaiting.sessionInUse? 1 = some (0, partyTwo) ∧ (awaiting.entry 0).holder = some 0 ∧
    partyTwo.state ≠ .closing ∧ (awaiting.tracker 0).play = .awaitingEntry ∧
    (∀ q ∈ [1, 10], 1 ≤ q ∧ q ≤ 10) ∧ awaiting.NoneLeaving ∧ (awaiting.supervisor 0).owed = none ∧
    (awaiting.supervisor 0).record = none ∧
    ((awaiting.tracker 0).ball.map (·.foul)).getD false = false ∧
    PlainFirstBall partyTwo ⟨pinSetOf [1, 10] &&& partyTwo.nextBall.before, false, .entered, 1⟩ 1 2
      (player 1) ∧
    ¬ ChargeDue partyTwo 2 (player 1) ∧ partyTwo.state ≠ .exhausted ∧
    (awaiting.supervisor 0).deferredNeed = none ∧ (awaiting.pinsetter 0).slot = none ∧
    (awaiting.supervisor 0).machine = .ready ∧ awaiting.faultsOn 0 = [] ∧
    ((awaiting.modSupervisor 0 fun v => { v with record := some startRecord }).supervisor
      0).record.isSome = true :=
  ⟨⟨rfl, rfl⟩, rfl, by decide +kernel, by decide +kernel, by decide +kernel, by decide,
    by decide +kernel, by decide, noneLeaving_of (by decide +kernel), by decide +kernel,
    by decide +kernel, by decide +kernel,
    ⟨rfl, by decide, rfl, by decide, by decide, rfl, ⟨emptyFrame, by decide, rfl⟩, rfl⟩,
    fun h => absurd h.2.1 (by decide), by decide, by decide +kernel, by decide +kernel,
    by decide +kernel, by decide +kernel, by decide +kernel⟩

/-- The first ball of frame 1, which makes a game charge. -/
theorem witness_EnterBallHoldsOrScores_charge :
    (let s := (withMachine .ready (hosting party)).modTracker 0 fun k =>
        { k with play := .awaitingEntry, pitCount := 1, ball := some ⟨9, 9, false, 8⟩ }
     s.TrunkFree ∧ s.sessionInUse? 1 = some (0, party) ∧ (s.entry 0).holder = some 0 ∧
      (s.tracker 0).play = .awaitingEntry ∧ s.NoneLeaving ∧ (s.supervisor 0).owed = none ∧
      (s.supervisor 0).record = none ∧ (s.supervisor 0).deferredNeed = none ∧
      (s.pinsetter 0).slot = none ∧ s.tariff.pending = none ∧ s.charges.lines.length < 255) ∧
    PlainFirstBall party ⟨pinSetOf [1, 10] &&& party.nextBall.before, false, .entered, 1⟩ 1 1
      (player 1) ∧
    ChargeDue party 1 (player 1) ∧ party.terms.limit = .none :=
  ⟨⟨⟨rfl, rfl⟩, by decide +kernel, by decide +kernel, by decide +kernel,
      noneLeaving_of (by decide +kernel), by decide +kernel⟩,
    ⟨rfl, by decide, rfl, by decide, by decide, rfl, ⟨emptyFrame, by decide, rfl⟩, rfl⟩,
    ⟨rfl, rfl, rfl⟩, rfl⟩

/-- The first bowler's frame 1: seven, then two. -/
def sevenTwo : Frame :=
  ⟨.scored, [⟨7, .full, fullRack, pinSetOf [1, 2, 3], false, false, .readGood, false, 1⟩,
    ⟨2, .leave, pinSetOf [1, 2, 3], pinSetOf [1], false, false, .readGood, false, 2⟩], some 9, some 9⟩

/-- That bowler, and the session in frame 2. -/
def sevenPlayer : Bowler :=
  { player 1 with game := { (player 1).game with frames := sevenTwo :: List.replicate 9 emptyFrame } }

def partySeven : Session := { partyTwo with bowlers := [sevenPlayer, player 2] }

/-- The balls of that frame with the second corrected. -/
def seconds (pinfall : Nat) : List Ball :=
  sevenTwo.balls.set 1 { (sevenTwo.balls[1]) with pinfall := pinfall, corrected := true }

/-- Two balls on one rack, the second on the leave of the first. -/
theorem faces_two {bs : List Ball} {x y : Ball} (h : bs = [x, y]) (hx : x.foul = false)
    (hp : x.pinfall ≠ 10) (hy : y.faced = .leave) (j : Nat) (b : Ball) (hj : 1 ≤ j)
    (hb : bs[j]? = some b) : ¬ CompleteFrame 1 (bs.take j) ∧
      ∃ before, FacesNext 1 (bs.take j) b.faced before := by
  subst h
  match j, hj, hb with
  | 1, _, hb =>
    cases hb
    refine ⟨?_, x.after, ?_⟩
    · simp [CompleteFrame, hp]
    · simp [FacesNext, hx, hy]
  | n + 2, _, hb => simp at hb

theorem seconds_fit : CorrectionFits partySeven 1 1 sevenTwo (seconds 3) where
  faces := faces_two (bs := seconds 3) rfl rfl (by decide) rfl
  ends := ⟨fun _ => .inl rfl, fun _ => by simp [CompleteFrame, seconds, sevenTwo]⟩
  next := fun h => absurd (by simp [CompleteFrame, seconds, sevenTwo]) h
  leaves := fun i j hij hj hi _ hl => by
    have : i = 0 := by
      match i, j, hij, hj, hi with
      | 0, _, _, _, _ => rfl
      | 1, _, _, _, hi => exact absurd hi (by decide)
      | n + 2, j, hij, hj, _ => simp [seconds, sevenTwo] at hj; omega
    subst this
    match j, hj with
    | 0, _ => decide
    | 1, _ => decide
    | n + 2, hj => simp [seconds, sevenTwo] at hj
  fouls := by decide

/-- Seven and four are more than ten. -/
theorem seconds_unfit : ¬ CorrectionFits partySeven 1 1 sevenTwo (seconds 4) := fun h =>
  absurd (h.leaves 0 1 (by decide) (by decide) (.inl rfl)
    (fun m h0 h1 => by obtain rfl : m = 1 := by omega
                       rfl) rfl) (by decide)

/-- The second ball corrected to 3 holds together with the first; to 4 it does not; nor does 11. -/
theorem witness_CorrectBallReplacesPinfall :
    (hosting partySeven).TrunkFree ∧ (hosting partySeven).device = .run ∧
    (hosting partySeven).sessionInUse? 1 = some (0, partySeven) ∧
    bowlerAt partySeven 1 = some sevenPlayer ∧ nth1 sevenPlayer.game.frames 1 = some sevenTwo ∧
    nth1 sevenTwo.balls 2 =
      some ⟨2, .leave, pinSetOf [1, 2, 3], pinSetOf [1], false, false, .readGood, false, 2⟩ ∧
    sevenPlayer.game.number = 1 ∧ sevenPlayer.game.status ≠ .withdrawn ∧
    CorrectionFits partySeven 1 1 sevenTwo (seconds 3) ∧
    ¬ CorrectionFits partySeven 1 1 sevenTwo (seconds 4) ∧ 10 < 11 ∧
    ¬ (partySeven.nextBall.slot = 1 ∧ partySeven.nextBall.frame = 1 ∧
      partySeven.nextBall.faced = .leave) ∧ sevenTwo.status = .scored :=
  ⟨⟨rfl, rfl⟩, rfl, by decide +kernel, by decide, by decide, by decide, rfl, by decide,
    seconds_fit, seconds_unfit, by decide, by decide, rfl⟩

/-- A ball on a leave of frame 1, whose first ball is corrected to 8. -/
def facingLeave : Session :=
  { party with
    bowlers := [halfPlayer, player 2], nextBall := ⟨1, 1, 2, .leave, pinSetOf [1, 2, 3], some 3⟩ }

theorem witness_CorrectBallReplacesPinfall_leave :
    (let ball := halfFrame.balls[0]
     CorrectionFits facingLeave 1 1 halfFrame [{ ball with pinfall := 8, corrected := true }]) ∧
    facingLeave.nextBall.slot = 1 ∧ facingLeave.nextBall.frame = 1 ∧
    facingLeave.nextBall.faced = .leave := by
  refine ⟨⟨?_, ?_, ?_, ?_, by decide⟩, rfl, rfl, rfl⟩
  · intro j b hj hb
    match j, hj with
    | n + 1, _ => simp at hb
  · simp [CompleteFrame, halfFrame]
  · intro _ _ _
    exact ⟨pinSetOf [1, 2, 3], by simp [FacesNext, facingLeave, halfFrame]⟩
  · intro i j hij hj _ _ hl
    obtain rfl : j = 0 := by simpa using hj
    simp [halfFrame] at hl

theorem witness_ResyncReaderPlacesSetCount :
    rolling.TrunkFree ∧ rolling.mappedLane? 1 = some 0 ∧ (rolling.reader 0).state = .alive ∧
    (rolling.tracker 0).play ≠ .settling ∧ (rolling.tracker 0).play ≠ .reading ∧
    (rolling.tracker 0).resync ≠ .sent ∧ (rolling.reader 0).slot = none ∧
    ((withPlay .settling rolling).tracker 0).play = .settling ∧
    ((rolling.modNode 0 (readerAddr .left) fun n =>
      { n with slot := some ⟨.read 5, 0, none⟩ }).reader 0).slot = some ⟨.read 5, 0, none⟩ :=
  ⟨free_rolling, by decide +kernel, by decide +kernel, by decide +kernel, by decide +kernel,
    by decide +kernel, by decide +kernel, by decide +kernel, by decide +kernel⟩

/-- A SET_COUNT in the slot of the reader, and its poll; with none waiting, and with one. -/
def counting (waiting : Bool) : State :=
  ((rolling.modNode 0 (readerAddr .left) fun n => { n with slot := some ⟨.setCount 5, 3, some 1⟩ }
    ).modTracker 0 fun k => { k with countWaiting := waiting }).modPoller 0 fun q =>
      { q with poll := some ⟨readerAddr .left, some (.setCount 5, 3), 6, false⟩ }

theorem witness_ResyncReaderPlacesSetCount_kept : ∀ w,
    (counting w).TrunkFree ∧ (counting w).device = .run ∧ (counting w).mappedLane? 1 = some 0 ∧
    ((counting w).reader 0).state = .alive ∧ ((counting w).tracker 0).play = .notArmed ∧
    ((counting w).tracker 0).resync ≠ .sent ∧
    ((counting w).reader 0).slot = some ⟨.setCount 5, 3, some 1⟩ ∧ (counting w).NoneLeaving ∧
    ((counting w).poller 0).poll = some ⟨readerAddr .left, some (.setCount 5, 3), 6, false⟩ ∧
    ((counting w).tracker 0).readWaiting = false ∧ ((counting w).tracker 0).countWaiting = w := by
  intro w
  refine ⟨⟨rfl, rfl⟩, rfl, ?_, ?_, ?_, ?_, ?_, noneLeaving_of ?_, ?_, ?_, ?_⟩ <;> cases w <;>
    decide +kernel

/-! ## Witnesses: faults -/

/-- A class that the desk clears, its condition ended, on a CLOSED lane. -/
def jammed (e : FaultEntry) (s : State) : State := s.setLaneFaults 0 [e]

/-- Absent; kept while present; removed on a CLOSED lane; removed with a restart; PARK_FAILED. -/
theorem witness_ClearFaultRemovesEntry :
    (house.TrunkFree ∧ house.mappedLane? 1 = some 0 ∧ faultClassOf? 1 = some .machineJam ∧
      house.NoneLeaving ∧ ∀ f ∈ house.faultsOn 0, f.cls ≠ .machineJam) ∧
    (let s := jammed ⟨.machineNodeLost, .hold, true, true, false, 1, 0, 0⟩ house
     selfClearing .machineNodeLost = true ∧
      ∃ f : FaultEntry, (s.lane 0).faults.filter (fun e => e.cls == .machineNodeLost) = [f] ∧
        f.latched = false) ∧
    (let s := jammed ⟨.machineJam, .park, true, false, false, 1, 0, 0⟩ house
     s.NoneLeaving ∧ (∀ e ∈ (s.pair 0).faults, e.cls ≠ .machineJam) ∧
      selfClearing .machineJam = false ∧ (s.entry 0).state = .closed ∧ (s.entry 0).holder = none ∧
      ∃ f : FaultEntry, (s.lane 0).faults.filter (fun e => e.cls == .machineJam) = [f] ∧
        f.latched = false ∧ f.present = false) ∧
    (let s := jammed ⟨.machineJam, .stop, true, false, false, 1, 0, 0⟩
        (withMachine .halted (hosting party))
     s.TrunkFree ∧ s.NoneLeaving ∧ s.mappedLane? 1 = some 0 ∧
      (∀ e ∈ (s.pair 0).faults, e.cls ≠ .machineJam) ∧ (s.entry 0).state = .opened ∧
      (s.entry 0).holder = some 0 ∧ s.session 0 = some party ∧ party.state = .opened ∧
      (s.supervisor 0).machine = .halted ∧ (s.supervisor 0).record = none ∧
      (s.supervisor 0).awaiting = none ∧ (s.supervisor 0).owed = none ∧
      (s.pinsetter 0).owed = none ∧ (s.pinsetter 0).slot = none ∧
      ∀ e ∈ s.faultsOn 0, e.cls ≠ .machineJam → severity e.action < severity .stop) ∧
    (let s := jammed ⟨.parkFailed, .outOfService, true, true, false, 1, 0, 0⟩
        (withMachine .outOfService house)
     s.TrunkFree ∧ s.NoneLeaving ∧ faultClassOf? 15 = some .parkFailed ∧
      (s.entry 0).state = .closed ∧ (s.entry 0).holder = none ∧
      (s.supervisor 0).machine = .outOfService ∧
      ∃ f : FaultEntry, (s.lane 0).faults.filter (fun e => e.cls == .parkFailed) = [f]) :=
  ⟨⟨free_house, by decide +kernel, by decide, nobody_leaves_house, by decide +kernel⟩,
    ⟨by decide, _, rfl, rfl⟩,
    ⟨noneLeaving_of (by decide +kernel), by decide +kernel, by decide, by decide +kernel,
      by decide +kernel, _, rfl, rfl, rfl⟩,
    ⟨⟨rfl, rfl⟩, noneLeaving_of (by decide +kernel), by decide +kernel, by decide +kernel,
      by decide +kernel, by decide +kernel, by decide +kernel, rfl, by decide +kernel,
      by decide +kernel, by decide +kernel, by decide +kernel, by decide +kernel, by decide +kernel,
      by decide +kernel⟩,
    ⟨⟨rfl, rfl⟩, noneLeaving_of (by decide +kernel), by decide, by decide +kernel, by decide +kernel,
      by decide +kernel, _, rfl⟩⟩

/-! ## Witnesses: pair links -/

/-- Lane 1's pinsetter polled, with a step of its START expected. -/
def stepping : State :=
  (polled (pinsetterAddr .left) house).modSupervisor 0 fun v =>
    { v with
      machine := .starting, cycle := 1
      record := some { startRecord with acknowledged := true, watch := some 15000 } }

/-- A class at NONE or at HOLD, new on the lane; a step before its watch runs out. -/
theorem witness_AnswerEndsPollAndIsTaken :
    (let s := withAction .machineJam .hold (polled (pinsetterAddr .left) house)
     s.NoneLeaving ∧ (s.entry 0).enabled = true ∧
      (s.poller 0).poll = some ⟨pinsetterAddr .left, none, 6, false⟩ ∧
      (s.node 0 (pinsetterAddr .left)).state = .alive ∧
      (s.node 0 (pinsetterAddr .left)).owed = none ∧ (s.supervisor 0).machine ≠ .manual ∧
      ProfileOk (s.profileOf 0) ∧ (s.supervisor 0).record.bind (·.watch) = none ∧
      (∀ f ∈ (s.lane 0).faults, f.cls ≠ .machineJam) ∧
      s.faultTable[faultIndex .machineJam].action = .hold) ∧
    (stepping.NoneLeaving ∧ (stepping.entry 0).enabled = true ∧
      (stepping.poller 0).poll = some ⟨pinsetterAddr .left, none, 6, false⟩ ∧
      (stepping.supervisor 0).machine ≠ .manual ∧
      (stepping.supervisor 0).record =
        some ⟨.start, 1, .step .powerUp [.home, .newRack], true, some 15000, none⟩ ∧
      (stepping.supervisor 0).superseded ≠ some 1 ∧ (stepping.supervisor 0).awaiting = none ∧
      ∀ e, some 15000 = some e → stepping.deviceTime < e) :=
  ⟨⟨noneLeaving_of (by decide +kernel), by decide +kernel, by decide +kernel, by decide +kernel,
      by decide +kernel, by decide +kernel, settings_house.profiles 0, by decide +kernel,
      by decide +kernel, by decide⟩,
    noneLeaving_of (by decide +kernel), by decide +kernel, by decide +kernel, by decide +kernel,
    by decide +kernel, by decide +kernel, by decide +kernel,
    fun _ h => by cases h; decide +kernel⟩

/-- A JAM under an action of STOP or PARK, the lane below STOP, with a CYCLE in the slot or none. -/
theorem witness_AnswerEndsPollAndIsTaken_jam :
    ∀ a ∈ [Action.stop, .park], ∀ m ∈ [MachineState.starting, .ready, .cycling],
      ∀ s ∈ [withAction .machineJam a (withMachine m (polled (pinsetterAddr .left) house)),
        withSlot (.cycle .fullCycle 1)
          (withAction .machineJam a (withMachine m (polled (pinsetterAddr .left) house)))],
      (∀ i, (s.session i).all (fun y => decide (y.state ≠ .closing ∧ y.state ≠ .moving)) = true) ∧
      (s.entry 0).enabled = true ∧
      (s.poller 0).poll = some ⟨pinsetterAddr .left, none, 6, false⟩ ∧
      (s.node 0 (pinsetterAddr .left)).state = .alive ∧
      (s.node 0 (pinsetterAddr .left)).owed = none ∧ (s.supervisor 0).machine = m ∧
      (s.supervisor 0).record.bind (·.watch) = none ∧
      (∀ f ∈ (s.lane 0).faults, f.cls ≠ .machineJam) ∧
      s.faultTable[faultIndex .machineJam].action = a ∧ s.belowStop 0 = true ∧
      (s.supervisor 0).awaiting = none ∧
      ((s.node 0 (pinsetterAddr .left)).slot = none ∨
        (s.node 0 (pinsetterAddr .left)).slot = some ⟨.cycle .fullCycle 1, 0, none⟩) := by
  decide +kernel

/-- The same with a sequence that holds nothing, and with one that holds a plain first ball (whose other
hypotheses `plain_holding` meets). -/
theorem witness_AnswerEndsPollAndIsTaken_held :
    (∀ a ∈ [Action.stop, .park],
      let s := withAction .machineJam a (polled (pinsetterAddr .left) (cycling holding))
      (∀ i, (s.session i).all (fun y => decide (y.state ≠ .closing ∧ y.state ≠ .moving)) = true) ∧
      (s.entry 0).enabled = true ∧
      (s.poller 0).poll = some ⟨pinsetterAddr .left, none, 6, false⟩ ∧
      (s.node 0 (pinsetterAddr .left)).state = .alive ∧
      (s.node 0 (pinsetterAddr .left)).owed = none ∧ (s.supervisor 0).machine = .cycling ∧
      (s.supervisor 0).record.bind (·.watch) = none ∧ (s.supervisor 0).record.isSome = true ∧
      (∀ f ∈ (s.lane 0).faults, f.cls ≠ .machineJam) ∧
      s.faultTable[faultIndex .machineJam].action = a ∧ s.belowStop 0 = true ∧
      (s.supervisor 0).awaiting = none ∧ (s.node 0 (pinsetterAddr .left)).slot = none ∧
      (s.supervisor 0).deferredNeed = none ∧ (s.entry 0).holder = some 0 ∧
      s.session 0 = some holding ∧ holding.state ≠ .exhausted ∧ (s.tracker 0).play = .resolved) ∧
    ((polled (pinsetterAddr .left) house).supervisor 0).record = none ∧
    ((cycling partyTwo).supervisor 0).deferredNeed = none ∧ (cycling partyTwo).NothingHeld 0 :=
  ⟨by decide +kernel, by decide +kernel, by decide +kernel, witness_StopMachineSupersedes_held.2.1⟩

/-- Lane 1 with a START whose CYCLE is in the slot, its poll waiting. -/
def carrying (tries : Option Nat) : State :=
  ((stepping.modSupervisor 0 fun v =>
      { v with record := some startRecord }).modNode 0 (pinsetterAddr .left) fun n =>
    { n with slot := some ⟨.cycle .start 1, 3, tries⟩ }).modPoller 0 fun q =>
      { q with poll := some ⟨pinsetterAddr .left, some (.cycle .start 1, 3), 6, false⟩ }

/-- The command carried, below three tries; and a sequence whose last step is done. -/
theorem witness_AnswerEndsPollAndIsTaken_commands :
    (let s := carrying (some 1)
     s.NoneLeaving ∧ (s.entry 0).enabled = true ∧
      (s.poller 0).poll = some ⟨pinsetterAddr .left, some (.cycle .start 1, 3), 6, false⟩ ∧
      (s.node 0 (pinsetterAddr .left)).state = .alive ∧
      (s.node 0 (pinsetterAddr .left)).owed = none ∧ (s.supervisor 0).machine ≠ .manual ∧
      ProfileOk (s.profileOf 0) ∧
      (s.node 0 (pinsetterAddr .left)).slot = some ⟨.cycle .start 1, 3, some 1⟩ ∧
      (s.supervisor 0).record =
        some ⟨.start, 1, .step .powerUp [.home, .newRack], false, none, none⟩ ∧
      (s.supervisor 0).awaiting = none) ∧
    (let s := stepping.modSupervisor 0 fun v =>
        { v with record := some ⟨.start, 1, .sequenceDone, true, some 15000, none⟩ }
     (s.supervisor 0).superseded ≠ some 1 ∧ (s.supervisor 0).awaiting = none ∧
      (s.supervisor 0).owed = none ∧ (s.supervisor 0).followOn = .none ∧
      (s.supervisor 0).deferredNeed = none ∧ (s.entry 0).holder = none) :=
  ⟨⟨noneLeaving_of (by decide +kernel), by decide +kernel, by decide +kernel, by decide +kernel,
      by decide +kernel, by decide +kernel, settings_house.profiles 0, by decide +kernel,
      by decide +kernel, by decide +kernel⟩, by decide +kernel⟩

/-- The reader of lane 1 polled, a ball in play under a stamp of 5. -/
def readingBall (p : PlayState) : State :=
  polled (readerAddr .left) ((withPlay p (withMachine .ready (hosting partyTwo))).modTracker 0
    fun k => { k with pitCount := 5, ball := some ⟨9, 9, false, 1⟩ })

/-- A reader polled in READING and outside it, a sequence in progress or not; the stamps 5, 4 and 9. -/
theorem witness_AnswerEndsPollAndIsTaken_readings :
    (∀ p ∈ [PlayState.reading, .armed],
      let s := readingBall p
      (s.poller 0).poll = some ⟨readerAddr .left, none, 6, false⟩ ∧
      (s.node 0 (readerAddr .left)).state = .alive ∧ (s.tracker 0).play = p ∧
      (s.entry 0).holder = some 0 ∧ s.session 0 = some partyTwo ∧
      (s.supervisor 0).record = none ∧ (s.supervisor 0).deferredNeed = none ∧
      (s.supervisor 0).owed = none ∧ (s.pinsetter 0).slot = none ∧
      (let expected : Stamp := BitVec.ofNat 6 ((s.tracker 0).pitCount.toNat % 64)
       expected = 5 ∧ expected - 1 = 4 ∧ (9 : Stamp) ≠ expected ∧ (9 : Stamp) ≠ expected - 1)) ∧
    (readingBall .reading).NoneLeaving ∧
    (((readingBall .reading).modSupervisor 0 fun v =>
      { v with record := some startRecord }).supervisor 0).record.isSome = true ∧
    PlainFirstBall partyTwo
      ⟨pinSetOf [1, 10] &&& partyTwo.nextBall.before, false, .readGood, 5⟩ 1 2 (player 1) ∧
    ¬ ChargeDue partyTwo 2 (player 1) :=
  ⟨by decide +kernel, noneLeaving_of (by decide +kernel), by decide +kernel,
    ⟨rfl, by decide, rfl, by decide, by decide, rfl, ⟨emptyFrame, by decide, rfl⟩, rfl⟩,
    fun h => absurd h.2.1 (by decide)⟩

/-- The slot after the first; and a new round after the last. -/
theorem witness_NextPollFollowsOrder :
    ((house.poller 0).current + 1 < (house.poller 0).order.length ∧
      (house.poller 0).order[1]? = some 1) ∧
    (let s := house.modPoller 0 fun q => { q with current := 7, pendingOrder := some [6] }
     ¬ (s.poller 0).current + 1 < (s.poller 0).order.length ∧
      ((s.poller 0).pendingOrder.getD (s.poller 0).order)[0]? = some 6) := by decide +kernel

/-- The ACK of a SET_OUTPUTS that eight others have replaced while its poll waited finds the last one,
alike but untried, and leaves it in the slot; carried by the poll, it would leave (R168, R169). -/
theorem test_ack_of_replaced_leaves_successor :
    let s := fun tries => house.modNode 0 laneIoAddr fun n =>
      { n with slot := some ⟨.setOutputs true, 3, tries⟩ }
    let t := fun tries => (s tries).resolveCommand 0
      ⟨laneIoAddr, some (.setOutputs true, 3), 6, false⟩ (.ack 3)
    ((t none).node 0 laneIoAddr).slot = some ⟨.setOutputs true, 3, none⟩ ∧
      ((t (some 1)).node 0 laneIoAddr).slot = none := by decide +kernel

theorem witness_FramesThatEndNoPollAreCounted :
    ((polled 0 house).poller 0).poll = some ⟨0, none, 6, false⟩ ∧
    ((house.modPoller 0 fun q => { q with poll := some ⟨0, none, 6, true⟩ }).poller 0).poll =
      some ⟨0, none, 6, true⟩ ∧
    ([0x5A#8, 1, 2, 0, 0, 0] : List Byte).length < 7 ∧
    ([0xA5#8, 1, 2, 0, 0, 0, 0] : List Byte).head? ≠ some 0x5A#8 := by decide +kernel

/-- A node with misses, at a poll of it. -/
def missed (a : NodeAddr) (n : Nat) : State :=
  withAction .machineNodeLost .hold ((polled a house).modNode 0 a fun x => { x with misses := n })

/-- The polls of a command in the slot of a node, on its first and its third try. -/
def unheard (a : NodeAddr) (c : Command) (tries : Nat) : State :=
  withAction .commandLost .hold ((rolling.modNode 0 a fun n =>
    { n with slot := some ⟨c, 3, some tries⟩ }).modPoller 0 fun q =>
      { q with poll := some ⟨a, some (c, 3), 6, false⟩ })

/-- A READ, a SET_COUNT and the CYCLE of a START, on the first and the third try. -/
theorem witness_AnswerTimeoutCountsAndLoses_carried :
    (∀ x ∈ [(readerAddr .left, Command.read 5), (readerAddr .left, .setCount 5),
        (pinsetterAddr .left, .cycle .start 1)], ∀ tries ∈ [1, 3],
      let s := unheard x.1 x.2 tries
      (s.poller 0).poll = some ⟨x.1, some (x.2, 3), 6, false⟩ ∧
      (∀ i, (s.session i).all (fun y => decide (y.state ≠ .closing ∧ y.state ≠ .moving)) = true) ∧
      (s.node 0 x.1).slot = some ⟨x.2, 3, some tries⟩ ∧
      min 255 ((s.node 0 x.1).misses + 1) < (s.poller 0).threshold ∧
      (s.tracker 0).readWaiting = false ∧ (s.tracker 0).countWaiting = false) ∧
    (let s := (unheard (pinsetterAddr .left) (.cycle .start 1) 3).modSupervisor 0 fun v =>
        { v with record := some startRecord }
     let v := s.supervisor 0
     v.record = some ⟨.start, 1, .step .powerUp [.home, .newRack], false, none, none⟩ ∧
      (s.node 0 (pinsetterAddr .left)).state ≠ .lost ∧
      (s.node 0 (pinsetterAddr .left)).owed = none ∧ v.awaiting = none ∧ v.owed = none ∧
      v.followOn = .none ∧ v.deferredNeed = none ∧
      s.faultTable[faultIndex .commandLost].action = .hold ∧ (s.entry 0).holder = some 0 ∧
      (s.session 0).map (·.held) = some none ∧ ∀ f ∈ (s.lane 0).faults, f.cls ≠ .commandLost) := by
  decide +kernel

/-- A reader, with and without a SET_COUNT in its slot, and a lane I/O node, at the threshold. -/
theorem witness_AnswerTimeoutCountsAndLoses_sensors :
    (∀ slot ∈ [none, some (⟨.setCount 9, 3, none⟩ : SlotEntry)], ∀ a ∈ [readerAddr .left, laneIoAddr],
      let s := withAction .sensorNodeLost .hold ((missed a 3).modNode 0 a fun n =>
        { n with slot := slot })
      (∀ i, (s.session i).all (fun y => decide (y.state ≠ .closing ∧ y.state ≠ .moving)) = true) ∧
      (s.poller 0).poll = some ⟨a, none, 6, false⟩ ∧ (s.node 0 a).state = .alive ∧
      (s.node 0 a).slot = slot ∧ (s.poller 0).threshold ≤ min 255 ((s.node 0 a).misses + 1) ∧
      (∀ e ∈ [Side.left, .right], (s.entry (laneAt 0 e)).enabled = true ∧
        (∀ f ∈ (s.lane (laneAt 0 e)).faults, f.cls ≠ .sensorNodeLost) ∧
        (s.tracker (laneAt 0 e)).readWaiting = false) ∧
      s.faultTable[faultIndex .sensorNodeLost].action = .hold) := by decide +kernel

/-- One miss below the threshold of 4, and the miss that reaches it. -/
theorem witness_AnswerTimeoutCountsAndLoses :
    (let s := missed (pinsetterAddr .left) 2
     s.NoneLeaving ∧ (s.poller 0).poll = some ⟨pinsetterAddr .left, none, 6, false⟩ ∧
      min 255 ((s.node 0 (pinsetterAddr .left)).misses + 1) < (s.poller 0).threshold ∧
      ∀ e, roleOf (pinsetterAddr .left) = .pinsetter e →
        (s.supervisor (laneAt 0 e)).record.bind (·.watch) = none) ∧
    (let s := missed (consoleAddr .left) 3
     s.NoneLeaving ∧ (s.poller 0).poll = some ⟨consoleAddr .left, none, 6, false⟩ ∧
      (s.node 0 (consoleAddr .left)).state = .alive ∧
      (s.poller 0).threshold ≤ min 255 ((s.node 0 (consoleAddr .left)).misses + 1)) ∧
    (let s := missed (pinsetterAddr .left) 3
     s.NoneLeaving ∧ (s.node 0 (pinsetterAddr .left)).state = .alive ∧
      (s.poller 0).threshold ≤ min 255 ((s.node 0 (pinsetterAddr .left)).misses + 1) ∧
      (s.entry (laneAt 0 .left)).enabled = true ∧
      s.faultTable[faultIndex .machineNodeLost].action = .hold ∧
      (∀ f ∈ (s.lane (laneAt 0 .left)).faults, f.cls ≠ .machineNodeLost) ∧
      (s.supervisor (laneAt 0 .left)).record.bind (·.watch) = none) := by
  refine ⟨⟨noneLeaving_of (by decide +kernel), by decide +kernel, by decide +kernel, ?_⟩,
    ⟨noneLeaving_of (by decide +kernel), by decide +kernel, by decide +kernel, by decide +kernel⟩,
    ⟨noneLeaving_of (by decide +kernel), by decide +kernel, by decide +kernel, by decide +kernel,
      by decide, by decide +kernel, by decide +kernel⟩⟩
  intro e _
  cases e <;> decide +kernel

/-- Two frames wait for the consoles of pair 1, and its pinsetters are owed a HALT. -/
def owing : State :=
  (house.modPoller 0 fun q => { q with queue := [⟨.right, [1]⟩, ⟨.left, [2]⟩] }).modNode 0
    (pinsetterAddr .left) fun n => { n with owed := some .halt }

theorem witness_WaitingCommandsArePlaced :
    owing.NoneLeaving ∧
    (∃ e, consoleAddr Side.left = consoleAddr e ∧ ∀ f ∈ (house.poller 0).queue, f.side ≠ e) ∧
    ((withSlot (.cycle .start 1) house).node 0 (pinsetterAddr .left)).slot.isSome = true ∧
    ((owing.node 0 (consoleAddr .left)).slot = none ∧
      (owing.poller 0).queue = [⟨.right, [1]⟩] ++ ⟨.left, [2]⟩ :: [] ∧
      ∀ f ∈ ([⟨.right, [1]⟩] : List DisplayFrame), f.side ≠ .left) ∧
    (house.pinsetter 0).owed = none ∧
    ((owing.pinsetter 0).owed = some .halt ∧ (owing.pinsetter 0).state = .alive ∧
      (owing.pinsetter 0).slot = none ∧ (owing.supervisor 0).record = none) :=
  ⟨noneLeaving_of (by decide +kernel), ⟨.left, rfl, by decide +kernel⟩, by decide +kernel,
    by decide +kernel, by decide +kernel, by decide +kernel⟩

/-- The pinsetter of lane 1 LOST, what it owes and the lane's MACHINE_NODE_LOST. -/
def returning (owed : Option StopKind) (a : Action) : State :=
  polled (pinsetterAddr .left) ((house.modNode 0 (pinsetterAddr .left) fun n =>
    { n with state := .lost, owed := owed }).setLaneFaults 0
      [⟨.machineNodeLost, a, true, true, false, 1, 0, 0⟩])

/-- A node that returns, owed a command or none, under an action below STOP or at it. -/
theorem witness_WaitingCommandsArePlaced_return :
    ∀ owed ∈ [none, some StopKind.halt, some .park], ∀ a ∈ [Action.hold, .stop],
      let s := returning owed a
      (∀ i, (s.session i).all (fun y => decide (y.state ≠ .closing ∧ y.state ≠ .moving)) = true) ∧
      (s.poller 0).poll = some ⟨pinsetterAddr .left, none, 6, false⟩ ∧
      (s.node 0 (pinsetterAddr .left)).state ≠ .alive ∧
      (s.node 0 (pinsetterAddr .left)).owed = owed ∧ (s.entry 0).enabled = true ∧
      (s.supervisor 0).owed = none ∧ (s.supervisor 0).record = none ∧
      (s.node 0 (pinsetterAddr .left)).slot = none ∧
      (s.lane 0).faults = [] ++ ⟨.machineNodeLost, a, true, true, false, 1, 0, 0⟩ :: [] := by
  decide +kernel

/-! ## Witnesses: expiries -/

/-- Lane 1 in a sequence whose watch runs out at 15,000. -/
def watched (r : CycleRecord) (c : FaultClass) (a : Action) : State :=
  withAction c a (house.modSupervisor 0 fun v => { v with record := some { r with watch := some 15000 } })

/-- A step of a START and of a park; a jam watch that runs, and one that does not. -/
theorem witness_WatchesExpire :
    house.NoneLeaving ∧ (house.supervisor 0).record.bind (·.watch) = none ∧
    (let s := watched startRecord .startFailed .hold
     s.NoneLeaving ∧ (s.supervisor 0).record = some { startRecord with watch := some 15000 } ∧
      startRecord.kind ≠ .park ∧ s.faultTable[faultIndex .startFailed].action = .hold ∧
      ∀ f ∈ (s.lane 0).faults, f.cls ≠ .startFailed) ∧
    (let r : CycleRecord := ⟨.park, 2, .step .guardDown [.deckUp, .powerDown], true, none, none⟩
     let s := watched r .parkFailed .outOfService
     s.NoneLeaving ∧ (s.supervisor 0).record = some { r with watch := some 15000 } ∧
      (s.entry 0).holder = none ∧ (s.supervisor 0).deferredNeed = none ∧
      s.faultTable[faultIndex .parkFailed].action = .outOfService ∧
      ∀ f ∈ (s.lane 0).faults, f.cls ≠ .parkFailed) ∧
    (∀ b d, (house.ballReturn 0).watch ≠ .running b d) ∧
    (let s := withAction .returnJam .hold
        (house.modReturn 0 fun r => { r with watch := .running 0 15000 })
     s.NoneLeaving ∧ (s.ballReturn 0).watch = .running 0 15000 ∧
      s.faultTable[faultIndex .returnJam].action = .hold ∧
      ∀ f ∈ (s.pair 0).faults, f.cls ≠ .returnJam) := by
  have h : (house.ballReturn 0).watch = .suspended := by decide +kernel
  exact ⟨nobody_leaves_house, by decide +kernel,
    ⟨noneLeaving_of (by decide +kernel), by decide +kernel, by decide, by decide, by decide +kernel⟩,
    ⟨noneLeaving_of (by decide +kernel), by decide +kernel, by decide +kernel, by decide +kernel,
      by decide, by decide +kernel⟩,
    (fun b d e => JamWatch.noConfusion (h.symm.trans e)),
    ⟨noneLeaving_of (by decide +kernel), by decide +kernel, by decide, by decide +kernel⟩⟩

/-- A ball of lane 1 in a play state, with its three timers running. -/
def timed (p : PlayState) : State :=
  withAction .readingOverdue .hold (rolling.modTracker 0 fun k =>
    { k with
      play := p, ball := some ⟨9, 9, false, 1⟩, settleTimer := some 1500, retryTimer := some 250
      deadlineTimer := some 2000 })

theorem witness_BallTimersExpire :
    (((timed .settling).tracker 0).play = .settling ∧
      ((timed .settling).tracker 0).settleTimer = some 1500 ∧
      ((timed .settling).reader 0).slot = none) ∧
    ((timed .settling).tracker 0).retryTimer = some 250 ∧
    (((timed .reading).tracker 0).play = .reading ∧
      ((timed .reading).tracker 0).retryTimer = some 250 ∧
      ((timed .reading).tracker 0).deadlineTimer = some 2000 ∧ (timed .reading).NoneLeaving ∧
      (timed .reading).faultTable[faultIndex .readingOverdue].action = .hold ∧
      ∀ e ∈ ((timed .reading).lane 0).faults, e.cls ≠ .readingOverdue) ∧
    (((timed .reading).modNode 0 (readerAddr .left) fun n =>
      { n with slot := some ⟨.setCount 1, 0, none⟩ }).reader 0).slot = some ⟨.setCount 1, 0, none⟩ ∧
    ((rolling.tracker 0).play ≠ .settling ∧ (rolling.tracker 0).play ≠ .reading ∧
      (rolling.tracker 0).settleTimer = none) :=
  ⟨by decide +kernel, by decide +kernel, ⟨by decide +kernel, by decide +kernel, by decide +kernel,
    noneLeaving_of (by decide +kernel), by decide, by decide +kernel⟩, by decide +kernel,
    by decide +kernel⟩

/-! ## Witnesses: work that waited -/

/-- A READY machine that owes a FULL-then-park cycle. -/
def owes (n : Need) : State := rolling.modSupervisor 0 fun v => { v with owed := some n }

/-- A machine with a follow-on. -/
def following (m : MachineState) (f : FollowOn) : State :=
  (withMachine m rolling).modSupervisor 0 fun v => { v with followOn := f }

theorem witness_DeferredMachineWorkRuns :
    (rolling.NoneLeaving ∧ (rolling.supervisor 0).followOn = .none) ∧
    (let s := owes .fullThenPark
     s.NoneLeaving ∧ (s.supervisor 0).record = none ∧ (s.pinsetter 0).slot = none ∧
      (s.supervisor 0).machine = .ready ∧ s.belowHold 0 = true ∧
      (s.supervisor 0).owed = some .fullThenPark) ∧
    (let s := following .halted .park
     s.NoneLeaving ∧ (s.supervisor 0).record = none ∧ (s.pinsetter 0).slot = none ∧
      (s.supervisor 0).followOn = .park ∧ (s.supervisor 0).machine = .halted ∧
      (s.supervisor 0).owed = none ∧ (s.supervisor 0).deferredNeed = none ∧
      (s.tracker 0).play ≠ .resolved ∧ (s.pinsetter 0).state ≠ .lost ∧
      (s.pinsetter 0).owed = none) ∧
    (let s := following .parked .start
     s.NoneLeaving ∧ (s.supervisor 0).record = none ∧ (s.pinsetter 0).slot = none ∧
      (s.supervisor 0).followOn = .start ∧ (s.supervisor 0).machine = .parked ∧
      (s.pinsetter 0).owed = none ∧ s.belowStop 0 = true ∧ (s.entry 0).holder.isSome = true) :=
  ⟨⟨rolling_stays, by decide +kernel⟩,
    ⟨noneLeaving_of (by decide +kernel), by decide +kernel⟩,
    ⟨noneLeaving_of (by decide +kernel), by decide +kernel⟩,
    ⟨noneLeaving_of (by decide +kernel), by decide +kernel⟩⟩

/-- The session before the second ball of frame 1, a resume choice pending. -/
def resuming (r : Resume) : Session :=
  { party with
    pendingResume := some r, bowlers := [halfPlayer, player 2]
    nextBall := ⟨1, 1, 2, .leave, pinSetOf [1, 2, 3], some 3⟩ }

/-- Nothing to do; a resume with each choice, with a current slot and without; a close, a move, an expiry wait and a held result. -/
theorem witness_DeferredSessionWorkRuns :
    (rolling.session 0 = some party ∧ party.pendingResume = none ∧ party.state ≠ .closing ∧
      (∀ h ∈ rolling.holder 0, h.2.state ≠ .moving) ∧ party.state ≠ .expired) ∧
    (∀ r, let s := hosting (resuming r)
     s.session 0 = some (resuming r) ∧ (resuming r).pendingResume = some r ∧
      (resuming r).held = none ∧ s.sessionInFlight 0 (resuming r) = false ∧
      (∃ b f, bowlerAt (resuming r) 1 = some b ∧ nth1 b.game.frames 1 = some f ∧ f.balls ≠ []) ∧
      1 ≤ (resuming r).nextBall.frame ∧ (resuming r).slot.isSome = true) ∧
    (∀ r, let x := { resuming r with slot := none }
     (hosting x).session 0 = some x ∧ x.pendingResume = some r ∧ x.held = none ∧
      (hosting x).sessionInFlight 0 x = false) ∧
    (let s := withMachine .ready (hosting { party with state := .closing })
     s.session 0 = some { party with state := .closing } ∧ (s.entry 0).holder = some 0 ∧
      s.quiet 0 = true) ∧
    (let s := (withMachine .ready (hosting { party with state := .moving })).modEntry 0 fun e =>
        { e with movePending := some ⟨31, .clamp⟩ }
     s.session 0 = some { party with state := .moving } ∧
      (s.entry 0).movePending = some ⟨31, .clamp⟩ ∧ (31 : LaneId) ≠ 0 ∧ s.quiet 0 = true ∧
      (s.meter 0).openLine = none ∧ (s.entry 0).holder = some 0) ∧
    (let x := { party with
        state := .expired, billing := { newBilling .time false 5 with expiryCount := some 1 } }
     let s := withPlay .settling (withMachine .ready (hosting x))
     s.session 0 = some x ∧ x.billing.expiryCount.isSome = true ∧ s.quiet 0 = false) ∧
    (let s := withPlay .resolved (withMachine .ready (hosting holding))
     s.session 0 = some holding ∧ (s.supervisor 0).record = none ∧
      (s.supervisor 0).deferredNeed = none ∧ (s.supervisor 0).owed = none ∧
      (s.pinsetter 0).slot = none ∧ (s.tracker 0).play = .resolved ∧
      holding.held = some ⟨pinSetOf [1, 10], false, .entered, 1⟩) ∧
    (∀ j y, j ≠ 0 → rolling.session j = some y → y.state ≠ .closing ∧ y.state ≠ .moving) := by
  refine ⟨by decide +kernel, fun r => ?_, fun r => ?_, by decide +kernel, by decide +kernel,
    by decide +kernel, by decide +kernel, fun j y => alone_rolling j y⟩
  · cases r <;> exact ⟨by decide +kernel, rfl, rfl, by decide +kernel,
      ⟨halfPlayer, halfFrame, rfl, rfl, by decide⟩, by decide, rfl⟩
  · cases r <;> exact ⟨by decide +kernel, rfl, rfl, by decide +kernel⟩

/-! ## Witnesses: the clock, the detectors and the scores -/

theorem witness_TicksCountAndCharge :
    house.NoneLeaving ∧ calendarInRange house.clock.calendar = true ∧
    (∀ i x, rolling.session i = some x →
      x.billing.chargeable < 4294967295 ∧ x.billing.credited < 4294967295 ∧
      x.billing.elapsed < 4294967295 ∧
      (x.billing.state = .running → x.billing.secondsInMinute < 59) ∧
      (∀ n, x.billing.state = .stopped → x.billing.expiryCount = some n → 2 ≤ n)) ∧
    (timedHouse.NoneLeaving ∧ timedHouse.session 0 = some timedParty ∧
      timedParty.billing.state = .running ∧ timedParty.billing.secondsInMinute = 59 ∧
      timedParty.terms.limit = .none ∧ timedHouse.tariff.pending = none ∧
      (timedHouse.meter 0).openLine = none ∧
      ∀ j y, j ≠ 0 → timedHouse.session j = some y → y.billing.state = .gameMode) ∧
    (committing.NoneLeaving ∧ committing.tariff.pending = some ⟨0, ⟨2099, 12, 31, 23, 58⟩⟩ ∧
      ∀ n : Fin 24, n.val < 0 → committing.tariff.slots[n].isSome = true) := by
  refine ⟨nobody_leaves_house, by decide, ?_, ⟨noneLeaving_of (by decide +kernel), by decide +kernel,
    by decide, by decide, by decide, by decide, by decide +kernel, ?_⟩,
    ⟨noneLeaving_of (by decide +kernel), rfl, fun _ h => absurd h (Nat.not_lt_zero _)⟩⟩
  · have h := forall_session (s := rolling) (P := fun _ x => x.billing = party.billing)
      (by decide +kernel)
    intro i x hx
    rw [h i x hx]
    exact ⟨by decide, by decide, by decide, by decide, fun _ e => absurd e (by decide)⟩
  · intro j y hj hy
    exact forall_session (s := timedHouse) (P := fun j y => j ≠ 0 → y.billing.state = .gameMode)
      (by decide +kernel) j y hy hj

/-- The lane I/O node of pair 1 polled, one detector in a state since node time 100, the last node time
being 0. -/
def detecting (e : Detector) (x : FilterState) (s : State) : State :=
  (polled laneIoAddr s).modFilter 0 fun f => ({ f with initialised := true } : Filter).setDetector e
    { Initial.detector with state := x, darkEdge := 100, releaseEdge := 100, darkSince := 100 }

/-- Every detector in every state, with the node alive and nobody leaving; and an uninitialised filter. -/
theorem witness_DetectorLevelsMakePassages :
    (let s := polled laneIoAddr house
     s.NoneLeaving ∧ (s.poller 0).poll = some ⟨laneIoAddr, none, 6, false⟩ ∧
      (s.node 0 laneIoAddr).state = .alive ∧ (s.filter 0).initialised = false ∧
      ∀ e, ((s.filter 0).detector e).blocked = false) ∧
    (∀ e ∈ detectors, ∀ x ∈ [FilterState.clear, .pressWait, .dark, .releaseWait],
      let s := detecting e x house
      (∀ i, s.session i = none) ∧ (s.poller 0).poll = some ⟨laneIoAddr, none, 6, false⟩ ∧
      (s.node 0 laneIoAddr).state = .alive ∧ (s.filter 0).initialised = true ∧
      (s.filter 0).lastNodeTime = 0 ∧ (∀ c ∈ detectors, c ≠ e →
        ((s.filter 0).detector c).state = .clear) ∧
      ((s.filter 0).detector e).state = x ∧ ((s.filter 0).detector e).blocked = false ∧
      2 ^ detectorBit e < 256) := by
  refine ⟨⟨noneLeaving_of (by decide +kernel), by decide +kernel, by decide +kernel,
    by decide +kernel, ?_⟩, by decide +kernel⟩
  intro e
  cases e <;> decide +kernel

/-- The node times at which the clauses meet, for every detector with its debounce: one millisecond before
a wait from 100 has passed and when it has, both within the blocked limit; a transition 1 and 30,000 ms
before the latest node time, and one 30,001 ms before it or at it. -/
theorem witness_DetectorLevelsMakePassages_times :
    (∀ c ∈ [(Detector.foulLeft, 10, 10000), (.pitLeft, 20, 2000), (.foulRight, 10, 10000),
        (.pitRight, 20, 2000), (.lift, 20, 3000), (.rack, 500, 65535)],
      debounceOf ⟨10, 20, 20, 500⟩ c.1 = c.2.1 ∧ (∀ n, blockedLimit c.1 = some n → n = c.2.2) ∧
      ((BitVec.ofNat 16 (99 + c.2.1) : NodeTime) - 100).toNat < c.2.1 ∧
      c.2.1 ≤ ((BitVec.ofNat 16 (100 + c.2.1) : NodeTime) - 100).toNat ∧
      ((BitVec.ofNat 16 (100 + c.2.1) : NodeTime) - 100).toNat ≤ c.2.2 ∧
      (BitVec.ofNat 16 (100 + c.2.1) : NodeTime).toNat ≤ 30000) ∧
    (1 ≤ ((0 : NodeTime) - 65535).toNat ∧ ((0 : NodeTime) - 35536).toNat ≤ 30000) ∧
    ((0 : NodeTime) - 0).toNat < 1 ∧ 30000 < ((0 : NodeTime) - 35535).toNat := by
  refine ⟨fun c h => ?_, by decide, by decide, by decide⟩
  simp only [List.mem_cons, List.not_mem_nil, or_false] at h
  rcases h with rfl | rfl | rfl | rfl | rfl | rfl <;>
    exact ⟨by decide, by simp [blockedLimit], by decide, by decide, by decide, by decide⟩

/-- What passages meet: an ARMED lane with foul detection on and one without holder; a track of 15 and one
of 16; an empty track, and one that jams or not, with its fault; a rack that becomes full or stays, the
lift running or not. -/
theorem witness_DetectorLevelsMakePassages_handed :
    (let s := withPlay .armed rolling
     (s.tracker 0).play = .armed ∧ (s.entry 0).state = .opened ∧ (s.entry 0).holder = some 0 ∧
      s.session 0 = some party ∧ party.terms.foulDetection = true) ∧
    ((house.tracker 0).play = .notArmed ∧ (house.entry 0).state = .closed) ∧
    (∀ n ∈ [15, 16], ((house.modReturn 0 fun r =>
      { r with track := List.replicate n ⟨0, 0⟩ }).ballReturn 0).track.length = n) ∧
    (withAction .returnJam .hold house).faultTable[faultIndex .returnJam].action = .hold ∧
    ((house.ballReturn 0).track = [] ∧ (oneBall.ballReturn 0).track = ⟨0, 0⟩ :: [] ∧
      (oneBall.ballReturn 0).watchExpired = false ∧ (oneBall.ballReturn 0).overflow = false) ∧
    (∀ a ∈ [Action.hold, .stop],
      let f : FaultEntry := ⟨.returnJam, a, true, true, false, 1, 0, 0⟩
      let s := (oneBall.modReturn 0 fun r => { r with overflow := true }).setPairFaults 0 [f]
      (s.ballReturn 0).overflow = true ∧ (s.pair 0).faults = [] ++ f :: []) ∧
    ((house.ballReturn 0).rackFull = false ∧ (rolling.pairInUse 0 && !false) = true ∧
      (rolling.ballReturn 0).liftOn = false ∧ (rolling.node 0 laneIoAddr).slot = none) := by
  decide +kernel

/-- A ball of a pinfall, foul or not. -/
def ballOf (pinfall : Nat) (foul : Bool) : Ball := ⟨pinfall, .full, fullRack, 0, foul, false, .readGood, false, 0⟩

/-- Empty frames at both ends; and a strike, which completes a frame 9 and goes on in frame 10. -/
theorem witness_RecordedBallScoresFrames :
    ((newGame 1 0).frames.length = 10 ∧ nth1 (newGame 1 0).frames 1 = some emptyFrame ∧
      nth1 (newGame 1 0).frames 10 = some emptyFrame) ∧
    CompleteFrame 9 [ballOf 10 false] ∧ ¬ CompleteFrame 10 [ballOf 10 false] := by
  refine ⟨by decide, ?_, ?_⟩ <;> simp [CompleteFrame, ballOf]

/-! ## Ill-formed commands

Each check of `WellFormed` refuses a command that breaks it and it alone. -/

/-- A number above one byte in every one-byte lane, pair, session, slot, count or code field. -/
theorem test_illFormed_oneByte :
    ∀ i ∈ ([.setProfile 1 256 Initial.profile, .setPollOrder 1 256 [] 6 4, .setPollOrder 1 1 [256] 6 4,
        .setPollOrder 1 1 [] 256 4, .setPollOrder 1 1 [] 6 256, .stageEntry 1 256 none,
        .stageClassDefault 1 256 ⟨0, 0, 0, 0⟩, .stageSpecialDay 1 256 1 none,
        .stageSpecialDay 1 1 256 none, .stageSpecialDay 1 1 1 (some 256), .commitTariff 1 256 0,
        .passThrough 1 256 [], .restartPairLink 1 256, .trimTrack 1 256 1, .trimTrack 1 1 256,
        .collectCharges 1 256 true, .readLane 1 256, .readSession 1 256, .readReturn 1 256,
        .openLane 1 256 byDefault [], .openPairPlay 1 256 byDefault [] [],
        .addBowler 1 256 ⟨1, 1, 0, 0⟩, .withdrawBowler 1 256 1, .withdrawBowler 1 1 256,
        .closeLane 1 256 none, .closeLane 1 1 (some 256), .moveSession 1 256 1 .clamp,
        .moveSession 1 1 256 .clamp, .startMachine 1 256 none, .stopMachine 1 256 .halt,
        .reRack 1 256, .enterManual 1 256, .leaveManual 1 256, .manualCommand 1 256 [1],
        .enterBall 1 256 1 [], .enterBall 1 1 256 [], .enterBall 1 1 1 [256],
        .correctBall 1 256 1 1 1 1 1, .correctBall 1 1 256 1 1 1 1, .correctBall 1 1 1 256 1 1 1,
        .correctBall 1 1 1 1 256 1 1, .correctBall 1 1 1 1 1 256 1, .correctBall 1 1 1 1 1 1 256,
        .extendLimit 1 256 1, .resyncReader 1 256, .clearFault 1 256 1 false none,
        .clearFault 1 1 256 false none, .clearFault 1 1 1 false (some 256)] : List Instr),
      WellFormed i = false := by decide

/-- A number above two bytes in a two-byte field. -/
theorem test_illFormed_twoBytes :
    ∀ i ∈ ([.commitTariff 1 0 65536, .extendLimit 1 1 65536, .stageClassDefault 1 0 ⟨65536, 0, 0, 0⟩,
        .stageClassDefault 1 0 ⟨0, 65536, 0, 0⟩, .stageClassDefault 1 0 ⟨0, 0, 65536, 0⟩,
        .stageEntry 1 1 (some ⟨1, 1, 65536, 1, 0, 0⟩), .stageEntry 1 1 (some ⟨1, 1, 0, 65536, 0, 0⟩),
        .stageEntry 1 1 (some ⟨1, 1, 0, 1, 65536, 0⟩), .stageEntry 1 1 (some ⟨1, 1, 0, 1, 0, 65536⟩),
        .addBowler 1 1 ⟨65536, 1, 0, 0⟩, .addBowler 1 1 ⟨1, 65536, 0, 0⟩,
        .addBowler 1 1 ⟨1, 1, 0, 65536⟩, .setClock 1 ⟨0, 0, 0, 1, 1, 1, 65536⟩,
        .setProfile 1 0 { Initial.profile with settle := 65536 },
        .setProfile 1 0 { Initial.profile with readingDeadline := 65536 },
        .setProfile 1 0 { Initial.profile with retry := 65536 },
        .setLaneMap 1 [⟨1, ⟨true, 0, true⟩, ⟨true, 0, true⟩, 10, 20, 20, 65536⟩]] : List Instr),
      WellFormed i = false := by decide

/-- Every field of the profile, the clock, the centre default record, and each list item. -/
theorem test_illFormed_records :
    (∀ f ∈ ([{ Initial.profile with deckDown := 256 }, { Initial.profile with lift := 256 },
        { Initial.profile with sweep := 256 }, { Initial.profile with respot := 256 },
        { Initial.profile with newRack := 256 }, { Initial.profile with home := 256 },
        { Initial.profile with powerUp := 256 }, { Initial.profile with halt := 256 },
        { Initial.profile with guardDown := 256 }, { Initial.profile with deckUp := 256 },
        { Initial.profile with powerDown := 256 }] : List Profile),
      WellFormed (.setProfile 1 0 f) = false) ∧
    (∀ c ∈ ([⟨256, 0, 0, 1, 1, 1, 0⟩, ⟨0, 256, 0, 1, 1, 1, 0⟩, ⟨0, 0, 256, 1, 1, 1, 0⟩,
        ⟨0, 0, 0, 256, 1, 1, 0⟩, ⟨0, 0, 0, 1, 256, 1, 0⟩, ⟨0, 0, 0, 1, 1, 256, 0⟩] : List Calendar),
      WellFormed (.setClock 1 c) = false) ∧
    (∀ f ∈ ([⟨256, 0, 0, 0, 0, 0, 0, 0, 0, 0, 0, 0⟩, ⟨0, 256, 0, 0, 0, 0, 0, 0, 0, 0, 0, 0⟩,
        ⟨0, 0, 256, 0, 0, 0, 0, 0, 0, 0, 0, 0⟩, ⟨0, 0, 0, 65536, 0, 0, 0, 0, 0, 0, 0, 0⟩,
        ⟨0, 0, 0, 0, 256, 0, 0, 0, 0, 0, 0, 0⟩, ⟨0, 0, 0, 0, 0, 256, 0, 0, 0, 0, 0, 0⟩,
        ⟨0, 0, 0, 0, 0, 0, 256, 0, 0, 0, 0, 0⟩, ⟨0, 0, 0, 0, 0, 0, 0, 256, 0, 0, 0, 0⟩,
        ⟨0, 0, 0, 0, 0, 0, 0, 0, 65536, 0, 0, 0⟩, ⟨0, 0, 0, 0, 0, 0, 0, 0, 0, 256, 0, 0⟩,
        ⟨0, 0, 0, 0, 0, 0, 0, 0, 0, 0, 65536, 0⟩, ⟨0, 0, 0, 0, 0, 0, 0, 0, 0, 0, 0, 256⟩] :
          List DefaultsFields), WellFormed (.setDefaults 1 f) = false) ∧
    (∀ x ∈ ([⟨256, 0, true, 0⟩, ⟨1, 256, true, 0⟩, ⟨1, 0, true, 256⟩] : List FaultActionItem),
      WellFormed (.setFaultAction 1 [x]) = false) ∧
    (∀ x ∈ ([⟨256, 0⟩, ⟨1, 256⟩] : List NoticePriorityItem),
      WellFormed (.setNoticePriority 1 [x]) = false) ∧
    (∀ x ∈ ([⟨256, 8, 15⟩, ⟨1, 256, 15⟩, ⟨1, 8, 256⟩] : List ReturnItem),
      WellFormed (.setReturn 1 [x]) = false) ∧
    (∀ x ∈ ([⟨256, ⟨true, 0, true⟩, ⟨true, 0, true⟩, 10, 20, 20, 500⟩,
        ⟨1, ⟨true, 256, true⟩, ⟨true, 0, true⟩, 10, 20, 20, 500⟩,
        ⟨1, ⟨true, 0, true⟩, ⟨true, 256, true⟩, 10, 20, 20, 500⟩,
        ⟨1, ⟨true, 0, true⟩, ⟨true, 0, true⟩, 256, 20, 20, 500⟩,
        ⟨1, ⟨true, 0, true⟩, ⟨true, 0, true⟩, 10, 256, 20, 500⟩,
        ⟨1, ⟨true, 0, true⟩, ⟨true, 0, true⟩, 10, 20, 256, 500⟩] : List LaneMapPair),
      WellFormed (.setLaneMap 1 [x]) = false) ∧
    (∀ e ∈ ([⟨256, 1, 0, 1, 0, 0⟩, ⟨1, 256, 0, 1, 0, 0⟩] : List PeriodFields),
      WellFormed (.stageEntry 1 1 (some e)) = false) ∧
    WellFormed (.stageClassDefault 1 0 ⟨0, 0, 0, 256⟩) = false ∧
    WellFormed (.addBowler 1 1 ⟨1, 1, 256, 0⟩) = false := by decide

/-- A value above its byte or bytes behind each selector, and a code that names a selector. -/
theorem test_illFormed_selectors :
    ∀ t ∈ ([{ byDefault with billing := .value 256 }, { byDefault with tariffClass := .value 256 },
        { byDefault with limit := .value (256, 1) }, { byDefault with limit := .value (1, 65536) },
        { byDefault with warning := .value 256 }, { byDefault with foulDetection := .value 256 },
        { byDefault with reRackAllowed := .value 256 }, { byDefault with resume := .value 256 },
        { byDefault with basis := .value 65536 }, { byDefault with percent := .value 256 },
        { byDefault with cap := .value 65536 }, { byDefault with billing := .unlisted 2 },
        { byDefault with billing := .unlisted 256 }] : List TermSelectors),
      WellFormed (.openLane 1 1 t []) = false ∧ WellFormed (.openPairPlay 1 1 t [] []) = false := by
  decide

/-- Lists of 256 items, which a one-byte count cannot number; bodies of no byte and of 33. -/
theorem test_illFormed_lists :
    ∀ i ∈ ([.setLaneMap 1 (List.replicate 256 ⟨1, ⟨true, 0, true⟩, ⟨true, 0, true⟩, 10, 20, 20, 500⟩),
        .setFaultAction 1 (List.replicate 256 ⟨1, 0, true, 0⟩),
        .setNoticePriority 1 (List.replicate 256 ⟨1, 0⟩), .setPollOrder 1 1 (List.replicate 256 1) 6 4,
        .setReturn 1 (List.replicate 256 ⟨1, 8, 15⟩), .passThrough 1 1 (List.replicate 256 0),
        .openLane 1 1 byDefault (List.replicate 256 ⟨1, 1, 0, 0⟩),
        .openPairPlay 1 1 byDefault (List.replicate 256 ⟨1, 1, 0, 0⟩) [],
        .openPairPlay 1 1 byDefault [] (List.replicate 256 ⟨1, 1, 0, 0⟩),
        .openLane 1 1 byDefault [⟨65536, 1, 0, 0⟩], .enterBall 1 1 1 (List.replicate 256 1),
        .manualCommand 1 1 [], .manualCommand 1 1 (List.replicate 33 0)] : List Instr),
      WellFormed i = false := by decide +kernel

/-- The fields at their tops are well-formed. -/
theorem test_wellFormed_tops :
    ∀ i ∈ ([.setProfile 1 255 { Initial.profile with settle := 65535 }, .commitTariff 1 255 65535,
        .openLane 1 255 { byDefault with billing := .unlisted 3 } eight,
        .manualCommand 1 255 (List.replicate 32 0), .stageSpecialDay 1 255 255 (some 255)] : List Instr),
      WellFormed i = true := by decide

/-! ## Words and frames -/

/-- The table gives no row any bits. -/
theorem test_decode_none : decodeTableWord 0 0 = none := rfl

/-- The check value published for CRC-16 with polynomial 0x1021 and initial value 0xFFFF, over the
digits 1 to 9. -/
theorem test_crc16 :
    crc16 [0x31, 0x32, 0x33, 0x34, 0x35, 0x36, 0x37, 0x38, 0x39] = 0x29B1#16 := by decide +kernel

/-- Section 11.7: a poll of node 5 that carries nothing. -/
theorem test_pollBytes :
    Poll.bytes ⟨laneIoAddr, none, 6, false⟩ =
      [0x5A, 5, 1, 0, 0] ++ bytes2 (crc16 [5, 1, 0, 0]).toNat := by decide +kernel

/-- Section 11.7: OPEN_LANE is request 27, EXTEND_LIMIT request 41 with a value of two bytes; a field
too few and a byte too many fit no request. -/
theorem test_requestOf :
    requestOf 9 41 [3, 1, 44] = some (.extendLimit 9 3 300) ∧ requestOf 9 41 [3, 1] = none ∧
    requestOf 9 41 [3, 1, 44, 0] = none ∧ requestOf 9 0 [] = none ∧ requestOf 9 45 [] = none ∧
    requestOf 9 43 [7, 1, 0, 0] = some (.clearFault 9 7 1 false none) ∧
    requestOf 9 43 [7, 1, 1, 1, 1] = some (.clearFault 9 7 1 true (some 1)) := by decide +kernel

/-! ## Worked examples of the spec -/

/-- 3.3, the examples behind R29. -/
theorem test_splits :
    isSplit .full false (pinSetOf [7, 10]) = true ∧ isSplit .full false (pinSetOf [4, 5]) = false ∧
    isSplit .full false (pinSetOf [7, 8, 10]) = true ∧
    isSplit .full false (pinSetOf [6, 9, 10]) = false ∧
    isSplit .full false (pinSetOf [4, 7, 9, 10]) = true ∧
    isSplit .full true (pinSetOf [7, 10]) = false := by decide

/-- 'A full game', handicap at game start. -/
theorem test_handicap :
    handicapOf { Initial.terms with basis := 220, percent := 90, cap := 60 }
      { player 1 with average := 163, handicapMode := .basis } = 51 ∧
    handicapOf { Initial.terms with basis := 220, percent := 90, cap := 40 }
      { player 1 with average := 163, handicapMode := .basis } = 40 := by decide

/-- Balls recorded in their frames. -/
def bowl (bs : List (Nat × Nat)) : Game :=
  bs.foldl (fun g x => recordBall x.1 (ballOf x.2 false) g) (newGame 1 0)

/-- 'A full game': its frame scores and running totals. Ball 6 was a foul, recorded as 0. -/
theorem test_fullGame :
    (bowl [(1, 10), (2, 7), (2, 3), (3, 9), (3, 0), (4, 0), (4, 10), (5, 8), (5, 1), (6, 10), (7, 10),
        (8, 9), (8, 1), (9, 6), (9, 2), (10, 10), (10, 10), (10, 7)]).frames.map
        (fun f => (f.score, f.running)) =
      [(some 20, some 20), (some 19, some 39), (some 9, some 48), (some 18, some 66),
        (some 9, some 75), (some 29, some 104), (some 20, some 124), (some 16, some 140),
        (some 8, some 148), (some 27, some 175)] := by decide +kernel

/-- 'A full game', between balls 11 and 12: running totals through frame 5 only. -/
theorem test_fullGame_waits :
    (bowl [(1, 10), (2, 7), (2, 3), (3, 9), (3, 0), (4, 0), (4, 10), (5, 8), (5, 1), (6, 10),
        (7, 10)]).frames.map (·.running) =
      [some 20, some 39, some 48, some 66, some 75, none, none, none, none, none] := by decide +kernel

/-- 'One evening's tariffs and a commit on the hour': version 3. -/
def evening : Tariff :=
  { Initial.tariff with
    version := 3
    activeTable :=
      [⟨0b11, 0b0011111, 600, 1020, 450, 2350⟩, ⟨0b11, 0b0011111, 1020, 1440, 550, 3000⟩,
        ⟨0xFF, 0b1100000, 0, 1440, 600, 3600⟩]
    activeDefaults :=
      #v[⟨500, 2400, 200, 30⟩, ⟨0, 0, 0, 0⟩, ⟨400, 1800, 100, 15⟩, ⟨0, 0, 0, 0⟩, ⟨0, 0, 0, 0⟩,
        ⟨0, 0, 0, 0⟩, ⟨0, 0, 0, 0⟩, ⟨0, 0, 0, 0⟩]
    activeDays := [⟨25, 12, 7⟩] }

/-- Its five lookups. -/
theorem test_lookups :
    lookupIn evening 0 ⟨0, 30, 14, 3, 1, 6, 2050⟩ = ⟨450, 2350, 1, 3, 200, 30⟩ ∧
    lookupIn evening 0 ⟨0, 0, 17, 3, 1, 6, 2050⟩ = ⟨550, 3000, 2, 3, 200, 30⟩ ∧
    lookupIn evening 0 ⟨0, 0, 8, 3, 1, 6, 2050⟩ = ⟨500, 2400, 0, 3, 200, 30⟩ ∧
    lookupIn evening 2 ⟨0, 30, 14, 3, 1, 6, 2050⟩ = ⟨400, 1800, 0, 3, 100, 15⟩ ∧
    lookupIn evening 0 ⟨0, 30, 14, 4, 25, 12, 2050⟩ = ⟨600, 3600, 3, 3, 200, 30⟩ := by decide

/-- What a next state holds, read off it. -/
def after {α : Type} (r : Host.Outcome State Fault Refusal) (f : State → α) (d : α) : α :=
  match r with
  | .next t => f t
  | .fault _ => d
  | .refused _ => d

/-- 'A time-billed session across a tariff boundary', tick 360: (2,350 + 50) / 60 charges 40. -/
theorem test_minuteCharge :
    after (exec .secondTick timedHouse) (fun t => (t.session 0).map fun x =>
      (x.billing.carry, x.billing.chargedMinutes, x.billing.timeTotal)) none =
      some (0, 6, 235) := by decide +kernel

/-- 'A full Charge List': the line that fills it sets the full flag, and the next is folded. -/
theorem test_fullChargeList :
    let line := timeLine 2 ⟨0, 1, 2, 3, 410, Initial.clock.calendar⟩
    let s := { house with charges := ⟨List.replicate 255 line, false⟩ }
    let t := (s.appendLine line).appendLine { line with kind := .minimum, amount := 40 }
    t.charges.lines.length = 256 ∧ t.charges.full = true ∧ (t.meter 2).unlisted = ⟨40, false, 1⟩ := by
  decide +kernel

/-- 'A fouled ball across the node-time wrap', answer A: one glitch, one passage at 64,880. -/
theorem test_foulPassage :
    let f := { Initial.filter with initialised := true, lastNodeTime := 64700#16 }
    let k := takeAnswerTimes f 64950#16 0
      [⟨some .foulLeft, true, 64861#16⟩, ⟨some .foulLeft, false, 64864#16⟩,
        ⟨some .foulLeft, true, 64880#16⟩, ⟨some .foulLeft, false, 64930#16⟩]
    k.filter.foulLeft.state = .clear ∧ k.filter.foulLeft.glitches = 1 ∧
      k.filter.foulLeft.passages = 1 ∧ k.filter.mismatches = 0 ∧
      (k.declared.map fun d => match d with
        | .passage e t _ => (e, t)
        | .rackClear t _ => (.rack, t)) = [(.foulLeft, 64880#16)] := by decide +kernel

/-! ## Single commands -/

/-- R138, R139: 31 December 2099, 23:59:59, adjusted, is the first minute of 2000, a Friday. -/
theorem test_adjustClock :
    after (exec (.adjustClock 5) house) (fun t => t.clock.calendar) house.clock.calendar =
      ⟨0, 0, 0, 5, 1, 1, 2000⟩ := by decide +kernel

/-- R96: a holder that arrives at an OFF machine starts it. -/
theorem test_openLane_starts :
    after (exec (.openLane 5 1 byDefault eight) house)
      (fun t => ((t.supervisor 0).machine, (t.entry 0).state)) (.off, .closed) =
      (.starting, .opened) := by decide +kernel

/-- R180: GO_RUN without a committed tariff names it. -/
theorem test_goRun_refused :
    after (exec (.goRun 5) { house with device := .setup }) (fun t => t.trunk.transmitting) none =
      some (.response ⟨5, 20, ⟨.badState, .runCondition .tariff⟩⟩) := by decide +kernel

/-- R181, step 1, over 'A full Charge List': a listed line of 410 and lane 3's unlisted total of 40 in two
lines are three lines and 450. -/
theorem test_resetDevice_counts_folded :
    let line := timeLine 2 ⟨0, 1, 2, 3, 410, Initial.clock.calendar⟩
    let s := { house with charges := ⟨[line], false⟩ }.modMeter 2 fun m =>
      { m with unlisted := ⟨40, false, 2⟩ }
    after (exec (.resetDevice 5 true) s) (fun t => t.trunk.transmitting) none =
      some (.response ⟨5, 19, ⟨.ok, .resetDone 0 (some (3, 450))⟩⟩) := by decide +kernel

/-- R84, R85 and section 11.7: STEP_DONE (report 1) of sequence 1 for POWER_UP (step 7), the step
expected; HOME is then watched for its 20 tenths of a second. -/
theorem test_stepDone :
    after (exec (.answerReceived 0 ([0x5A, 1, 2, 0, 1, 1, 0x17] ++
        bytes2 (crc16 [1, 2, 0, 1, 1, 0x17]).toNat)) stepping)
      (fun t => ((t.supervisor 0).record.map fun r => (r.expected, r.watch))) none =
      some (.step .home [.newRack], some 2000) := by decide +kernel

/-- R87, R27: STOP_MACHINE supersedes a cycle, whose held ball is scored in the same command. -/
theorem test_stopMachine_releases :
    after (exec (.stopMachine 5 1 .halt) (cycling holding))
      (fun t => ((t.supervisor 0).machine, (t.tracker 0).play,
        (t.session 0).map fun x => (x.held.isNone, x.nextBall.index))) (.off, .armed, none) =
      (.halted, .notArmed, some (true, 2)) := by decide +kernel

/-- R66, R72 and section 11.7: a dark transition (bit 7) of FOUL_L (0) at node time 100, debounced by node
now 110: foul pending from 100. -/
theorem test_foulTransition :
    after (exec (.answerReceived 0 ([0x5A, 5, 2, 0, 1, 0, 110, 1, 0x80, 0, 100] ++
        bytes2 (crc16 [5, 2, 0, 1, 0, 110, 1, 0x80, 0, 100]).toNat))
      (detecting .foulLeft .clear (withPlay .armed rolling)))
      (fun t => ((t.tracker 0).foulPending, (t.filter 0).foulLeft.passages)) (none, 0) =
      (some 100, 1) := by decide +kernel

/-! ## A PARK that awaits the slot of a HALT (R84, R95) -/

/-- A HALTED machine whose HALT, number 5, is not acknowledged, with a PARK awaiting the slot, under a
fault table that gives every class the action PARK. -/
def parkAwaits : State :=
  let s := (withMachine .halted rolling).modSupervisor 0 fun v =>
    { v with
      cycle := 5, awaiting := some .park
      record := some ⟨.halt, 5, .step .halt [], false, none, none⟩ }
  let s' := s.modNode (pairOf 0) (pinsetterAddr (sideOf 0)) fun n =>
    { n with state := .alive, slot := some ⟨.halt 5, 0, some 1⟩ }
  { s' with faultTable := s'.faultTable.map fun x => { x with action := .park } }

/-- A report of the wrong step counts as the HALT's acknowledgment and raises SEQUENCE_FAULT, whose rise
to PARK places the PARK that awaited: the park, number 6, runs on, and nothing awaits any more. -/
theorem test_awaiting_park_is_placed_once :
    let r : CycleRecord := ⟨.halt, 5, .step .halt [], false, none, none⟩
    let t := parkAwaits.runningReport 0 r (some 9)
    (t.supervisor 0).machine = .parking ∧ (t.supervisor 0).cycle = 6 ∧
      (t.supervisor 0).superseded = some 5 ∧ (t.supervisor 0).awaiting = none ∧
      (t.pinsetter 0).slot.map (·.command) = some (.park 6) := by decide +kernel

end Sys2Proof.Tests
end

section
/-! SUPPORT. A property of states that the operations inside the LC32, the loads and the passing of time
keep is kept by every step: one lemma for all the step invariants. -/

namespace Sys2Proof.Machine

open Sys2Proof

/-! ## The requests that load no table -/

/-- The requests of which `Kept` has no lemma: they load a table, set the clock, stage a special day, or
reset or switch the device. -/
def loads : Instr → Bool
  | .setLaneMap _ _ | .setProfile _ _ _ | .setFaultAction _ _ | .setNoticePriority _ _
  | .setPollOrder _ _ _ _ _ | .setDefaults _ _ | .setReturn _ _ | .setClock _ _ | .adjustClock _
  | .stageSpecialDay _ _ _ _ | .resetDevice _ _ | .goRun _ | .returnSetup _ => true
  | _ => false

theorem Kept.reqUnknown {s u : State} (h : Kept s u) (code : Byte) :
    Kept s (Machine.reqUnknown code u).1 := by
  unfold Machine.reqUnknown
  split <;> exact h

/-- Every other request keeps what `Kept` says. -/
theorem kept_act {i : Instr} {a : Asked} (s : State) (ha : asked i = some a)
    (hl : loads i = false) : Kept s (a.act s).1 := by
  have r := Kept.refl s
  cases i with
  | unknownRequest => cases ha; exact r.reqUnknown _
  | stageEntry => cases ha; exact r.reqStageEntry _ _
  | stageClassDefault => cases ha; exact r.reqStageClassDefault _ _
  | commitTariff => cases ha; exact r.reqCommitTariff _ _
  | cancelCommit => cases ha; exact r.reqCancelCommit
  | passThrough => cases ha; exact r.reqPassThrough _ _
  | restartPairLink => cases ha; exact r.reqRestartPairLink _
  | trimTrack => cases ha; exact r.reqTrimTrack _ _
  | collectCharges => cases ha; exact r.reqCollectCharges _ _
  | readLane => cases ha; exact r.reqReadLane _
  | readSession => cases ha; exact r.reqReadSession _
  | readDevice => cases ha; exact r.reqReadDevice
  | readReturn => cases ha; exact r.reqReadReturn _
  | readTariff => cases ha; exact r.reqReadTariff _
  | readNoticeStatus => cases ha; exact r.reqReadNoticeStatus
  | openLane => cases ha; exact r.reqOpenLane _ _ _
  | openPairPlay => cases ha; exact r.reqOpenPairPlay _ _ _ _
  | addBowler => cases ha; exact r.reqAddBowler _ _
  | withdrawBowler => cases ha; exact r.reqWithdrawBowler _ _
  | closeLane => cases ha; exact r.reqCloseLane _ _
  | moveSession => cases ha; exact r.reqMoveSession _ _ _
  | startMachine => cases ha; exact r.reqStartMachine _ _
  | stopMachine => cases ha; exact r.reqStopMachine _ _
  | reRack => cases ha; exact r.reqReRack _
  | enterManual => cases ha; exact r.reqEnterManual _
  | leaveManual => cases ha; exact r.reqLeaveManual _
  | manualCommand => cases ha; exact r.reqManualCommand _ _
  | enterBall => cases ha; exact r.reqEnterBall _ _ _
  | correctBall => cases ha; exact r.reqCorrectBall _ _ _ _ _ _
  | extendLimit => cases ha; exact r.reqExtendLimit _ _
  | resyncReader => cases ha; exact r.reqResyncReader _
  | clearFault => cases ha; exact r.reqClearFault _ _ _ _
  | setLaneMap | setProfile | setFaultAction | setNoticePriority | setPollOrder | setDefaults
  | setReturn | setClock | adjustClock | stageSpecialDay | resetDevice | goRun | returnSetup =>
    cases hl
  | _ => cases ha

/-! ## What every step keeps -/

/-- A property of states that whatever a command is made of keeps: the operations inside the LC32
(`Kept`), the loads, the trunk's own work, the passing of time, and a power-on reset. -/
structure StepInvariant (P : State → Prop) : Prop where
  kept : ∀ {s t : State}, Kept s t → P s → P t
  load : ∀ {i : Instr} {a : Asked} {s : State}, asked i = some a → loads i = true → P s →
    P (a.act s).1
  trunk : ∀ {s : State} (x : Trunk), P s → P { s with trunk := x }
  sent : ∀ {s : State} (n : Notice), P s → P { s with notices := s.notices.erase n }
  taken : ∀ {s : State} (is : List Instr), P s → P { s with pending := is }
  pass : ∀ {s : State} (ms : Nat), P s → P (s.pass ms)
  tick : ∀ {s : State}, P s → P { s with clock := tickClock s.clock }
  boundary : ∀ {s : State}, P s → P { s with clock := { s.clock with boundaryDue := false } }
  reset : P State.reset

namespace StepInvariant

variable {P : State → Prop} {s : State}

/-- A request acted on. -/
theorem act (I : StepInvariant P) {i : Instr} {a : Asked} (ha : asked i = some a) (h : P s) :
    P (a.act s).1 := by
  cases hl : loads i with
  | false => exact I.kept (kept_act s ha hl) h
  | true => exact I.load ha hl h

theorem takeOldest (I : StepInvariant P) (h : P s) : P s.takeOldest := by
  unfold State.takeOldest
  split
  · split
    · next ha => exact I.trunk _ (I.act ha (I.trunk _ h))
    · exact I.trunk _ h
  · exact h

theorem transmit (I : StepInvariant P) (h : P s) : P s.transmit := by
  unfold State.transmit
  split
  · exact h
  · split
    · exact I.trunk _ h
    · split
      · exact I.trunk _ (I.sent _ h)
      · exact h

theorem settleTrunk (I : StepInvariant P) (h : P s) : P s.settleTrunk :=
  I.takeOldest (I.transmit (I.takeOldest h))

theorem submit (I : StepInvariant P) (i : Instr) (h : P s) : P (s.submit i) := by
  refine I.settleTrunk ?_
  unfold State.enqueue
  split
  · exact h
  · split
    · exact I.trunk _ h
    · exact I.kept ((Kept.refl _).raise _ _) (I.trunk _ h)

/-- R175: the receiver submits requests and counts bad frames. -/
theorem hunt (I : StepInvariant P) (n : Nat) :
    ∀ (bytes : List Byte) {s : State}, P s → P (State.hunt n bytes s) := by
  induction n with
  | zero => exact fun _ _ h => I.trunk _ h
  | succ n ih =>
    intro bytes s h
    cases bytes with
    | nil => exact I.trunk _ h
    | cons b bytes =>
      simp only [State.hunt]
      split
      · split
        · exact I.trunk _ h
        · exact ih _ (I.trunk _ h)
        · exact ih _ (I.trunk _ h)
        · exact ih _ (I.trunk _ h)
        · exact ih _ (I.submit _ h)
      · exact ih _ h

/-- An operation inside the LC32 carried out, and the trunk settled. -/
theorem done (I : StepInvariant P) {u t : State} (k : Kept s u) (h : P s) (e : u.done = .next t) :
    P t := by
  cases e
  exact I.settleTrunk (I.kept k h)

/-- R165, R166: an answer timeout, which device time reaches. -/
theorem linkTimeout (I : StepInvariant P) (p : PairId) (h : P s) : P (s.linkTimeout p) := by
  unfold State.linkTimeout
  split
  · exact h
  · exact I.kept ((Kept.refl _).timeoutPoll _ _) (I.pass _ h)

/-- The commands that the desk does not send. -/
theorem event (I : StepInvariant P) {i : Instr} {t : State} (hi : asked i = none) (h : P s)
    (e : exec i s = .next t) : P t := by
  have r := Kept.refl s
  cases i with
  | powerOnReset => cases e; exact I.taken _ I.reset
  | trunkFrameReceived => cases e; exact I.settleTrunk (I.hunt _ _ h)
  | transmitComplete => cases e; exact I.settleTrunk (I.trunk _ h)
  | answerReceived p frame => exact I.done ((r.ensurePoll p).linkFrame p frame) h e
  | wrongAddressAnswer p =>
    refine I.done ?_ h e
    split
    · exact r.ensurePoll p
    · exact (r.ensurePoll p).countWrongAddress p
  | damagedAnswer p => exact I.done ((r.ensurePoll p).countDamaged p) h e
  | abandonedAnswer p =>
    refine I.done ?_ h e
    split
    · exact (r.ensurePoll p).countAbandoned p
    · exact r.ensurePoll p
  | answerTimeout p => cases e; exact I.settleTrunk (I.linkTimeout p (I.kept (r.ensurePoll p) h))
  | slotCommandPlace p a =>
    refine I.done ?_ h e
    split
    · exact (r.slotEmptied p a).settlePair p
    · exact r
  | owedCommandPlace l => exact I.done ((r.placeOwed l).settleLane l) h e
  | stepWatchExpiry l =>
    simp only [exec, execStepWatchExpiry] at e
    split at e
    · exact I.done r h e
    · split at e
      · exact I.done r h e
      · exact I.done (((Kept.refl _).watchExpires l _).settleLane l) (I.pass _ h) e
  | jamWatchExpiry p =>
    simp only [exec, execJamWatchExpiry] at e
    split at e
    · exact I.done (((Kept.refl _).jamExpires p).settlePair p) (I.pass _ h) e
    · exact I.done r h e
    · exact I.done r h e
  | settleExpiry l =>
    simp only [exec, execSettleExpiry] at e
    split at e
    · exact I.done r h e
    · split at e
      · exact I.done ((Kept.refl _).settleExpires l) (I.pass _ h) e
      · exact I.done r h e
  | retryExpiry l =>
    simp only [exec, execRetryExpiry] at e
    split at e
    · exact I.done r h e
    · exact I.done ((Kept.refl _).retryExpires l) (I.pass _ h) e
  | readingDeadlineExpiry l =>
    simp only [exec, execReadingDeadlineExpiry] at e
    split at e
    · exact I.done r h e
    · split at e
      · exact I.done (((Kept.refl _).deadlineExpires l).settleLane l) (I.pass _ h) e
      · exact I.done r h e
  | heldResultApply l => exact I.done (((r.released l).armingCheck l).settleLane l) h e
  | owedCycleRun l => exact I.done (((r.runOwed l).armingCheck l).settleLane l) h e
  | followOnPark l => exact I.done ((r.followPark l).settleLane l) h e
  | followOnStart l => exact I.done ((r.followStart l).settleLane l) h e
  | pendingResumeApply i => exact I.done (r.applyPending i) h e
  | secondTick =>
    exact I.done (Kept.foldl (fun _ i k => k.sessionTick i) _ (Kept.refl _)) (I.tick (I.pass _ h)) e
  | expiryWaitEnd i => exact I.done (r.expiryEnds i) h e
  | minuteBoundary =>
    refine I.done (u := s.takeBoundary) ?_ (I.boundary h) e
    unfold State.takeBoundary
    dsimp only
    split
    · exact Kept.refl _
    · exact (Kept.refl _).swap _
  | closeSequence i => exact I.done (r.tryClose i) h e
  | moveComplete l => exact I.done (r.tryMove l) h e
  | _ => cases hi

/-- Every step keeps a step invariant. -/
theorem step (I : StepInvariant P) {t : State} (h : P s) (e : Machine.step s = .next t) : P t := by
  unfold Machine.step at e
  split at e
  · cases e; exact I.pass 1 h
  · next i rest _ =>
    have h' := I.taken rest h
    cases ha : asked i with
    | none => exact I.event ha h' e
    | some a =>
      rw [exec_request _ (by rw [ha]; rfl)] at e
      cases e
      exact I.submit i h'

end StepInvariant

end Sys2Proof.Machine
end

section
/-! SUPPORT. The loads keep the loaded tables in their ranges (O7): one lemma for each of them, and the
step invariant assembled from them. -/

namespace Sys2Proof.Machine

open Sys2Proof

theorem clampTo_range {low high : Nat} (n : Nat) (h : low ≤ high) :
    low ≤ clampTo low high n ∧ clampTo low high n ≤ high := by
  unfold clampTo; omega

theorem clampTo_le (high n : Nat) : clampTo 0 high n ≤ high := Nat.min_le_left _ _

/-! ## The special days (R144) -/

/-- Two dates are in order where the earlier comes before the later. -/
theorem dayBefore_iff {m d : Nat} {x : SpecialDay} :
    dayBefore m d x = true ↔ x.month < m ∨ x.month = m ∧ x.day < d := by
  simp [dayBefore]

theorem dayBefore_trans {a b c : SpecialDay} (h : dayBefore b.month b.day a = true)
    (k : dayBefore c.month c.day b = true) : dayBefore c.month c.day a = true := by
  rw [dayBefore_iff] at *; omega

/-- The days after an insertion are the new one and days held before. -/
theorem mem_insertDay {x d : SpecialDay} {ds : List SpecialDay} (h : d ∈ insertDay x ds) :
    d = x ∨ d ∈ ds := by
  induction ds with
  | nil => simpa [insertDay] using h
  | cons e es ih =>
    simp only [insertDay] at h
    split at h
    · exact (List.mem_cons.1 h).imp id (List.mem_cons_of_mem _)
    · split at h
      · rcases List.mem_cons.1 h with rfl | h
        · exact .inr (List.mem_cons_self ..)
        · exact (ih h).imp id (List.mem_cons_of_mem _)
      · exact List.mem_cons.1 h

/-- An insertion keeps the days in ascending order. -/
theorem ascending_insertDay (x : SpecialDay) {ds : List SpecialDay}
    (h : ds.Pairwise fun a b => dayBefore b.month b.day a = true) :
    (insertDay x ds).Pairwise fun a b => dayBefore b.month b.day a = true := by
  induction ds with
  | nil => simp [insertDay]
  | cons e es ih =>
    obtain ⟨he, hes⟩ := List.pairwise_cons.1 h
    simp only [insertDay]
    split
    · next heq =>
      refine List.pairwise_cons.2 ⟨fun b hb => ?_, hes⟩
      have := he b hb
      rwa [dayBefore_iff, heq.1, heq.2, ← dayBefore_iff] at this
    · next hne =>
      split
      · next hlt =>
        refine List.pairwise_cons.2 ⟨fun b hb => ?_, ih hes⟩
        rcases mem_insertDay hb with rfl | hb
        · exact hlt
        · exact he b hb
      · next hnl =>
        have hxe : dayBefore e.month e.day x = true := by rw [dayBefore_iff] at *; omega
        exact List.pairwise_cons.2
          ⟨List.forall_mem_cons.2 ⟨hxe, fun b hb => dayBefore_trans hxe (he b hb)⟩, h⟩

/-- A date that is held is replaced; another makes one day more. -/
theorem length_insertDay (x : SpecialDay) (ds : List SpecialDay) :
    (insertDay x ds).length ≤ ds.length + 1 := by
  induction ds with
  | nil => simp [insertDay]
  | cons e es ih =>
    simp only [insertDay]
    split
    · simp
    · split <;> simp only [List.length_cons] <;> omega

theorem length_insertDay_held {x : SpecialDay} {ds : List SpecialDay}
    (h : ds.Pairwise fun a b => dayBefore b.month b.day a = true)
    (hx : holdsDay x.day x.month ds = true) : (insertDay x ds).length = ds.length := by
  induction ds with
  | nil => simp [holdsDay] at hx
  | cons e es ih =>
    obtain ⟨he, hes⟩ := List.pairwise_cons.1 h
    simp only [holdsDay, List.any_cons, Bool.or_eq_true, Bool.and_eq_true, beq_iff_eq] at hx
    simp only [insertDay]
    split
    · rfl
    · next hne =>
      have hin : holdsDay x.day x.month es = true := hx.resolve_left hne
      obtain ⟨d, hd, hdx⟩ := List.any_eq_true.1 hin
      simp only [Bool.and_eq_true, beq_iff_eq] at hdx
      have hlt := he d hd
      rw [hdx.1, hdx.2] at hlt
      rw [if_pos hlt, List.length_cons, ih hes hin, List.length_cons]

/-- R144: a day inserted, where its date is held or there is room. -/
theorem DaysOk.insert {ds : List SpecialDay} (h : DaysOk ds) (x : SpecialDay)
    (room : ¬ (¬ holdsDay x.day x.month ds = true ∧ specialDayCapacity ≤ ds.length)) :
    DaysOk (insertDay x ds) where
  ascending := ascending_insertDay x h.ascending
  bounded := by
    by_cases hx : holdsDay x.day x.month ds = true
    · rw [length_insertDay_held h.ascending hx]; exact h.bounded
    · have := length_insertDay x ds
      have : ds.length < specialDayCapacity := Nat.lt_of_not_le fun k => room ⟨hx, k⟩
      omega

/-- R144: a day removed. -/
theorem DaysOk.remove {ds : List SpecialDay} (h : DaysOk ds) (day month : Nat) :
    DaysOk (removeDay day month ds) where
  ascending := h.ascending.filter _
  bounded := (List.length_filter_le _ _).trans h.bounded

/-- R144: a day whose numbers pass the check lies in its ranges. -/
theorem specialDayOk_of {day month w : Nat} (h : specialDayRange day month (some w) = false) :
    SpecialDayOk ⟨day, month, w⟩ := by
  simp only [specialDayRange, Option.any_some, Bool.or_eq_false_iff, decide_eq_false_iff_not] at h
  obtain ⟨⟨hm, hd⟩, hw⟩ := h
  constructor <;> dsimp only <;> omega

/-- The staging special days replaced by others in order and in their ranges. -/
theorem TariffOk.setStagedDays {t : Tariff} (h : TariffOk t) {ds : List SpecialDay} (hds : DaysOk ds)
    (ok : ∀ d ∈ ds, SpecialDayOk d) : TariffOk { t with stagedDays := ds } :=
  { h with stagedDays := ⟨hds, ok⟩ }

/-! ## Values as the loads clamp and check them -/

/-- R63: clamped debounce values lie in their ranges. -/
theorem debounceOk_load (e : LaneMapPair) : DebounceOk (loadDebounce e) where
  foul := clampTo_range _ (by decide)
  pit := clampTo_range _ (by decide)
  lift := clampTo_range _ (by decide)
  rack := clampTo_range _ (by decide)

/-- R83: a clamped profile lies in its ranges. -/
theorem profileOk_clamp (f : Profile) : ProfileOk (clampProfile f) where
  watches := by
    simp only [clampProfile, List.forall_mem_cons, List.not_mem_nil, false_imp_iff, implies_true,
      and_true]
    simp only [clampTo]
    omega
  powerUp := clampTo_range _ (by decide)
  settle := clampTo_range _ (by decide)
  readingDeadline := clampTo_range _ (by decide)
  retry := clampTo_range _ (by decide)

/-- A list read element by element keeps its length. -/
theorem length_mapM_some {α β : Type} {f : α → Option β} {xs : List α} :
    ∀ {ys : List β}, xs.mapM f = some ys → ys.length = xs.length := by
  induction xs with
  | nil => intro ys h; cases h; rfl
  | cons x xs ih =>
    intro ys h
    simp only [List.mapM_cons, Option.pure_def, Option.bind_eq_bind, Option.bind_eq_some_iff,
      Option.some.injEq] at h
    obtain ⟨y, _, zs, hz, rfl⟩ := h
    rw [List.length_cons, ih hz, List.length_cons]

/-- R164: a poll order that is accepted holds 1 to 12 addresses. -/
theorem orderOf_length {ns : List Nat} {order : List NodeAddr} (h : orderOf? ns = some order) :
    1 ≤ order.length ∧ order.length ≤ 12 := by
  unfold orderOf? at h
  split at h
  · next hl =>
    rwa [length_mapM_some h]
  · cases h

/-- R13: a clamped limit lies in the range of its kind. -/
theorem limitOk_clamp (k : Limit) : LimitOk (clampLimit k) := by
  cases k with
  | none => trivial
  | games n => exact clampTo_range _ (by decide)
  | minutes n => exact clampTo_range _ (by decide)

theorem warningTop_clampLimit (k : Limit) : warningTop (clampLimit k) = warningTop k := by
  cases k <;> rfl

/-- R4, R13: the fields put together lie in their ranges. -/
theorem defaultsOk_termsOf {b c w f r m a p k : Nat} {l : Nat × Nat} {x : Resolved}
    (h : termsOf b c l w f r m a p k = some x) (fits : limitFits x.terms.billing x.terms.limit = true)
    (wait : Nat) : DefaultsOk ⟨x.terms, clampTo 0 30 wait⟩ := by
  unfold termsOf at h
  split at h
  · cases h
    exact
      { limit := limitOk_clamp _
        fits := fits
        warning := by simp only [warningTop_clampLimit]; exact clampTo_le _ _
        basis := clampTo_le _ _
        percent := clampTo_le _ _
        cap := clampTo_le _ _
        expiryWait := clampTo_le _ _ }
  · cases h

/-! ## Updates of the tables -/

namespace SettingsOk

variable {s : State}

/-- Only the pairs and the tables count. -/
theorem congr {t : State} (h : SettingsOk s) (pairs : t.pairs = s.pairs)
    (profiles : t.profiles = s.profiles) (faultTable : t.faultTable = s.faultTable)
    (priorities : t.priorities = s.priorities) (defaults : t.defaults = s.defaults)
    (tariff : t.tariff = s.tariff) : SettingsOk t := by
  have pair : ∀ p, t.pair p = s.pair p := fun p => by simp only [State.pair, pairs]
  exact
    { profiles := profiles ▸ h.profiles
      debounce := fun p => by rw [State.filter, pair]; exact h.debounce p
      timeout := fun p => by rw [State.poller, pair]; exact h.timeout p
      threshold := fun p => by rw [State.poller, pair]; exact h.threshold p
      capacity := fun p => by rw [State.ballReturn, pair]; exact h.capacity p
      jamSeconds := fun p => by rw [State.ballReturn, pair]; exact h.jamSeconds p
      faultPriority := faultTable ▸ h.faultPriority
      noticePriority := priorities ▸ h.noticePriority
      defaults := defaults ▸ h.defaults
      orders := fun p => by rw [State.poller, pair]; exact h.orders p
      tariff := tariff ▸ h.tariff }

theorem modEntry (h : SettingsOk s) (l : LaneId) (f : LaneEntry → LaneEntry) :
    SettingsOk (s.modEntry l f) := h.congr rfl rfl rfl rfl rfl rfl

theorem modFilter (h : SettingsOk s) (p : PairId) {f : Filter → Filter}
    (hf : DebounceOk (f (s.filter p)).debounce) : SettingsOk (s.modFilter p f) :=
  { h with
    debounce := fun q => by
      rw [filter_modFilter]; split
      · next e => subst e; exact hf
      · exact h.debounce q
    timeout := fun q => by rw [poller_modFilter]; exact h.timeout q
    threshold := fun q => by rw [poller_modFilter]; exact h.threshold q
    capacity := fun q => by rw [ballReturn_modFilter]; exact h.capacity q
    jamSeconds := fun q => by rw [ballReturn_modFilter]; exact h.jamSeconds q
    orders := fun q => by rw [poller_modFilter]; exact h.orders q }

theorem modPoller (h : SettingsOk s) (p : PairId) {f : Poller → Poller}
    (timeout : 2 ≤ (f (s.poller p)).timeout ∧ (f (s.poller p)).timeout ≤ 50)
    (threshold : 1 ≤ (f (s.poller p)).threshold ∧ (f (s.poller p)).threshold ≤ 15)
    (orders : OrdersOk (f (s.poller p))) : SettingsOk (s.modPoller p f) :=
  { h with
    debounce := fun q => by rw [filter_modPoller]; exact h.debounce q
    timeout := fun q => by
      rw [poller_modPoller]; split
      · next e => subst e; exact timeout
      · exact h.timeout q
    threshold := fun q => by
      rw [poller_modPoller]; split
      · next e => subst e; exact threshold
      · exact h.threshold q
    capacity := fun q => by rw [ballReturn_modPoller]; exact h.capacity q
    jamSeconds := fun q => by rw [ballReturn_modPoller]; exact h.jamSeconds q
    orders := fun q => by
      rw [poller_modPoller]; split
      · next e => subst e; exact orders
      · exact h.orders q }

theorem modReturn (h : SettingsOk s) (p : PairId) {f : BallReturn → BallReturn}
    (capacity : 1 ≤ (f (s.ballReturn p)).capacity ∧ (f (s.ballReturn p)).capacity ≤ 12)
    (jamSeconds : 4 ≤ (f (s.ballReturn p)).jamSeconds ∧ (f (s.ballReturn p)).jamSeconds ≤ 60) :
    SettingsOk (s.modReturn p f) :=
  { h with
    debounce := fun q => by rw [filter_modReturn]; exact h.debounce q
    timeout := fun q => by rw [poller_modReturn]; exact h.timeout q
    threshold := fun q => by rw [poller_modReturn]; exact h.threshold q
    capacity := fun q => by
      rw [ballReturn_modReturn]; split
      · next e => subst e; exact capacity
      · exact h.capacity q
    jamSeconds := fun q => by
      rw [ballReturn_modReturn]; split
      · next e => subst e; exact jamSeconds
      · exact h.jamSeconds q
    orders := fun q => by rw [poller_modReturn]; exact h.orders q }

/-- A fold of loads over a list that each keep the tables in range. -/
theorem foldl {α : Type} {f : State → α → State} {xs : List α}
    (hf : ∀ v, ∀ x ∈ xs, SettingsOk v → SettingsOk (f v x)) :
    ∀ {s : State}, SettingsOk s → SettingsOk (xs.foldl f s) := by
  induction xs with
  | nil => exact fun h => h
  | cons x xs ih =>
    exact fun h => ih (fun v y hy => hf v y (List.mem_cons_of_mem _ hy))
      (hf _ x (List.mem_cons_self ..) h)

/-! ## The loads -/

theorem loseConsole (h : SettingsOk s) (p : PairId) (d : Side) (c : Bool) :
    SettingsOk (s.loseConsole p d c) := by
  unfold State.loseConsole
  split
  · exact ((Kept.refl s).discardDisplay p d).settings h
  · exact h

/-- R2, R63: the entries of one pair loaded. -/
theorem loadPair (h : SettingsOk s) (e : LaneMapPair) : SettingsOk (s.loadPair e) := by
  unfold State.loadPair
  split
  · exact h
  · next p _ =>
    have h1 := ((h.loseConsole p .left e.left.hasConsole).loseConsole p .right
      e.right.hasConsole).modEntry (laneAt p .left) (loadEntry e.left)
    have h2 := (h1.modEntry (laneAt p .right) (loadEntry e.right)).modFilter p
      (f := fun f => { f with debounce := loadDebounce e }) (debounceOk_load e)
    exact ((((Kept.refl _).mendOrder s p).decideLift p).armPair p).settings h2

theorem setLaneMap (h : SettingsOk s) (es : List LaneMapPair) :
    SettingsOk (reqSetLaneMap es s).1 := by
  unfold reqSetLaneMap
  dsimp only
  split
  · exact h
  · split
    · exact h
    · split
      · exact h
      · exact (h.foldl fun _ e _ k => k.loadPair e).congr rfl rfl rfl rfl rfl rfl

theorem setProfile (h : SettingsOk s) (n : Nat) (f : Profile) :
    SettingsOk (reqSetProfile n f s).1 := by
  unfold reqSetProfile
  split
  · refine { h with profiles := fun k => ?_ }
    simp only [Fin.getElem_fin, Vector.getElem_set]
    split
    · exact profileOk_clamp f
    · exact h.profiles k
  · exact h

/-- R107: one entry of the fault action table replaced, with a priority of at most 15. -/
theorem loadFaultAction (h : SettingsOk s) {x : FaultActionItem} (hx : faultItemValid x = true) :
    SettingsOk (s.loadFaultAction x) := by
  unfold State.loadFaultAction
  split
  · refine { h with faultPriority := fun n => ?_ }
    simp only [Fin.getElem_fin, Vector.getElem_set]
    split
    · simp only [faultItemValid, Bool.and_eq_true, decide_eq_true_eq] at hx
      exact hx.2
    · exact h.faultPriority n
  · exact h

theorem setFaultAction (h : SettingsOk s) (xs : List FaultActionItem) :
    SettingsOk (reqSetFaultAction xs s).1 := by
  unfold reqSetFaultAction
  split
  · exact h
  · next hv =>
    have valid : xs.all faultItemValid = true := by
      by_contra k; exact hv (.inr (.inl k))
    exact h.foldl fun _ x hx k => k.loadFaultAction (List.all_eq_true.1 valid x hx)

/-- R179: one priority replaced by one of at most 15. -/
theorem loadPriority (h : SettingsOk s) {x : NoticePriorityItem} (hx : priorityItemValid x = true) :
    SettingsOk (s.loadPriority x) := by
  unfold State.loadPriority
  split
  · exact h
  · refine { h with noticePriority := fun n => ?_ }
    simp only [Fin.getElem_fin, Vector.getElem_set]
    split
    · simp only [priorityItemValid, Bool.and_eq_true, decide_eq_true_eq] at hx
      exact hx.2
    · exact h.noticePriority n

theorem setNoticePriority (h : SettingsOk s) (xs : List NoticePriorityItem) :
    SettingsOk (reqSetNoticePriority xs s).1 := by
  unfold reqSetNoticePriority
  split
  · exact h
  · next hv =>
    have valid : xs.all priorityItemValid = true := by
      by_contra k; exact hv (.inr (.inl k))
    exact h.foldl fun _ x hx k => k.loadPriority (List.all_eq_true.1 valid x hx)

theorem setPollOrder (h : SettingsOk s) (pair : Nat) (ns : List Nat) (timeout threshold : Nat) :
    SettingsOk (reqSetPollOrder pair ns timeout threshold s).1 := by
  unfold reqSetPollOrder
  split
  · exact h
  · next p _ =>
    split
    · exact h
    · next order ho =>
      split
      · exact h
      · dsimp only
        refine h.modPoller p ?_ ?_ ?_
        · exact clampTo_range _ (by decide)
        · exact clampTo_range _ (by decide)
        · exact ⟨(h.orders p).order, fun o e => by cases e; exact orderOf_length ho,
            (h.orders p).current⟩

theorem setDefaults (h : SettingsOk s) (f : DefaultsFields) :
    SettingsOk (reqSetDefaults f s).1 := by
  unfold reqSetDefaults
  split
  · exact h
  · next ht =>
    split
    · next fits => exact { h with defaults := defaultsOk_termsOf ht fits _ }
    · exact h

theorem loadReturnItem (h : SettingsOk s) (x : ReturnItem) : SettingsOk (s.loadReturnItem x) := by
  unfold State.loadReturnItem
  split
  · exact h
  · next p _ =>
    refine ((Kept.refl _).returnChanged p _).settings (h.modReturn p ?_ ?_)
    · exact clampTo_range _ (by decide)
    · exact clampTo_range _ (by decide)

theorem setReturn (h : SettingsOk s) (xs : List ReturnItem) : SettingsOk (reqSetReturn xs s).1 := by
  unfold reqSetReturn
  split
  · exact h
  · exact h.foldl fun _ x _ k => k.loadReturnItem x

theorem setClock (h : SettingsOk s) (c : Calendar) : SettingsOk (reqSetClock c s).1 := by
  unfold reqSetClock
  split <;> exact h.congr rfl rfl rfl rfl rfl rfl

theorem adjustClock (h : SettingsOk s) : SettingsOk (reqAdjustClock s).1 := by
  unfold reqAdjustClock
  split <;> exact h.congr rfl rfl rfl rfl rfl rfl

theorem stageSpecialDay (h : SettingsOk s) (day month : Nat) (weekday : Option Nat) :
    SettingsOk (reqStageSpecialDay day month weekday s).1 := by
  obtain ⟨days, ranges⟩ := h.tariff.stagedDays
  unfold reqStageSpecialDay
  dsimp only
  split
  · exact h
  · split
    · exact h
    · next hr =>
      split
      · split
        · have ok : ∀ d ∈ removeDay day month s.tariff.stagedDays, SpecialDayOk d :=
            fun d hd => ranges d (List.mem_filter.1 hd).1
          exact { h with tariff := h.tariff.setStagedDays (days.remove day month) ok }
        · exact h
      · split
        · exact h
        · next room =>
          refine { h with tariff := h.tariff.setStagedDays (days.insert _ room) fun d hd => ?_ }
          rcases mem_insertDay hd with rfl | hd
          · exact specialDayOk_of (Bool.eq_false_iff.mpr hr)
          · exact ranges d hd

/-- R163, R122, R64: a device reset leaves the loaded settings of every pair. -/
theorem resetDevice (h : SettingsOk s) (discard : Bool) :
    SettingsOk (reqResetDevice discard s).1 := by
  unfold reqResetDevice
  split
  · exact h
  · split
    · exact h
    · unfold State.resetBlocks
      dsimp only
      refine SettingsOk.congr (s := allPairs.foldl (State.resetReturnOf s) _) ?_
        rfl rfl rfl rfl rfl rfl
      refine SettingsOk.foldl
        (fun v p _ k => (((Kept.refl v).jamEnds p _).decideLift p).settings k) ?_
      have pair : ∀ p : PairId, (s.pairs.map resetPair)[p] = resetPair (s.pair p) := fun p => by
        simp [State.pair]
      exact
        { h with
          debounce := fun p => by
            rw [State.filter, State.pair, pair]; exact h.debounce p
          timeout := fun p => by rw [State.poller, State.pair, pair]; exact h.timeout p
          threshold := fun p => by rw [State.poller, State.pair, pair]; exact h.threshold p
          capacity := fun p => by rw [State.ballReturn, State.pair, pair]; exact h.capacity p
          jamSeconds := fun p => by rw [State.ballReturn, State.pair, pair]; exact h.jamSeconds p
          orders := fun p => by
            rw [State.poller, State.pair, pair]
            exact ⟨(h.orders p).order, (h.orders p).pendingOrder, (h.orders p).current⟩ }

theorem goRun (h : SettingsOk s) : SettingsOk (reqGoRun s).1 := by
  unfold reqGoRun
  split
  · exact h
  · split
    · exact h
    · exact h.congr rfl rfl rfl rfl rfl rfl

theorem returnSetup (h : SettingsOk s) : SettingsOk (reqReturnSetup s).1 := by
  unfold reqReturnSetup
  split
  · exact h
  · split
    · exact h.congr rfl rfl rfl rfl rfl rfl
    · exact h

/-- The power-on tables lie in their ranges. -/
theorem reset : SettingsOk State.reset := by
  have pair : ∀ p, State.reset.pair p = Initial.pair := fun p => by simp [State.pair, State.reset]
  have days : DaysOk [] := ⟨List.Pairwise.nil, by decide⟩
  have defaults : ∀ c : Fin 8, ClassDefaultOk (Vector.replicate 8 Initial.classDefault)[c] :=
    fun c => by simp only [Fin.getElem_fin, Vector.getElem_replicate]; constructor <;> decide
  exact
    { profiles := fun n => by
        simp only [State.reset, Fin.getElem_fin, Vector.getElem_replicate]
        constructor <;> decide
      debounce := fun p => by rw [State.filter, pair]; constructor <;> decide
      timeout := fun p => by rw [State.poller, pair]; decide
      threshold := fun p => by rw [State.poller, pair]; decide
      capacity := fun p => by rw [State.ballReturn, pair]; decide
      jamSeconds := fun p => by rw [State.ballReturn, pair]; decide
      faultPriority := by decide
      noticePriority := by decide
      defaults := ⟨trivial, by decide, by decide, by decide, by decide, by decide, by decide⟩
      orders := fun p => by
        rw [State.poller, pair]
        exact ⟨by decide, fun _ e => (nomatch e), by decide⟩
      tariff :=
        { table := ⟨by decide, fun _ hp => (nomatch hp)⟩
          activeDefaults := defaults
          activeDays := ⟨days, fun _ hd => (nomatch hd)⟩
          slots := fun n p e => by simp [State.reset, Initial.tariff] at e
          stagedDefaults := defaults
          stagedDays := ⟨days, fun _ hd => (nomatch hd)⟩
          pending := fun _ e => (nomatch e) } }

/-- The tables are in range along every step. -/
theorem stepInvariant : StepInvariant SettingsOk where
  kept k h := k.settings h
  load {i a s} ha hl h := by
    cases i with
    | setLaneMap _ es => cases ha; exact h.setLaneMap es
    | setProfile _ n f => cases ha; exact h.setProfile n f
    | setFaultAction _ xs => cases ha; exact h.setFaultAction xs
    | setNoticePriority _ xs => cases ha; exact h.setNoticePriority xs
    | setPollOrder _ p ns t m => cases ha; exact h.setPollOrder p ns t m
    | setDefaults _ f => cases ha; exact h.setDefaults f
    | setReturn _ xs => cases ha; exact h.setReturn xs
    | setClock _ c => cases ha; exact h.setClock c
    | adjustClock _ => cases ha; exact h.adjustClock
    | stageSpecialDay _ d m w => cases ha; exact h.stageSpecialDay d m w
    | resetDevice _ d => cases ha; exact h.resetDevice d
    | goRun _ => cases ha; exact h.goRun
    | returnSetup _ => cases ha; exact h.returnSetup
    | _ => cases hl
  trunk _ h := h.congr rfl rfl rfl rfl rfl rfl
  sent _ h := h.congr rfl rfl rfl rfl rfl rfl
  taken _ h := h.congr rfl rfl rfl rfl rfl rfl
  pass _ h := h.congr rfl rfl rfl rfl rfl rfl
  tick h := h.congr rfl rfl rfl rfl rfl rfl
  boundary h := h.congr rfl rfl rfl rfl rfl rfl
  reset := reset

end SettingsOk

end Sys2Proof.Machine

open Sys2Proof Sys2Proof.Machine

/-- Settles O7: what a command is made of keeps the tables in their ranges. -/
theorem stepKeepsSettingsInRange : Obligations.StepKeepsSettingsInRange := by
  unfold Obligations.StepKeepsSettingsInRange
  exact fun _ _ h e => SettingsOk.stepInvariant.step h e

end

section
/-! SUPPORT. SET_DEFAULTS (O21): which fields are accepted, and the record they make. -/

namespace Sys2Proof.Machine

open Sys2Proof

/-- A clamp, with the lower limit outside. -/
theorem clampTo_eq {low high : Nat} (n : Nat) (h : low ≤ high) :
    clampTo low high n = max low (min high n) := by
  unfold clampTo; omega

theorem clampTo_zero (high n : Nat) : clampTo 0 high n = min high n := by simp [clampTo]

/-- The listed billing modes are the codes 0 and 1. -/
theorem billingOf_eq_some {n : Nat} {b : Billing} :
    billingOf? n = some b ↔ n ≤ 1 ∧ b = if n = 0 then .game else .time := by
  match n with
  | 0 => simp [billingOf?, eq_comm]
  | 1 => simp [billingOf?, eq_comm]
  | n + 2 => simp [billingOf?]

/-- The listed limit kinds are the codes 0 to 2. -/
theorem limitOf_eq_some {n v : Nat} {k : Limit} :
    limitOf? n v = some k ↔
      n ≤ 2 ∧ k = if n = 0 then .none else if n = 1 then .games v else .minutes v := by
  match n with
  | 0 => simp [limitOf?, eq_comm]
  | 1 => simp [limitOf?, eq_comm]
  | 2 => simp [limitOf?, eq_comm]
  | n + 3 => simp [limitOf?]

theorem classOf_eq_some {n : Nat} {c : Fin 8} : classOf? n = some c ↔ c.val = n := by
  unfold classOf?
  split
  · simp [Fin.ext_iff, eq_comm]
  · next h => simp only [reduceCtorEq, false_iff]; omega

/-- R7: a clamp keeps the kind of a limit, and so what it fits. -/
theorem limitFits_clampLimit (b : Billing) (k : Limit) :
    limitFits b (clampLimit k) = limitFits b k := by
  cases k <;> cases b <;> rfl

/-- R13: the fields are put together exactly where the enumerated ones are listed. -/
theorem termsOf_eq_some {b c w f r m a p q : Nat} {l : Nat × Nat} {x : Resolved}
    (h : termsOf b c l w f r m a p q = some x) :
    ∃ (y : Billing) (d : Fin 8) (k : Limit), billingOf? b = some y ∧ classOf? c = some d ∧
      limitOf? l.1 l.2 = some k ∧ x.terms =
        { billing := y, tariffClass := d, limit := clampLimit k
          warning := clampTo 0 (warningTop k) w
          foulDetection := f == 0, reRackAllowed := r != 0, resume := resumeOf m
          basis := clampTo 0 300 a, percent := clampTo 0 100 p, cap := clampTo 0 300 q } := by
  unfold termsOf at h
  split at h
  · next y d k hy hd hk => cases h; exact ⟨y, d, k, hy, hd, hk, rfl⟩
  · cases h

/-- R7: GAME billing takes no MINUTES limit, and TIME billing no GAMES limit. -/
theorem limitFits_codes {b n v : Nat} {y : Billing} {k : Limit} (hy : billingOf? b = some y)
    (hk : limitOf? n v = some k) :
    limitFits y k = true ↔ ¬ (b = 0 ∧ n = 2) ∧ ¬ (b = 1 ∧ n = 1) := by
  obtain ⟨hb, rfl⟩ := billingOf_eq_some.1 hy
  obtain ⟨hn, rfl⟩ := limitOf_eq_some.1 hk
  interval_cases b <;> interval_cases n <;> simp [limitFits]

/-- R4: fields that are not all listed, or a combination R7 does not allow, are refused. -/
theorem reqSetDefaults_refused {f : DefaultsFields} (s : State)
    (h : ¬ (f.billing ≤ 1 ∧ f.tariffClass ≤ 7 ∧ f.limitKind ≤ 2 ∧
      ¬ (f.billing = 0 ∧ f.limitKind = 2) ∧ ¬ (f.billing = 1 ∧ f.limitKind = 1))) :
    reqSetDefaults f s = (s, refuse .range) := by
  unfold reqSetDefaults
  split
  · rfl
  · next r hr =>
    refine if_neg fun fits => h ?_
    obtain ⟨y, c, k, hy, hc, hk, e⟩ := termsOf_eq_some hr
    rw [e, limitFits_clampLimit, limitFits_codes hy hk] at fits
    have hc8 := c.isLt
    exact ⟨(billingOf_eq_some.1 hy).1, by rw [classOf_eq_some] at hc; omega,
      (limitOf_eq_some.1 hk).1, fits⟩

/-- R4: listed fields that R7 allows together replace the record. -/
theorem reqSetDefaults_accepted {f : DefaultsFields} (s : State) {y : Billing} {c : Fin 8}
    {k : Limit} (hy : billingOf? f.billing = some y) (hc : classOf? f.tariffClass = some c)
    (hk : limitOf? f.limitKind f.limitValue = some k) (fits : limitFits y k = true) :
    ∃ fields, reqSetDefaults f s =
      ({ s with defaults :=
        { terms :=
            { billing := y, tariffClass := c, limit := clampLimit k
              warning := clampTo 0 (warningTop k) f.warning
              foulDetection := f.foulDetection == 0, reRackAllowed := f.reRackAllowed != 0
              resume := resumeOf f.resume
              basis := clampTo 0 300 f.basis, percent := clampTo 0 100 f.percent
              cap := clampTo 0 300 f.cap }
          expiryWait := clampTo 0 30 f.expiryWait } }, ⟨.ok, .clampedFields fields⟩) := by
  simp only [reqSetDefaults, termsOf, hy, hc, hk]
  rw [if_pos ((limitFits_clampLimit y k).trans fits)]
  exact ⟨_, rfl⟩

end Sys2Proof.Machine

open Sys2Proof Sys2Proof.Machine

/-- Settles O21: the two outcomes of the checks of R4. -/
theorem setDefaultsReplacesRecord : Obligations.SetDefaultsReplacesRecord := by
  unfold Obligations.SetDefaultsReplacesRecord
  intro s tag f free
  refine ⟨fun h => exec_of_act rfl free (reqSetDefaults_refused s h) rfl, fun h => ?_⟩
  obtain ⟨hb, hc, hl, fits⟩ := h
  have hy := billingOf_eq_some.2 ⟨hb, rfl⟩
  have hk := (limitOf_eq_some (v := f.limitValue)).2 ⟨hl, rfl⟩
  have hd : classOf? f.tariffClass = some ⟨f.tariffClass, by omega⟩ := classOf_eq_some.2 rfl
  obtain ⟨fields, e⟩ := reqSetDefaults_accepted s hy hd hk ((limitFits_codes hy hk).2 fits)
  refine ⟨⟨f.tariffClass, by omega⟩, fields, rfl, (exec_of_act rfl free e rfl).trans ?_⟩
  have limit : clampLimit (if f.limitKind = 0 then .none
        else if f.limitKind = 1 then .games f.limitValue else .minutes f.limitValue) =
      if f.limitKind = 0 then .none
      else if f.limitKind = 1 then .games (max 1 (min 255 f.limitValue))
      else .minutes (max 1 (min 1440 f.limitValue)) := by
    split
    · rfl
    · split <;> simp only [clampLimit, clampTo_eq _ (show 1 ≤ 255 by decide),
        clampTo_eq _ (show 1 ≤ 1440 by decide)]
  have warning : clampTo 0 (warningTop (if f.limitKind = 0 then .none
        else if f.limitKind = 1 then .games f.limitValue else .minutes f.limitValue)) f.warning =
      if f.limitKind = 0 then 0
      else if f.limitKind = 1 then min 15 f.warning else min 60 f.warning := by
    split
    · simp [warningTop, clampTo_zero]
    · split <;> simp only [warningTop, clampTo_zero]
  simp only [limit, warning, clampTo_zero, resumeOf, bne, beq_eq_decide, ne_eq, decide_not]

end

section
/-! SUPPORT. ADD_BOWLER (O37): the record it appends. -/

namespace Sys2Proof.Machine

open Sys2Proof

/-- R16: an accepted ADD_BOWLER appends the record of its entry. -/
theorem reqAddBowler_accepted {s : State} {n : Nat} {e : BowlerEntry} {i : SessionId} {x : Session}
    {b : Bowler} (run : s.device = .run) (hx : s.sessionInUse? n = some (i, x))
    (live : x.state ≠ .closing) (room : x.bowlers.length < 8)
    (hb : bowlerOf? e true (newGame x.game
      (Config.joiningHandicap (i.val + 1) (x.bowlers.length + 1) x.game).val) = some b) :
    reqAddBowler n e s = (s.setSession i (some { x with bowlers := x.bowlers ++ [b] }),
      ⟨.ok, .slot (x.bowlers.length + 1) (bowlerClamps 1 (x.bowlers.length + 1) e)⟩) := by
  unfold reqAddBowler
  rw [if_neg (not_not_intro run), hx]
  dsimp only
  rw [if_neg live, if_neg (Nat.not_le.2 room), hb]

/-- R11, R16: the record of an entry whose handicap mode is listed. -/
theorem bowlerOf_eq_some (e : BowlerEntry) (joins : Bool) (g : Game) {h : HandicapMode}
    (hh : handicapModeOf? e.modeCode e.fixedValue = some h) :
    bowlerOf? e joins g = some
      { handle := e.handle, member := true, joinsNext := joins, withdrawalPending := false
        average := clampTo 0 300 e.average, handicapMode := h, game := g, gamesCompleted := 0
        totals := [] } := by
  rw [bowlerOf?, hh, Option.map_some]

/-- The handicap modes by their codes, a FIXED handicap clamped (R13). -/
theorem handicapModeOf_eq {code value : Nat} {h : HandicapMode}
    (e : handicapModeOf? code value = some h) :
    code = 0 ∧ h = .none ∨ code = 1 ∧ h = .fixed (min 300 value) ∨ code = 2 ∧ h = .basis := by
  match code with
  | 0 => cases e; exact .inl ⟨rfl, rfl⟩
  | 1 => cases e; exact .inr (.inl ⟨rfl, by rw [clampTo_zero]⟩)
  | 2 => cases e; exact .inr (.inr ⟨rfl, rfl⟩)
  | n + 3 => cases e

end Sys2Proof.Machine

open Sys2Proof Sys2Proof.Machine

/-- Settles O37: the record made of the entry is the one appended. -/
theorem addBowlerAppendsRecord : Obligations.AddBowlerAppendsRecord := by
  unfold Obligations.AddBowlerAppendsRecord
  intro s tag n e i x h free run hx live room hh
  have hb := bowlerOf_eq_some e true (newGame x.game
    (Config.joiningHandicap (i.val + 1) (x.bowlers.length + 1) x.game).val) hh
  refine ⟨_, exec_of_act rfl free (reqAddBowler_accepted run hx live room hb) rfl, rfl, rfl, rfl, rfl,
    clampTo_zero _ _, ?_, rfl, rfl, rfl, rfl, rfl, rfl⟩
  rcases handicapModeOf_eq hh with ⟨hc, rfl⟩ | ⟨hc, rfl⟩ | ⟨hc, rfl⟩ <;> rw [hc] <;> rfl

end

section
/-! SUPPORT. Decisions about the equipment of one pair, update by update: what each of them leaves is
read off by one induction. Beside it, what the arming check, the lift and the beginning of a sequence
leave, and that `OnPair` goes along with an update of both its states. -/

namespace Sys2Proof.Machine

open Sys2Proof

/-! ## Updates one after another -/

theorem setSession_setSession (s : State) (i : SessionId) (x y : Option Session) :
    (s.setSession i x).setSession i y = s.setSession i y := by
  simp [State.setSession]

theorem setSession_comm (s : State) {i j : SessionId} (h : i ≠ j) (x y : Option Session) :
    (s.setSession i x).setSession j y = (s.setSession j y).setSession i x := by
  simp only [State.setSession]
  rw [Vector.set_comm _ _ fun e => h (Fin.ext e)]

theorem setLane_setLane (s : State) (l : LaneId) (x y : Lane) :
    (s.setLane l x).setLane l y = s.setLane l y := by
  simp [State.setLane]

theorem setLane_comm (s : State) {l k : LaneId} (h : l ≠ k) (x y : Lane) :
    (s.setLane l x).setLane k y = (s.setLane k y).setLane l x := by
  simp only [State.setLane]
  rw [Vector.set_comm _ _ fun e => h (Fin.ext e)]

theorem modEntry_modEntry (s : State) (l : LaneId) (f g : LaneEntry → LaneEntry) :
    (s.modEntry l f).modEntry l g = s.modEntry l fun e => g (f e) := by
  simp only [State.modEntry, State.entry, lane_setLane_self, setLane_setLane]

theorem lane_modEntry (s : State) (l k : LaneId) (f : LaneEntry → LaneEntry) :
    (s.modEntry l f).lane k =
      if k = l then { s.lane k with entry := f (s.entry k) } else s.lane k := by
  simp only [State.modEntry, lane_setLane]
  split
  · next h => rw [h]
  · rfl

theorem lane_modSupervisor (s : State) (l k : LaneId) (f : Supervisor → Supervisor) :
    (s.modSupervisor l f).lane k =
      if k = l then { s.lane k with supervisor := f (s.supervisor k) } else s.lane k := by
  simp only [State.modSupervisor, lane_setLane]
  split
  · next h => rw [h]
  · rfl

theorem lane_modMeter (s : State) (l k : LaneId) (f : Meter → Meter) :
    (s.modMeter l f).lane k =
      if k = l then { s.lane k with meter := f (s.meter k) } else s.lane k := by
  simp only [State.modMeter, lane_setLane]
  split
  · next h => rw [h]
  · rfl

theorem faults_modEntry (s : State) (l k : LaneId) (f : LaneEntry → LaneEntry) :
    ((s.modEntry l f).lane k).faults = (s.lane k).faults := by
  rw [lane_modEntry]; split <;> rfl

theorem modEntry_comm (s : State) {l k : LaneId} (h : l ≠ k) (f g : LaneEntry → LaneEntry) :
    (s.modEntry l f).modEntry k g = (s.modEntry k g).modEntry l f := by
  simp only [State.modEntry, State.entry, lane_setLane, if_neg h, if_neg h.symm]
  exact setLane_comm s h _ _

theorem modEntry_setSession (s : State) (i : SessionId) (x : Option Session) (l : LaneId)
    (f : LaneEntry → LaneEntry) :
    (s.setSession i x).modEntry l f = (s.modEntry l f).setSession i x := rfl

/-- A session in use replaced by itself. -/
theorem setSession_session {s : State} {i : SessionId} {x : Option Session}
    (h : s.session i = x) : s.setSession i x = s := by
  subst h
  simp [State.setSession, State.session]

theorem modSession_eq {s : State} {i : SessionId} {x : Session} (h : s.session i = some x)
    (f : Session → Session) : s.modSession i f = s.setSession i (some (f x)) := by
  rw [State.modSession, h, Option.map_some]

/-! ## `OnPair` along an update of both states -/

namespace OnPair

variable {p : PairId} {s t : State}

theorem setSession_congr (h : OnPair p s t) (i : SessionId) (x : Option Session) :
    OnPair p (s.setSession i x) (t.setSession i x) :=
  { h with others := by rw [h.others]; rfl }

theorem modSession_congr (h : OnPair p s t) (i : SessionId) (f : Session → Session) :
    OnPair p (s.modSession i f) (t.modSession i f) := by
  rw [State.modSession, State.modSession, h.session]
  exact h.setSession_congr i _

theorem modEntry_congr (h : OnPair p s t) (l : LaneId) (f : LaneEntry → LaneEntry) :
    OnPair p (s.modEntry l f) (t.modEntry l f) where
  others := by rw [h.others]; rfl
  lanes := fun k hk => by
    rw [lane_modEntry, lane_modEntry, h.lanes k hk, State.entry, h.lanes k hk, State.entry]
  pairs := h.pairs
  entry := fun k => by rw [entry_modEntry, entry_modEntry, h.entry]
  meter := fun k => by rw [meter_modEntry, meter_modEntry, h.meter]
  classes := fun k => by
    rw [lane_modEntry, lane_modEntry]; split
    · exact h.classes k
    · exact h.classes k
  pairFaults := h.pairFaults
  pitCount := fun k => by rw [tracker_modEntry, tracker_modEntry, h.pitCount]
  filter := h.filter
  track := h.track
  poll := h.poll

end OnPair

/-! ## What the arming check leaves (R90) -/

section Arming

variable (s : State) (l k : LaneId)

theorem supervisor_armingCheck : (s.armingCheck l).supervisor k = s.supervisor k := by
  obtain ⟨x, _, e⟩ := armingCheck_spec s l
  rw [e, supervisor_modTracker]

theorem faults_armingCheck : ((s.armingCheck l).lane k).faults = (s.lane k).faults := by
  obtain ⟨x, _, e⟩ := armingCheck_spec s l
  rw [e, lane_modTracker]
  split <;> rfl

/-- The arming check changes the lanes alone. -/
theorem armingCheck_others : s.armingCheck l = { s with lanes := (s.armingCheck l).lanes } := by
  obtain ⟨x, _, e⟩ := armingCheck_spec s l
  rw [e]
  rfl

theorem pair_armingCheck (q : PairId) : (s.armingCheck l).pair q = s.pair q := by
  rw [armingCheck_others]; rfl

theorem session_armingCheck (i : SessionId) : (s.armingCheck l).session i = s.session i := by
  rw [armingCheck_others]; rfl

theorem notices_armingCheck : (s.armingCheck l).notices = s.notices := by
  rw [armingCheck_others]

theorem Rearmed.inFlight {x y : Tracker} (h : Rearmed x y) :
    Machine.inFlight y.play = Machine.inFlight x.play := by
  rcases h with rfl | ⟨h, rfl⟩ | ⟨h, rfl⟩
  · rfl
  · rw [h]; rfl
  · rw [h]; rfl

/-- R18: the arming check does not make a ball come or go. -/
theorem inFlight_armingCheck :
    inFlight ((s.armingCheck l).tracker k).play = inFlight (s.tracker k).play := by
  obtain ⟨x, hx, e⟩ := armingCheck_spec s l
  rw [e, tracker_modTracker]
  split
  · next h => subst h; exact hx.inFlight
  · rfl

end Arming

/-! ## What the lift leaves (R127, R128) -/

section Lift

variable (s : State) (p : PairId)

theorem laneIoAddr_ne_pinsetter (d : Side) : pinsetterAddr d ≠ laneIoAddr := by
  cases d <;> decide

/-- A command placed on a node leaves the other nodes. -/
theorem node_place {s : State} {p : PairId} {a b : NodeAddr} (h : b ≠ a) (q : PairId) (c : Command) :
    (s.place p a c).node q b = s.node q b := by
  unfold State.place
  split
  · rw [node_modNode, if_neg fun e => h e.2]
  · rfl

theorem lanes_place (a : NodeAddr) (c : Command) : (s.place p a c).lanes = s.lanes := by
  unfold State.place
  split <;> rfl

theorem lanes_placeOutputs : (s.placeOutputs p).lanes = s.lanes := by
  unfold State.placeOutputs
  split
  · exact lanes_place s p _ _
  · rfl

theorem node_placeOutputs {a : NodeAddr} (h : a ≠ laneIoAddr) (q : PairId) :
    (s.placeOutputs p).node q a = s.node q a := by
  unfold State.placeOutputs
  split
  · exact node_place h q _
  · rfl

/-- The lift decides nothing about the lanes. -/
theorem lanes_decideLift : (s.decideLift p).lanes = s.lanes := by
  unfold State.decideLift
  dsimp only
  split
  · rfl
  · exact lanes_placeOutputs _ p

theorem lane_decideLift (k : LaneId) : (s.decideLift p).lane k = s.lane k := by
  simp only [State.lane, lanes_decideLift]

/-- The lift speaks to the lane I/O node alone. -/
theorem node_decideLift {a : NodeAddr} (h : a ≠ laneIoAddr) (q : PairId) :
    (s.decideLift p).node q a = s.node q a := by
  have modReturn : ∀ (u : State) (f : BallReturn → BallReturn), (u.modReturn p f).node q a = u.node q a :=
    fun u f => by simp only [State.node, poller_modReturn]
  unfold State.decideLift
  dsimp only
  split
  · exact modReturn _ _
  · refine (modReturn _ _).trans ((node_placeOutputs _ p h q).trans ?_)
    exact (node_raise _ _ _ _ _).trans ((modReturn _ _).trans (modReturn _ _))

theorem supervisor_laneChanged (l k : LaneId) : (s.laneChanged l).supervisor k = s.supervisor k := by
  rw [State.laneChanged, supervisor_armingCheck, State.supervisor, lane_decideLift, State.supervisor]

theorem node_laneChanged (l : LaneId) {a : NodeAddr} (h : a ≠ laneIoAddr) (q : PairId) :
    (s.laneChanged l).node q a = s.node q a := by
  rw [State.laneChanged, State.node, State.poller, pair_armingCheck]
  exact node_decideLift s _ h q

theorem pinsetter_armingCheck (l k : LaneId) : (s.armingCheck l).pinsetter k = s.pinsetter k := by
  rw [State.pinsetter, State.node, State.poller, pair_armingCheck]
  rfl

theorem pinsetter_decideLift (k : LaneId) : (s.decideLift p).pinsetter k = s.pinsetter k :=
  node_decideLift s p (laneIoAddr_ne_pinsetter _) _

theorem pinsetter_laneChanged (l k : LaneId) : (s.laneChanged l).pinsetter k = s.pinsetter k :=
  node_laneChanged s l (laneIoAddr_ne_pinsetter _) _

end Lift

/-! ## What a sequence begins with (R82, R84) -/

/-- An empty slot takes any command. -/
theorem slotTakes_of_empty {n : Node} (h : n.slot = none) (c : Command) : slotTakes n c = true := by
  simp only [slotTakes, h]

/-- A sequence begun: the lane's supervisor runs it, and its command is in the slot. -/
theorem beginSequence_takes {s : State} {l : LaneId} {k : Sequence} (m : Option RestartMark)
    (h : slotTakes (s.pinsetter l) (sequenceCommand k ((s.supervisor l).cycle + 1)) = true) :
    (s.beginSequence l k m).supervisor l = newSequence k m (s.supervisor l) ∧
      (s.beginSequence l k m).pinsetter l =
        putCommand (sequenceCommand k ((s.supervisor l).cycle + 1)) (s.pinsetter l) := by
  have placed : (s.modSupervisor l (newSequence k m)).place (pairOf l) (pinsetterAddr (sideOf l))
      (sequenceCommand k ((s.supervisor l).cycle + 1)) =
        (s.modSupervisor l (newSequence k m)).modNode (pairOf l) (pinsetterAddr (sideOf l))
          (putCommand (sequenceCommand k ((s.supervisor l).cycle + 1))) := if_pos h
  unfold State.beginSequence
  dsimp only
  rw [if_pos h, placed, supervisor_laneChanged, pinsetter_laneChanged]
  constructor
  · exact (supervisor_modSupervisor _ _ _ _).trans (if_pos rfl)
  · exact (node_modNode _ _ _ _ _ _).trans (if_pos ⟨rfl, rfl⟩)

/-- A lane's faults decide its effective action and its credit. -/
theorem faultsOn_congr {s t : State} {l : LaneId} (h : (t.lane l).faults = (s.lane l).faults)
    (k : (t.pair (pairOf l)).faults = (s.pair (pairOf l)).faults) :
    t.belowHold l = s.belowHold l ∧ t.belowStop l = s.belowStop l ∧ t.credit l = s.credit l := by
  have e : t.faultsOn l = s.faultsOn l := by rw [State.faultsOn, State.faultsOn, h, k]
  simp only [State.belowHold, State.belowStop, State.credit, State.effective, e]
  exact ⟨rfl, rfl, trivial⟩

end Sys2Proof.Machine
end

section
/-! SUPPORT. `Decides p s t`: `t` comes from `s` by decisions about the equipment of pair `p`, one named
update after another. One lemma for each operation says that it decides; what all of them leave (the
notices pending, the poll orders) is one induction each. -/

namespace Sys2Proof.Machine

open Sys2Proof

/-- Decisions about the equipment of pair `p`, update by update. -/
inductive Decides (p : PairId) (s : State) : State → Prop
  | refl : Decides p s s
  | raise {t : State} (n : Nat) (x : NoticePayload) : Decides p s t → Decides p s (t.raise n x)
  | modSupervisor {t : State} (l : LaneId) (f : Supervisor → Supervisor) :
      Decides p s t → Decides p s (t.modSupervisor l f)
  | modTracker {t : State} (l : LaneId) (f : Tracker → Tracker) :
      Decides p s t → Decides p s (t.modTracker l f)
  | endStepConditions {t : State} (l : LaneId) : Decides p s t → Decides p s (t.endStepConditions l)
  | modNode {t : State} (a : NodeAddr) (f : Node → Node) :
      Decides p s t → Decides p s (t.modNode p a f)
  | modReturn {t : State} (f : BallReturn → BallReturn) :
      Decides p s t → Decides p s (t.modReturn p f)

/-- The source and kind of a notice: one entry of the pending notice set (R178). -/
def noticeKey (n : Notice) : Nat × NoticeKind := (n.source, payloadKind n.payload)

/-- A raise leaves the sources and kinds that are pending, and adds its own. -/
theorem mem_keys_addNotice {n : Nat} {x : NoticePayload} {w : Nat} {ns : List Notice}
    {k : Nat × NoticeKind} (h : k ∈ ns.map noticeKey ∨ k = (n, payloadKind x)) :
    k ∈ (addNotice n x w ns).map noticeKey := by
  have e : (addNotice n x w ns).map noticeKey =
      if (n, payloadKind x) ∈ ns.map noticeKey then ns.map noticeKey
      else ns.map noticeKey ++ [(n, payloadKind x)] := keys_addNotice n x w ns
  rw [e]
  split
  · next held => exact h.elim id fun hk => hk ▸ held
  · exact List.mem_append.2 (h.imp id List.mem_singleton.2)

namespace Decides

variable {p : PairId} {l : LaneId} {s u : State}

theorem trans {t : State} (h : Decides p s t) (k : Decides p t u) : Decides p s u := by
  induction k with
  | refl => exact h
  | raise n x _ ih => exact ih.raise n x
  | modSupervisor l f _ ih => exact ih.modSupervisor l f
  | modTracker l f _ ih => exact ih.modTracker l f
  | endStepConditions l _ ih => exact ih.endStepConditions l
  | modNode a f _ ih => exact ih.modNode a f
  | modReturn f _ ih => exact ih.modReturn f

/-! ## What decisions leave -/

/-- Nothing that is pending leaves the notice set (R178). -/
theorem keys (h : Decides p s u) {k : Nat × NoticeKind} (hk : k ∈ s.notices.map noticeKey) :
    k ∈ u.notices.map noticeKey := by
  induction h with
  | refl => exact hk
  | raise n x _ ih => exact mem_keys_addNotice (.inl ih)
  | modSupervisor | modTracker | endStepConditions | modNode | modReturn => assumption

/-- The pollers keep all but their nodes. -/
theorem poller (h : Decides p s u) (q : PairId) :
    u.poller q = { s.poller q with nodes := (u.poller q).nodes } := by
  induction h with
  | refl => rfl
  | raise | modSupervisor | modTracker | endStepConditions => assumption
  | modNode a f _ ih =>
    rw [State.modNode, poller_modPoller]
    split
    · rw [ih]
    · exact ih
  | modReturn f _ ih => rw [poller_modReturn]; exact ih

/-! ## Machine/Slots.lean -/

theorem place (h : Decides p s u) (a : NodeAddr) (c : Command) : Decides p s (u.place p a c) := by
  unfold State.place
  split
  · exact h.modNode a _
  · exact h

theorem armingCheck (h : Decides p s u) (l : LaneId) : Decides p s (u.armingCheck l) := by
  obtain ⟨x, _, e⟩ := armingCheck_spec u l
  rw [e]
  exact h.modTracker l _

theorem decideLift (h : Decides p s u) : Decides p s (u.decideLift p) := by
  unfold State.decideLift
  dsimp only
  split
  · exact h.modReturn _
  · refine modReturn _ ?_
    unfold State.placeOutputs
    split
    · exact (((h.modReturn _).modReturn _).raise _ _).place _ _
    · exact ((h.modReturn _).modReturn _).raise _ _

theorem laneChanged (h : Decides (pairOf l) s u) : Decides (pairOf l) s (u.laneChanged l) :=
  h.decideLift.armingCheck l

/-! ## Machine/Supervisor.lean -/

theorem raiseMachineState (h : Decides p s u) : Decides p s (u.raiseMachineState l) := h.raise _ _

theorem endUnfinished (h : Decides p s u) : Decides p s (u.endUnfinished l) := by
  unfold State.endUnfinished
  split
  · exact h
  · exact (h.modSupervisor l _).endStepConditions l

theorem setFollowOn (h : Decides p s u) (f : FollowOn) : Decides p s (u.setFollowOn l f) := by
  unfold State.setFollowOn
  split
  · exact h
  · exact (h.modSupervisor l _).raiseMachineState

theorem discardOwed (h : Decides p s u) : Decides p s (u.discardOwed l) := by
  unfold State.discardOwed
  split
  · exact h
  · exact (h.modSupervisor l _).raiseMachineState
  · exact (h.modSupervisor l _).raiseMachineState

theorem clearStart (h : Decides p s u) : Decides p s (u.clearStart l) := by
  unfold State.clearStart
  split
  · exact h.setFollowOn _
  · exact h

theorem cancelPark (h : Decides p s u) : Decides p s (u.cancelPark l) := by
  rcases cancelPark_cases u l with e | e <;> rw [e]
  · exact h.modSupervisor l _
  · exact (h.modSupervisor l _).raiseMachineState

theorem beginSequence (h : Decides (pairOf l) s u) (k : Sequence) (m : Option RestartMark) :
    Decides (pairOf l) s (u.beginSequence l k m) := by
  unfold State.beginSequence
  dsimp only
  split
  · exact (((h.modSupervisor l _).place _ _).raiseMachineState).laneChanged
  · exact h

theorem oweStop (h : Decides (pairOf l) s u) (k : StopKind) :
    Decides (pairOf l) s (u.oweStop l k) :=
  ((((h.modNode _ _).endUnfinished).modSupervisor l _).discardOwed.raiseMachineState).laneChanged

theorem placeStop (h : Decides (pairOf l) s u) (k : StopKind) :
    Decides (pairOf l) s (u.placeStop l k) := by
  unfold State.placeStop
  split
  · exact h.oweStop k
  · split
    · exact ((h.endUnfinished.modSupervisor l _).beginSequence _ _).discardOwed
    · exact h.modSupervisor l _

theorem runNeed (h : Decides (pairOf l) s u) (n : Need) : Decides (pairOf l) s (u.runNeed l n) :=
  (h.modSupervisor l _).beginSequence _ _

theorem followPark (h : Decides (pairOf l) s u) : Decides (pairOf l) s (u.followPark l) := by
  unfold State.followPark
  split
  · exact (h.modSupervisor l _).placeStop _
  · exact h

theorem needTaken (h : Decides p s u) : Decides p s (u.needTaken l) := by
  unfold State.needTaken
  split
  · exact h.modTracker l _
  all_goals exact h

theorem takeNeed (h : Decides (pairOf l) s u) (n : Need) : Decides (pairOf l) s (u.takeNeed l n) := by
  unfold State.takeNeed
  refine (armingCheck (needTaken ?_) l).followPark
  split
  · split
    · exact h.runNeed n
    · exact (h.modSupervisor l _).raiseMachineState
  · split
    · exact h.setFollowOn _
    · exact h
  all_goals exact h

theorem handNeed (h : Decides (pairOf l) s u) (n : Need) : Decides (pairOf l) s (u.handNeed l n) := by
  unfold State.handNeed
  split
  · exact (h.modSupervisor l _).raiseMachineState
  · split
    · exact h.modSupervisor l _
    · exact h.takeNeed n

theorem holderArrives (h : Decides (pairOf l) s u) : Decides (pairOf l) s (u.holderArrives l) := by
  unfold State.holderArrives
  refine armingCheck ?_ l
  split
  · split
    · exact h.cancelPark.beginSequence _ _
    · exact h.cancelPark.beginSequence _ _
    · exact h.cancelPark.setFollowOn _
    all_goals exact h.cancelPark
  · exact h.cancelPark

theorem sessionEnds (h : Decides (pairOf l) s u) : Decides (pairOf l) s (u.sessionEnds l) := by
  unfold State.sessionEnds
  refine armingCheck ?_ l
  split
  all_goals first
    | exact h.clearStart
    | exact h
    | (split; exacts [h.placeStop _, h.setFollowOn _])

end Decides

end Sys2Proof.Machine
end

section
/-! SUPPORT. OPEN_LANE (O35): the record that game 1 makes of a new session, the warning test, and the
machine that a holder starts. -/

namespace Sys2Proof.Machine

open Sys2Proof

/-! ## A new session (R25, R40) -/

/-- R11, R13: the bowlers of a list are members with nothing played yet. -/
theorem bowlersOf_eq_some {es : List BowlerEntry} :
    ∀ {bs : List Bowler}, bowlersOf? es = some bs → bs.length = es.length ∧
      ∀ b ∈ bs, b.member = true ∧ b.withdrawalPending = false ∧ b.gamesCompleted = 0 ∧
        b.totals = [] := by
  induction es with
  | nil => intro bs h; cases h; simp
  | cons e es ih =>
    intro bs h
    simp only [bowlersOf?] at h
    split at h
    · next b cs hb hcs =>
      cases h
      obtain ⟨m, _, rfl⟩ := Option.map_eq_some_iff.1 hb
      obtain ⟨hl, hm⟩ := ih hcs
      exact ⟨by simp [hl], List.forall_mem_cons.2 ⟨⟨rfl, rfl, rfl, rfl⟩, hm⟩⟩
    · cases h

/-- R13: a resolved limit lies in the range of its kind. -/
theorem limitOk_resolveTerms {d : Terms} {m : Option Terms} {t : TermSelectors} {r : Resolved}
    (h : resolveTerms d m t = some r) : LimitOk r.terms.limit := by
  unfold resolveTerms at h
  split at h
  · obtain ⟨y, c, k, _, _, _, e⟩ := termsOf_eq_some h
    rw [e]
    exact limitOk_clamp k
  · cases h

/-- R38: no game is charged yet, so no limit is reached. -/
theorem gamesLimitReached_new {mode : Mode} {l : LaneId} {t : Terms} {bs : List Bowler} {c : Bool}
    {w : Nat} (h : LimitOk t.limit) : gamesLimitReached (newSession mode l t bs c w) = false := by
  have e : ∀ k, t.limit = k → LimitOk k → gamesLimitReached (newSession mode l t bs c w) = false := by
    intro k hk ok
    simp only [gamesLimitReached, newSession, hk, newBilling]
    cases k with
    | none => rfl
    | games n => exact decide_eq_false (by have := ok.1; omega)
    | minutes n => rfl
  exact e _ rfl h

/-- R40: a bowler whose game starts with the turn. -/
def onTurn (x : Session) (b : Bowler) : Bowler :=
  { joinGame x b with game := { (joinGame x b).game with status := .inProgress } }

/-- R40: game 1 of a session whose bowlers are all members: the first of them has the turn. -/
theorem startGame_members {x : Session} {b : Bowler} {bs : List Bowler} (hx : x.bowlers = b :: bs)
    (hb : b.member = true) (hl : gamesLimitReached x = false) :
    startGame x =
      ({ x with
          takingPart := memberSlots x, bowlers := onTurn x b :: bs.map (joinGame x), frame := 1
          slot := some 1, nextBall := firstBallOf 1 1 }, false) := by
  have slots : ∃ ks, memberSlots x = 1 :: ks := by
    simp [memberSlots, hx, hb, List.zipIdx_cons]
  obtain ⟨ks, hks⟩ := slots
  have status : ∀ y : Session, y.bowlers = joinGame x b :: bs.map (joinGame x) →
      gameStatus y 1 = some .notStarted := fun y hy => by
    simp [gameStatus, bowlerAt, nth1, hy, joinGame, hb, newGame]
  simp only [startGame, hks, hx, List.map_cons, findFrameOne]
  rw [status _ rfl]
  have reached : gamesLimitReached { x with
      takingPart := 1 :: ks, bowlers := joinGame x b :: bs.map (joinGame x), frame := 1 } = false := hl
  simp only [reached, Bool.false_eq_true, if_false, limitCheck, modGame, modBowler]
  rfl

/-- R25, R40: every bowler of a started game 1 is a member with ten frames to bowl. -/
theorem joined_new {x : Session} {b c : Bowler} (hm : b.member = true) (hg : x.game = 1)
    (hc : c = joinGame x b ∨ c = onTurn x b) :
    c.member = true ∧ c.joinsNext = false ∧ c.withdrawalPending = b.withdrawalPending ∧
      c.gamesCompleted = b.gamesCompleted ∧ c.totals = b.totals ∧ c.game.number = 1 ∧
      c.game.handicap = handicapOf x.terms c ∧ c.game.charged = false ∧
      c.game.frames = List.replicate 10 ⟨.notBowled, [], none, none⟩ := by
  rcases hc with rfl | rfl <;> simp [onTurn, joinGame, hm, newGame, hg, emptyFrame, handicapOf]

/-! ## The warning test (R156) -/

theorem warningTest_cases {s : State} {i : SessionId} {x : Session} (hx : s.session i = some x) :
    s.warningTest i = s ∨ ∃ n p, s.warningTest i =
      (s.setSession i (some { x with billing := { x.billing with warned := true } })).raise n p := by
  unfold State.warningTest
  rw [hx]
  dsimp only
  split
  · exact .inl rfl
  · split
    · rw [modSession_eq hx]; exact .inr ⟨_, _, rfl⟩
    · exact .inl rfl

theorem warningTest_equipment (s : State) (i : SessionId) :
    (s.warningTest i).lanes = s.lanes ∧ (s.warningTest i).pairs = s.pairs := by
  cases hx : s.session i with
  | none => simp only [State.warningTest, hx, and_self]
  | some x => rcases warningTest_cases hx with e | ⟨n, p, e⟩ <;> rw [e] <;> exact ⟨rfl, rfl⟩

theorem raiseSessionState_equipment (s : State) (i : SessionId) (k : Option LaneId) :
    (s.raiseSessionState i k).lanes = s.lanes ∧ (s.raiseSessionState i k).pairs = s.pairs := by
  unfold State.raiseSessionState
  split <;> exact ⟨rfl, rfl⟩

/-- The warning test marks the session warned at most. -/
theorem OnPair.warningTest {p : PairId} {s u : State} (h : OnPair p s u) {i : SessionId} {x : Session}
    (hx : s.session i = some x) :
    ∃ w, OnPair p (s.setSession i (some { x with billing := { x.billing with warned := w } }))
      (u.warningTest i) := by
  rcases warningTest_cases ((h.session i).trans hx) with e | ⟨n, y, e⟩ <;> rw [e]
  · refine ⟨x.billing.warned, ?_⟩
    rwa [setSession_session hx]
  · exact ⟨true, (h.setSession_congr i _).raise n y⟩

/-! ## A holder arrives (R96) -/

theorem supervisor_cancelPark (s : State) (l : LaneId) :
    (s.cancelPark l).supervisor l = unparked (s.supervisor l) := by
  rcases cancelPark_cases s l with e | e <;> rw [e]
  · rw [supervisor_modSupervisor, if_pos rfl]
  · exact (supervisor_modSupervisor _ _ _ _).trans (if_pos rfl)

theorem pairs_cancelPark (s : State) (l : LaneId) : (s.cancelPark l).pairs = s.pairs := by
  rcases cancelPark_cases s l with e | e <;> rw [e] <;> rfl

theorem faults_cancelPark (s : State) (l k : LaneId) :
    ((s.cancelPark l).lane k).faults = (s.lane k).faults := by
  have h : ((s.modSupervisor l unparked).lane k).faults = (s.lane k).faults := by
    rw [lane_modSupervisor]; split <;> rfl
  rcases cancelPark_cases s l with e | e <;> rw [e] <;> exact h

theorem belowStop_cancelPark (s : State) (l k : LaneId) :
    (s.cancelPark l).belowStop k = s.belowStop k := by
  refine (faultsOn_congr (faults_cancelPark s l k) ?_).2.1
  simp only [State.pair, pairs_cancelPark]

/-- R96, R14: below STOP, a machine that is OFF or PARKED begins START. -/
theorem holderArrives_starts {s : State} {l : LaneId} (below : s.belowStop l = true)
    (rest : (s.supervisor l).machine = .off ∨ (s.supervisor l).machine = .parked)
    (empty : (s.pinsetter l).slot = none) :
    ((s.holderArrives l).supervisor l).machine = .starting ∧
      ((s.holderArrives l).pinsetter l).slot = some ⟨.cycle .start ((s.supervisor l).cycle + 1),
        (s.pinsetter l).nextSerial, none⟩ := by
  have pin : (s.cancelPark l).pinsetter l = s.pinsetter l := by
    simp only [State.pinsetter, State.node, State.poller, State.pair, pairs_cancelPark]
  have takes := slotTakes_of_empty (pin ▸ empty)
    (sequenceCommand .start (((s.cancelPark l).supervisor l).cycle + 1))
  obtain ⟨hv, hn⟩ := beginSequence_takes none takes
  have begun : s.holderArrives l = ((s.cancelPark l).beginSequence l .start none).armingCheck l := by
    unfold State.holderArrives
    dsimp only
    rw [belowStop_cancelPark, if_pos below, supervisor_cancelPark, unparked_machine]
    rcases rest with e | e <;> rw [e]
  rw [begun, supervisor_armingCheck, pinsetter_armingCheck, hv, hn, supervisor_cancelPark, pin]
  exact ⟨rfl, rfl⟩

/-- R96: at STOP or above, the machine stands. -/
theorem holderArrives_stands {s : State} {l : LaneId} (below : s.belowStop l = false) :
    ((s.holderArrives l).supervisor l).machine = (s.supervisor l).machine := by
  unfold State.holderArrives
  dsimp only
  rw [belowStop_cancelPark, below, if_neg Bool.false_ne_true, supervisor_armingCheck,
    supervisor_cancelPark, unparked_machine]

/-! ## OPEN_LANE -/

theorem reqOpenLane_accepted {s : State} {n : Nat} {sel : TermSelectors} {es : List BowlerEntry}
    {l : LaneId} {r : Resolved} {bs : List Bowler} {i : SessionId} {free : List SessionId}
    (run : s.device = .run) (hl : s.mappedLane? n = some l) (closed : (s.entry l).state = .closed)
    (target : s.isMoveTarget l = false) (machine : openableMachine (s.supervisor l).machine = true)
    (hr : resolveTerms s.defaults.terms (s.entry l).memory sel = some r)
    (hb : bowlersOf? es = some bs) (one : 1 ≤ es.length) (eight : es.length ≤ 8)
    (fits : limitFits r.terms.billing r.terms.limit = true) (hi : s.freeSessions = i :: free) :
    reqOpenLane n sel es s =
      (s.openLane l i r.terms bs, ⟨.ok, .opened i (r.clamped ++ listClamps 1 es)⟩) := by
  have list : listFits es = true := decide_eq_true ⟨one, eight⟩
  simp [reqOpenLane, run, hl, closed, target, machine, hr, hb, list, fits, hi]

/-- R6, R14, R25: the record of OPEN_LANE, its lane, and decisions about the equipment of the pair. -/
theorem openLane_opened (s : State) (l : LaneId) (i : SessionId) (t : Terms) (bs : List Bowler) :
    let y := (startGame (newSession .single l t bs (s.credit l) s.defaults.expiryWait)).1
    ∃ w, OnPair (pairOf l)
      ((s.setSession i (some { y with billing := { y.billing with warned := w } })).modEntry l
        fun e => { e with state := .opened, holder := some i })
      (s.openLane l i t bs) := by
  intro y
  let u := (s.setSession i (some y)).modEntry l fun e => { e with state := .opened, holder := some i }
  obtain ⟨w, h⟩ := (OnPair.refl (pairOf l) u).warningTest (session_setSession_self _ i (some y))
  refine ⟨w, ?_⟩
  rw [← modEntry_setSession, setSession_setSession] at h
  exact ((h.raiseSessionState i none).decideLift _ rfl).holderArrives l rfl

/-- R96, R14: what the machine makes of an OPEN_LANE. -/
theorem openLane_machine (s : State) (l : LaneId) (i : SessionId) (t : Terms) (bs : List Bowler) :
    (s.belowStop l = true →
      ((s.supervisor l).machine = .off ∨ (s.supervisor l).machine = .parked) →
      (s.pinsetter l).slot = none →
      ((s.openLane l i t bs).supervisor l).machine = .starting ∧
      ((s.openLane l i t bs).pinsetter l).slot = some
        ⟨.cycle .start ((s.supervisor l).cycle + 1), (s.pinsetter l).nextSerial, none⟩) ∧
    (s.belowStop l = false →
      ((s.openLane l i t bs).supervisor l).machine = (s.supervisor l).machine) := by
  let u := (s.takeRecord i .single l t bs).modEntry l fun e =>
    { e with state := .opened, holder := some i }
  let v := ((u.warningTest i).raiseSessionState i none).decideLift (pairOf l)
  have lanes : v.lanes = u.lanes :=
    (lanes_decideLift _ _).trans ((raiseSessionState_equipment _ _ _).1.trans
      (warningTest_equipment u i).1)
  have faults : ∀ q, (v.pair q).faults = (s.pair q).faults := fun q => by
    refine (((OnPair.refl _ _).decideLift (pairOf l) rfl).pairFaults q).trans ?_
    simp only [State.pair, raiseSessionState_equipment, warningTest_equipment]
    rfl
  have supervisor : v.supervisor l = s.supervisor l := by
    rw [State.supervisor, State.lane, lanes]
    exact supervisor_modEntry _ _ _ _
  have pinsetter : v.pinsetter l = s.pinsetter l := by
    rw [pinsetter_decideLift]
    simp only [State.pinsetter, State.node, State.poller, State.pair,
      raiseSessionState_equipment, warningTest_equipment]
    rfl
  have below : v.belowStop l = s.belowStop l := by
    refine (faultsOn_congr ?_ (faults _)).2.1
    rw [State.lane, lanes]
    exact faults_modEntry _ _ _ _
  have opened : s.openLane l i t bs = v.holderArrives l := rfl
  rw [opened, ← below, ← supervisor, ← pinsetter]
  exact ⟨holderArrives_starts, holderArrives_stands⟩

end Sys2Proof.Machine

open Sys2Proof Sys2Proof.Machine

/-- Settles O35: the new record, then what the equipment of the pair makes of the holder. -/
theorem openLaneTakesSession : Obligations.OpenLaneTakesSession := by
  unfold Obligations.OpenLaneTakesSession
  intro s tag n sel es l r bs i free trunk run hl closed target machine hr hb one eight fits hi
  obtain ⟨len, fresh⟩ := bowlersOf_eq_some hb
  obtain ⟨b, cs, rfl⟩ := List.exists_cons_of_length_pos (show 0 < bs.length by omega)
  obtain ⟨hbm, _⟩ := List.forall_mem_cons.1 fresh
  obtain ⟨w, opened⟩ := openLane_opened s l i r.terms (b :: cs)
  obtain ⟨starts, stands⟩ := openLane_machine s l i r.terms (b :: cs)
  rw [startGame_members (b := b) (bs := cs) rfl hbm.1
    (gamesLimitReached_new (limitOk_resolveTerms hr))] at opened
  refine ⟨s.openLane l i r.terms (b :: cs), _, exec_of_act rfl trunk (reqOpenLane_accepted run hl
    closed target machine hr hb one eight fits hi) ((Kept.refl s).openLane l i _ _).trunk,
    (opened.session i).trans (session_setSession_self _ _ _), rfl, rfl, rfl, rfl, rfl, rfl, rfl, rfl,
    rfl, rfl, rfl, ?_, ?_, rfl, opened, starts, stands⟩
  · have same : ∀ y c, (fun b : Bowler => (b.handle, b.average, b.handicapMode)) (joinGame y c) =
        (c.handle, c.average, c.handicapMode) := fun y c => by unfold joinGame; split <;> rfl
    simp only [List.map_cons, List.map_map, Function.comp_def, same]
    exact congrArg (· :: _) (same _ b)
  · intro c hc
    obtain ⟨d, hd, hcd⟩ : ∃ d ∈ b :: cs, c = joinGame _ d ∨ c = onTurn _ d := by
      rcases List.mem_cons.1 hc with rfl | hc
      · exact ⟨b, List.mem_cons_self .., .inr rfl⟩
      · obtain ⟨d, hd, rfl⟩ := List.mem_map.1 hc
        exact ⟨d, List.mem_cons_of_mem _ hd, .inl rfl⟩
    obtain ⟨member, pending, completed, totals⟩ := fresh d hd
    obtain ⟨h1, h2, h3, h4, h5, h6⟩ := joined_new member rfl hcd
    exact ⟨h1, h2, h3.trans pending, h4.trans completed, h5.trans totals, h6⟩

end

section
/-! SUPPORT. The Turn Arbiter (O36): what a grant, a release and a request of a lane do, and the opening of
a pair. -/

namespace Sys2Proof.Machine

open Sys2Proof

/-! ## Notices after a raise (R178) -/

/-- A raise leaves its payload in the notice set. -/
theorem exists_mem_addNotice (n : Nat) (x : NoticePayload) (w : Nat) (ns : List Notice) :
    ∃ m ∈ addNotice n x w ns, m.source = n ∧ m.payload = x := by
  induction ns with
  | nil => exact ⟨_, List.mem_singleton.2 rfl, rfl, rfl⟩
  | cons a ns ih =>
    simp only [addNotice]
    split
    · next h =>
      simp only [sameNotice, Bool.and_eq_true, beq_iff_eq] at h
      exact ⟨_, List.mem_cons_self .., h.1, rfl⟩
    · obtain ⟨m, hm, e⟩ := ih
      exact ⟨m, List.mem_cons_of_mem _ hm, e⟩

/-- A raise leaves the notices of other sources. -/
theorem mem_addNotice_of_source {n : Nat} {x : NoticePayload} {w : Nat} {ns : List Notice} {m : Notice}
    (h : m ∈ ns) (hm : m.source ≠ n) : m ∈ addNotice n x w ns := by
  induction ns with
  | nil => cases h
  | cons a ns ih =>
    simp only [addNotice]
    rcases List.mem_cons.1 h with rfl | h
    · rw [if_neg (by simp [sameNotice, hm])]
      exact List.mem_cons_self ..
    · split
      · exact List.mem_cons_of_mem _ h
      · exact List.mem_cons_of_mem _ (ih h)

/-! ## Grants (R47, R48, R50) -/

/-- R50: TURN_CHANGED for a lane granted to a session, with the session that waits for the other lane. -/
def TurnTold (p : PairId) (t : State) (m : LaneId) (j : SessionId) (y : Session)
    (w : Option SessionId) : Prop :=
  ∃ n ∈ t.notices, n.source = laneSource m ∧ ∃ c, n.payload = .turnChanged c ∧ c.pair = p ∧
    c.lane = m ∧ c.session = j ∧ c.game = y.game ∧ c.frame = y.frame ∧ c.slot = y.slot ∧
    c.otherWaiting = w

/-- R150: a record that follows the credit state keeps all but its billing state. -/
theorem followCredit_eq (c : Bool) (b : BillingRecord) :
    followCredit c b = { b with state := (followCredit c b).state } := by
  unfold followCredit
  split <;> first | rfl | (split <;> rfl)

theorem SameButBillingState.bill {x y : Session} (h : SameButBillingState x y) (b : BillingRecord) :
    { y with billing := b } = { x with billing := b } := by
  rw [h]

/-- R48: the notices of a grant are those before with its TURN_CHANGED. -/
theorem grant_notices {s : State} {l : LaneId} {i : SessionId} {x : Session}
    (hx : s.session i = some x) :
    ∃ c w, (s.grant l i).notices = addNotice (laneSource l) (.turnChanged c) w s.notices ∧
      c.pair = pairOf l ∧ c.lane = l ∧ c.session = i ∧ c.game = x.game ∧ c.frame = x.frame ∧
      c.slot = x.slot ∧
      c.otherWaiting =
        ((s.modEntry l fun e => { e with holder := some i, waiting := none }).entry
          (otherLane l)).waiting := by
  have told : ∀ u : State, (u.tellCredit l).notices = u.notices := fun u => by
    unfold State.tellCredit
    split <;> rfl
  have hx' : ∀ f, (s.modEntry l f).session i = some x := fun _ => hx
  unfold State.grant
  rw [notices_armingCheck, told, modSession_eq (hx' _), State.raiseTurnChanged, session_setSession_self]
  exact ⟨_, _, rfl, rfl, rfl, rfl, rfl, rfl, rfl, rfl⟩

/-- R47, R48: a grant makes the session the lane's holder, with nobody waiting. -/
theorem OnPair.grant {p : PairId} {s u : State} (h : OnPair p s u) {l : LaneId} (hl : pairOf l = p)
    {i : SessionId} {x : Session} (hx : s.session i = some x) :
    ∃ y, SameButBillingState { x with lane := l } y ∧
      OnPair p ((s.modEntry l fun e => { e with holder := some i, waiting := none }).setSession i
        (some y)) (u.grant l i) := by
  have ux := (h.session i).trans hx
  let v := ((u.modEntry l fun e => { e with holder := some i, waiting := none }).setSession i
    (some { x with lane := l })).raiseTurnChanged l i
  have hv : OnPair p ((s.modEntry l fun e => { e with holder := some i, waiting := none }).setSession i
      (some { x with lane := l })) v := by
    have g := (h.modEntry_congr l fun e => { e with holder := some i, waiting := none }).setSession_congr
      i (some { x with lane := l })
    unfold v State.raiseTurnChanged
    split
    · exact g
    · exact g.raise _ _
  have holder : (v.entry l).holder = some i := by
    rw [hv.entry, entry_setSession, entry_modEntry, if_pos rfl]
  have granted : u.grant l i = (v.modSession i fun y =>
      { y with billing := followCredit (v.credit l) y.billing }).armingCheck l := by
    rw [State.grant, modSession_eq (show State.session (u.modEntry l _) i = some x from ux)]
    show State.armingCheck (State.tellCredit v l) l = _
    rw [State.tellCredit, holder]
  have set := hv.modSession_congr i fun y =>
    { y with billing := followCredit (v.credit l) y.billing }
  rw [modSession_eq (session_setSession_self _ _ _), setSession_setSession] at set
  exact ⟨_, congrArg (fun b => ({ x with lane := l, billing := b } : Session))
    (followCredit_eq (v.credit l) x.billing), granted ▸ set.armingCheck l hl⟩

/-- R50: a grant is told. -/
theorem turnTold_grant {p : PairId} {s u : State} (h : OnPair p s u) {l : LaneId} (hl : pairOf l = p)
    {i : SessionId} {x : Session} (hx : s.session i = some x) (other : otherLane l ≠ l) :
    TurnTold p (u.grant l i) l i x (s.entry (otherLane l)).waiting := by
  obtain ⟨c, w, e, hp, hlane, hi, hg, hf, hs, hw⟩ := grant_notices (l := l) ((h.session i).trans hx)
  obtain ⟨n, hn, source, payload⟩ := exists_mem_addNotice (laneSource l) (.turnChanged c) w u.notices
  rw [entry_modEntry, if_neg other, h.entry] at hw
  exact ⟨n, e ▸ hn, source, c, payload, hp.trans hl, hlane, hi, hg, hf, hs, hw⟩

/-- A grant leaves what has been told of another lane. -/
theorem TurnTold.grant {p : PairId} {u : State} {m : LaneId} {j : SessionId} {y : Session}
    {w : Option SessionId} (h : TurnTold p u m j y w) {l : LaneId} (hl : m ≠ l) {i : SessionId}
    {x : Session} (hx : u.session i = some x) : TurnTold p (u.grant l i) m j y w := by
  obtain ⟨n, hn, source, told⟩ := h
  obtain ⟨c, v, e, _⟩ := grant_notices (l := l) hx
  refine ⟨n, e ▸ mem_addNotice_of_source hn fun k => hl (Fin.ext ?_), source, told⟩
  simp only [source, laneSource] at k
  omega

/-! ## Releases and requests (R48, R49) -/

/-- R48: a lane that nobody waits for is released. -/
theorem releaseLane_free {s : State} {l : LaneId} (hw : (s.entry l).waiting = none) :
    s.releaseLane l = (s.modEntry l fun e => { e with holder := none }).armingCheck l := by
  unfold State.releaseLane
  rw [hw]

/-- R48: a lane that a session waits for is granted to it. -/
theorem releaseLane_waited {s : State} {l : LaneId} {j : SessionId}
    (hw : (s.entry l).waiting = some j) :
    s.releaseLane l = (s.modEntry l fun e => { e with holder := none }).grant l j := by
  unfold State.releaseLane
  rw [hw]

/-- R48, R49: a completed frame of a session that holds its lane. -/
theorem frameCompleted_holder {s : State} {i : SessionId} {x : Session} (hx : s.session i = some x)
    (mode : x.mode ≠ .single) (opened : x.state = .opened)
    (holds : (s.entry x.lane).holder = some i) :
    s.frameCompleted i = (s.releaseLane x.lane).requestLane (otherLane x.lane) i := by
  unfold State.frameCompleted
  rw [hx]
  exact if_pos ⟨mode, opened, by simp [State.holdsLane, holds]⟩

theorem otherLane_laneAt {p : PairId} {d e : Side} (h : d ≠ e) :
    otherLane (laneAt p d) = laneAt p e := by
  rw [otherLane, pairOf_laneAt, sideOf_laneAt]
  cases d <;> cases e <;> first | rfl | exact absurd rfl h

theorem laneAt_ne {p : PairId} {d e : Side} (h : d ≠ e) : laneAt p d ≠ laneAt p e := fun k =>
  h (by rw [← sideOf_laneAt p d, k, sideOf_laneAt])

/-- R49: a lane without a holder is granted to a session that requests it. -/
theorem requestLane_granted {s : State} {l : LaneId} {i : SessionId}
    (h : (s.entry l).holder = none) : s.requestLane l i = s.grant l i := by
  rw [State.requestLane, h]

/-- R49: a session waits for a lane that another holds. -/
theorem requestLane_waits {s : State} {l : LaneId} {i j : SessionId} {x : Session}
    (h : (s.entry l).holder = some j) (hx : s.session i = some x) :
    s.requestLane l i = (s.modEntry l fun e => { e with waiting := some i }).setSession i
      (some { x with lane := l }) := by
  rw [State.requestLane, h]
  exact modSession_eq (s := s.modEntry l _) hx _

/-! ## A completed frame (R48 to R50) and a session that leaves (R51) -/

section
variable {s : State} {p : PairId} {l k : LaneId} {i j : SessionId} {x z : Session}

/-- R48: the entry of a lane that is let go. -/
def letGo (e : LaneEntry) : LaneEntry := { e with holder := none }

/-- R47: the entry of a lane that is granted. -/
def granted (i : SessionId) (e : LaneEntry) : LaneEntry := { e with holder := some i, waiting := none }

/-- R48: a lane that nobody waits for is let go. -/
theorem releaseLane_letsGo (hl : pairOf l = p) (free : (s.entry l).waiting = none) :
    (s.releaseLane l).notices = s.notices ∧ OnPair p (s.modEntry l letGo) (s.releaseLane l) := by
  rw [releaseLane_free free]
  exact ⟨notices_armingCheck _ _, (OnPair.refl _ _).armingCheck l hl⟩

/-- R48: a released lane goes to the session that waits for it. -/
theorem releaseLane_grants (hl : pairOf l = p) (other : otherLane l = k) (ne : k ≠ l)
    (waits : (s.entry l).waiting = some j) (hz : s.session j = some z) :
    ∃ w, SameButBillingState { z with lane := l } w ∧
      TurnTold p (s.releaseLane l) l j z (s.entry k).waiting ∧
      OnPair p ((s.modEntry l (granted j)).setSession j (some w)) (s.releaseLane l) := by
  have refl := OnPair.refl p (s.modEntry l letGo)
  have told := turnTold_grant refl hl (i := j) hz (other ▸ ne)
  obtain ⟨w, same, moved⟩ := refl.grant hl (i := j) hz
  rw [other, entry_modEntry, if_neg ne] at told
  rw [modEntry_modEntry] at moved
  rw [releaseLane_waited waits]
  exact ⟨w, same, told, moved⟩

/-- R49: a session whose lane is released waits for the other lane, which is held. -/
theorem frameCompleted_waits (hl : pairOf l = p) (ne : k ≠ l)
    (completes : s.frameCompleted i = (s.releaseLane l).requestLane k i) (hx : s.session i = some x)
    (free : (s.entry l).waiting = none) (held : (s.entry k).holder = some j) :
    (s.frameCompleted i).notices = s.notices ∧
      OnPair p (((s.modEntry l letGo).modEntry k fun e => { e with waiting := some i }).setSession i
        (some { x with lane := k })) (s.frameCompleted i) := by
  obtain ⟨notices, released⟩ := releaseLane_letsGo hl free
  have held' : ((s.releaseLane l).entry k).holder = some j := by
    rw [released.entry, entry_modEntry, if_neg ne, held]
  rw [completes, requestLane_waits held' ((released.session i).trans hx)]
  exact ⟨notices, (released.modEntry_congr k _).setSession_congr i _⟩

/-- R49: a session whose lane is released is granted the other lane, which is free. -/
theorem frameCompleted_moves (hl : pairOf l = p) (hk : pairOf k = p) (other : otherLane k = l)
    (ne : k ≠ l) (completes : s.frameCompleted i = (s.releaseLane l).requestLane k i)
    (hx : s.session i = some x) (free : (s.entry l).waiting = none)
    (unheld : (s.entry k).holder = none) :
    ∃ y, SameButBillingState { x with lane := k } y ∧ TurnTold p (s.frameCompleted i) k i x none ∧
      OnPair p (((s.modEntry l letGo).modEntry k (granted i)).setSession i (some y))
        (s.frameCompleted i) := by
  obtain ⟨_, released⟩ := releaseLane_letsGo hl free
  have unheld' : ((s.releaseLane l).entry k).holder = none := by
    rw [released.entry, entry_modEntry, if_neg ne, unheld]
  obtain ⟨y, same, moved⟩ := released.grant hk (i := i) hx
  have told := turnTold_grant released hk (i := i) hx (other ▸ ne.symm)
  rw [other, entry_modEntry, if_pos rfl] at told
  rw [completes, requestLane_granted unheld']
  exact ⟨y, same, free ▸ told, moved⟩

/-- R48, R49: the released lane goes to the session that waits for it, then the other lane to the
session that released it. -/
theorem frameCompleted_swaps (hl : pairOf l = p) (hk : pairOf k = p) (lk : otherLane l = k)
    (kl : otherLane k = l) (ne : k ≠ l)
    (completes : s.frameCompleted i = (s.releaseLane l).requestLane k i) (hx : s.session i = some x)
    (waits : (s.entry l).waiting = some j) (ji : j ≠ i) (hz : s.session j = some z)
    (unheld : (s.entry k).holder = none) :
    ∃ y w, SameButBillingState { x with lane := k } y ∧ SameButBillingState { z with lane := l } w ∧
      TurnTold p (s.frameCompleted i) l j z (s.entry k).waiting ∧
      TurnTold p (s.frameCompleted i) k i x none ∧
      OnPair p ((((s.modEntry l (granted j)).modEntry k (granted i)).setSession j (some w)).setSession i
        (some y)) (s.frameCompleted i) := by
  obtain ⟨w, sameW, toldW, released⟩ := releaseLane_grants hl lk ne waits hz
  have hx' : ((s.modEntry l (granted j)).setSession j (some w)).session i = some x := by
    rw [session_setSession, if_neg ji.symm]; exact hx
  have unheld' : ((s.releaseLane l).entry k).holder = none := by
    rw [released.entry, entry_setSession, entry_modEntry, if_neg ne, unheld]
  obtain ⟨y, sameY, moved⟩ := released.grant hk (i := i) hx'
  have toldY := turnTold_grant released hk (i := i) hx' (kl ▸ ne.symm)
  rw [kl, entry_setSession, entry_modEntry, if_pos rfl] at toldY
  rw [completes, requestLane_granted unheld']
  exact ⟨y, w, sameY, sameW, toldW.grant ne.symm ((released.session i).trans hx'), toldY, moved⟩

end

/-! ## The end of frame 10 (R37, R40, R52) -/

theorem modBowler_eq (f : Bowler → Bowler) (k : Nat) (x : Session) :
    ∃ bs, modBowler f k x = { x with bowlers := bs } := by
  unfold modBowler
  split
  · exact ⟨x.bowlers, rfl⟩
  · exact ⟨_, rfl⟩

/-- R38: the limit check changes games only. -/
theorem limitCheck_eq (x : Session) (k : Nat) : ∃ bs, limitCheck x k = { x with bowlers := bs } :=
  modBowler_eq _ k x

/-- R37, R38: the search of frame 1 changes games only. -/
theorem findFrameOne_eq (ks : List Nat) :
    ∀ x, ∃ bs, (findFrameOne x ks).1 = { x with bowlers := bs } := by
  induction ks with
  | nil => exact fun x => ⟨x.bowlers, rfl⟩
  | cons k ks ih =>
    intro x
    unfold findFrameOne
    split
    · exact ⟨x.bowlers, rfl⟩
    · split
      · obtain ⟨cs, checked⟩ := limitCheck_eq x k
        obtain ⟨bs, e⟩ := ih (limitCheck x k)
        exact ⟨bs, by rw [e, checked]⟩
      · exact limitCheck_eq x k
    · exact ih x

theorem findFrameOne_game (ks : List Nat) (x : Session) : (findFrameOne x ks).1.game = x.game := by
  obtain ⟨bs, e⟩ := findFrameOne_eq ks x
  rw [e]

/-- R40: a game that finds a bowler for its turn starts in frame 1. -/
theorem startGame_frame {x : Session} (h : (startGame x).2 = false) :
    (startGame x).1.game = x.game ∧ (startGame x).1.frame = 1 := by
  have game := findFrameOne_game (memberSlots x)
    { x with takingPart := memberSlots x, bowlers := x.bowlers.map (joinGame x), frame := 1 }
  unfold startGame at h ⊢
  dsimp only at h ⊢
  split
  · next z k found =>
    rw [found] at game
    exact ⟨game, rfl⟩
  · next found =>
    rw [found] at h
    cases h

theorem findInProgress_eq_none {x : Session} {ks : List Nat}
    (h : ∀ m ∈ ks, ∀ b, bowlerAt x m = some b → b.game.status ≠ .inProgress) :
    findInProgress x ks = none := by
  refine List.find?_eq_none.2 fun m hm => ?_
  cases hb : bowlerAt x m with
  | none => simp [gameStatus, hb]
  | some b => simpa [gameStatus, hb] using h m hm b hb

/-- R37, R40: a turn that passes from the last slot of frame 10 starts the next game. -/
theorem passTurn_nextGame {x : Session} {slot : Nat} (ten : x.frame = 10)
    (last : ∀ m ∈ x.takingPart, slot < m → ∀ b, bowlerAt x m = some b → b.game.status ≠ .inProgress) :
    passTurn x slot = ⟨(nextGame x).1, true, (nextGame x).2⟩ := by
  have none_above : findInProgress x (x.takingPart.filter fun k => decide (slot < k)) = none :=
    findInProgress_eq_none fun m hm => by
      obtain ⟨hm, above⟩ := List.mem_filter.1 hm
      exact last m hm (of_decide_eq_true above)
  simp [passTurn, endFrame, ten, none_above]

/-- R52: frame 10 completed: the next game starts, then the arbiter is told of the completion. -/
theorem passTurnFrom_nextGame {s : State} {i : SessionId} {x : Session} {slot : Nat}
    (hx : s.session i = some x) (ten : x.frame = 10) (goes : (nextGame x).2 = false)
    (last : ∀ m ∈ x.takingPart, slot < m → ∀ b, bowlerAt x m = some b → b.game.status ≠ .inProgress) :
    (nextGame x).1.game = min 255 (x.game + 1) ∧ (nextGame x).1.frame = 1 ∧
      s.passTurnFrom i slot =
        ((s.setSession i (some (nextGame x).1)).armingCheck x.lane).frameCompleted i := by
  obtain ⟨game, frame⟩ := startGame_frame goes
  refine ⟨game, frame, ?_⟩
  unfold State.passTurnFrom
  rw [hx]
  dsimp only
  rw [passTurn_nextGame ten last, State.turnEffects, goes]
  rfl

/-! ## OPEN_PAIR_PLAY (R15, R47) -/

theorem reqOpenPairPlay_accepted {s : State} {n : Nat} {sel : TermSelectors}
    {es1 es2 : List BowlerEntry} {p : PairId} {r1 r2 : Resolved} {bs1 bs2 : List Bowler}
    {i j : SessionId} {free : List SessionId} (run : s.device = .run) (hp : pairOf? n = some p)
    (closedL : (s.entry (laneAt p .left)).state = .closed)
    (closedR : (s.entry (laneAt p .right)).state = .closed)
    (targetL : s.isMoveTarget (laneAt p .left) = false)
    (targetR : s.isMoveTarget (laneAt p .right) = false)
    (machineL : openableMachine (s.supervisor (laneAt p .left)).machine = true)
    (machineR : openableMachine (s.supervisor (laneAt p .right)).machine = true)
    (hr1 : resolveTerms s.defaults.terms (s.entry (laneAt p .left)).memory sel = some r1)
    (hr2 : resolveTerms s.defaults.terms (s.entry (laneAt p .right)).memory sel = some r2)
    (hb1 : bowlersOf? es1 = some bs1) (hb2 : bowlersOf? es2 = some bs2)
    (list1 : listFits es1 = true) (list2 : listFits es2 = true) (team1 : teamFits r1.terms = true)
    (team2 : teamFits r2.terms = true) (hf : s.freeSessions = i :: j :: free) :
    reqOpenPairPlay n sel es1 es2 s = (s.openPair p i j r1.terms r2.terms bs1 bs2,
      ⟨.ok, .openedPair i j (mergeClamps r1.clamped r2.clamped ++ listClamps 1 es1 ++
        listClamps 2 es2)⟩) := by
  simp [reqOpenPairPlay, run, hp, closedL, closedR, targetL, targetR, machineL, machineR, hr1, hr2, hb1,
    hb2, list1, list2, team1, team2, hf]

/-- Of the updates of one record, the last stands. -/
theorem setSession_again (s : State) {i j : SessionId} (h : i ≠ j) (x y z : Option Session) :
    ((s.setSession i x).setSession j y).setSession i z = (s.setSession i z).setSession j y := by
  rw [setSession_comm s h, setSession_setSession, setSession_comm s h.symm]

/-- Two updates of one lane's entry meet past an update of another's. -/
theorem modEntry_again (s : State) {l k : LaneId} (h : l ≠ k) (f g a : LaneEntry → LaneEntry) :
    ((s.modEntry l f).modEntry k g).modEntry l a = (s.modEntry l fun e => a (f e)).modEntry k g := by
  rw [modEntry_comm _ h.symm, modEntry_modEntry]

/-- R15, R47: the entry of a lane whose team has opened. -/
def teamEntry (i : SessionId) (e : LaneEntry) : LaneEntry :=
  { e with state := .pairPlay, holder := some i, waiting := none }

/-- R15: the updates of an OPEN_PAIR_PLAY, each record's and each entry's last one standing. -/
theorem openPair_updates (s : State) (p : PairId) {i j : SessionId} (ij : i ≠ j)
    (x x1 x2 y y1 y2 : Option Session) :
    (((((((((s.setSession i x).modEntry (laneAt p .left) fun e =>
      { e with state := .pairPlay }).setSession j y).modEntry (laneAt p .right) fun e =>
      { e with state := .pairPlay }).modEntry (laneAt p .left) fun e =>
      { e with holder := some i, waiting := none }).setSession i x1).modEntry (laneAt p .right) fun e =>
      { e with holder := some j, waiting := none }).setSession j y1).setSession i x2).setSession j y2 =
    (((s.setSession i x2).setSession j y2).modEntry (laneAt p .left) (teamEntry i)).modEntry
      (laneAt p .right) (teamEntry j) := by
  have lr : laneAt p .left ≠ laneAt p .right := laneAt_ne (by decide)
  simp only [modEntry_setSession, modEntry_again _ lr, modEntry_modEntry, setSession_again _ ij,
    setSession_setSession]
  rfl

/-- R15, R47: both records, both lanes held by their teams, and decisions about the pair's equipment. -/
theorem openPair_opened (s : State) (p : PairId) {i j : SessionId} (ij : i ≠ j) (t1 t2 : Terms)
    (bs1 bs2 : List Bowler) :
    let l := laneAt p .left
    let r := laneAt p .right
    ∃ c d a b,
      OnPair p
        ((((s.setSession i (some { (startGame (newSession (.pairPlay .left) l t1 bs1 c
            s.defaults.expiryWait)).1 with lane := l, billing := a })).setSession j
          (some { (startGame (newSession (.pairPlay .right) r t2 bs2 d
            s.defaults.expiryWait)).1 with lane := r, billing := b })).modEntry l
          (teamEntry i)).modEntry r (teamEntry j))
        (s.openPair p i j t1 t2 bs1 bs2) := by
  intro l r
  let s0 := s.openTeam p .left i t1 bs1
  let s1 := s0.openTeam p .right j t2 bs2
  let x := (startGame (newSession (.pairPlay .left) l t1 bs1 (s.credit l) s.defaults.expiryWait)).1
  let y := (startGame (newSession (.pairPlay .right) r t2 bs2 (s0.credit r) s.defaults.expiryWait)).1
  have hx : s1.session i = some x :=
    (session_setSession _ _ _ _).trans ((if_neg ij).trans (session_setSession_self s i (some x)))
  obtain ⟨x1, hx1, h1⟩ := (OnPair.refl p s1).grant (pairOf_laneAt p .left) hx
  have hy : ((s1.modEntry l fun e => { e with holder := some i, waiting := none }).setSession i
      (some x1)).session j = some y :=
    (session_setSession _ _ _ _).trans ((if_neg ij.symm).trans
      (session_setSession_self s0 j (some y)))
  obtain ⟨y1, hy1, h2⟩ := h1.grant (pairOf_laneAt p .right) hy
  obtain ⟨w, h3⟩ := h2.warningTest (i := i) (x := x1)
    ((session_setSession _ _ _ _).trans ((if_neg ij).trans (session_setSession_self _ i (some x1))))
  obtain ⟨v, h4⟩ := h3.warningTest (i := j) (x := y1)
    ((session_setSession _ _ _ _).trans ((if_neg ij.symm).trans (session_setSession_self _ j (some y1))))
  have h5 := (((h4.raiseSessionState i none).raiseSessionState j none).decideLift p rfl).holderArrives
    l (pairOf_laneAt p .left) |>.holderArrives r (pairOf_laneAt p .right)
  rw [hx1.bill, hy1.bill] at h5
  exact ⟨s.credit l, s0.credit r, _, _, (congrArg (OnPair p · _)
    (openPair_updates s p ij (some x) _ _ (some y) _ _)).mp h5⟩

/-- R13: a session that starts game 1 keeps the handles of its list. -/
theorem handles_joined (x : Session) (b : Bowler) (bs : List Bowler) :
    (onTurn x b :: bs.map (joinGame x)).map (·.handle) = (b :: bs).map (·.handle) := by
  have same : ∀ c, (joinGame x c).handle = c.handle := fun c => by unfold joinGame; split <;> rfl
  simp only [List.map_cons, List.map_map, Function.comp_def, same]
  exact congrArg (· :: _) (same b)

/-- R6: the free records are distinct. -/
theorem freeSessions_ne {s : State} {i j : SessionId} {free : List SessionId}
    (h : s.freeSessions = i :: j :: free) : i ≠ j := by
  have nodup : s.freeSessions.Nodup := List.Nodup.filter _ (by decide)
  rw [h] at nodup
  exact fun e => (List.nodup_cons.1 nodup).1 (e ▸ List.mem_cons_self ..)

/-- R40: the record of a team whose bowlers are all members. -/
theorem startGame_team {mode : Mode} {l : LaneId} {t : Terms} {es : List BowlerEntry}
    {bs : List Bowler} (c : Bool) (w : Nat) (hb : bowlersOf? es = some bs) (one : 1 ≤ es.length)
    (ok : LimitOk t.limit) :
    let x := (startGame (newSession mode l t bs c w)).1
    x.state = .opened ∧ x.mode = mode ∧ x.lane = l ∧ x.terms = t ∧ x.game = 1 ∧ x.frame = 1 ∧
      x.slot = some 1 ∧ x.bowlers.map (·.handle) = bs.map (·.handle) := by
  obtain ⟨len, fresh⟩ := bowlersOf_eq_some hb
  obtain ⟨b, cs, rfl⟩ := List.exists_cons_of_length_pos (show 0 < bs.length by omega)
  obtain ⟨hbm, _⟩ := List.forall_mem_cons.1 fresh
  intro x
  have hx : x = _ := congrArg Prod.fst
    (startGame_members (b := b) (bs := cs) rfl hbm.1 (gamesLimitReached_new ok))
  rw [hx]
  exact ⟨rfl, rfl, rfl, rfl, rfl, rfl, rfl, handles_joined _ b cs⟩

end Sys2Proof.Machine

open Sys2Proof Sys2Proof.Machine

/-- Settles O36: the releases, grants and requests of the arbiter, then the opening of a pair. -/
theorem openPairPlayTakesBothLanes : Obligations.OpenPairPlayTakesBothLanes := by
  unfold Obligations.OpenPairPlayTakesBothLanes
  refine ⟨?_, ?_⟩
  · intro s p d e i x de l k told released leaves hx mode hl
    have lk : otherLane l = k := otherLane_laneAt de
    have kl : otherLane k = l := otherLane_laneAt de.symm
    have ne : k ≠ l := laneAt_ne de.symm
    have pl : pairOf l = p := pairOf_laneAt p d
    have pk : pairOf k = p := pairOf_laneAt p e
    have leaves_holder : (s.entry l).holder = some i → leaves = s.releaseLane l := fun holds =>
      if_pos (by simp [State.holdsLane, holds])
    refine ⟨fun holds opened => ?_, fun holds => ?_, fun holds waits => ?_, fun slot ten goes last => ?_⟩
    · have completes : s.frameCompleted i = (s.releaseLane l).requestLane k i := by
        rw [frameCompleted_holder hx mode opened (hl ▸ holds), hl, lk]
      exact ⟨fun j free held => frameCompleted_waits pl ne completes hx free held,
        fun free unheld => frameCompleted_moves pl pk kl ne completes hx free unheld,
        fun j z waits ji hz unheld =>
          frameCompleted_swaps pl pk lk kl ne completes hx waits ji hz unheld⟩
    · rw [leaves_holder holds]
      exact ⟨releaseLane_letsGo pl, fun j z waits _ hz => releaseLane_grants pl lk ne waits hz⟩
    · show State.leaveSlots s i l = _
      rw [State.leaveSlots, if_neg (by simp [State.holdsLane, holds]), if_pos waits]
    · exact hl ▸ passTurnFrom_nextGame hx ten goes last
  · intro s tag n sel es1 es2 p r1 r2 bs1 bs2 i j free l r trunk run hp closedL closedR targetL targetR
      machineL machineR hr1 hr2 hb1 hb2 one1 eight1 one2 eight2 game1 game2 fits1 fits2 hf
    have ij := freeSessions_ne hf
    have list1 : listFits es1 = true := decide_eq_true ⟨one1, eight1⟩
    have list2 : listFits es2 = true := decide_eq_true ⟨one2, eight2⟩
    have team1 : teamFits r1.terms = true := by simp [teamFits, game1, fits1]
    have team2 : teamFits r2.terms = true := by simp [teamFits, game2, fits2]
    obtain ⟨c, d, a, b, opened⟩ := openPair_opened s p ij r1.terms r2.terms bs1 bs2
    obtain ⟨sx, mx, lx, tx, gx, fx, ox, bx⟩ := startGame_team (mode := .pairPlay .left)
      (l := laneAt p .left) c s.defaults.expiryWait hb1 one1 (limitOk_resolveTerms hr1)
    obtain ⟨sy, my, ly, ty, gy, fy, oy, bY⟩ := startGame_team (mode := .pairPlay .right)
      (l := laneAt p .right) d s.defaults.expiryWait hb2 one2 (limitOk_resolveTerms hr2)
    exact ⟨s.openPair p i j r1.terms r2.terms bs1 bs2, _, _, _,
      exec_of_act rfl trunk (reqOpenPairPlay_accepted run hp closedL closedR targetL targetR machineL
        machineR hr1 hr2 hb1 hb2 list1 list2 team1 team2 hf) ((Kept.refl s).openPair p i j _ _ _ _).trunk,
      (opened.session i).trans ((session_setSession _ _ _ _).trans ((if_neg ij).trans
        (session_setSession_self _ _ _))), sx, mx, rfl, tx, gx, fx, ox, bx,
      (opened.session j).trans (session_setSession_self _ _ _), sy, my, rfl, ty, gy, fy, oy, bY, opened⟩

end

section
/-! SUPPORT. The lane-quiet test (R18) where nobody leaves: a lane whose holder is neither CLOSING nor
MOVING stands. -/

namespace Sys2Proof.Machine

open Sys2Proof

/-- The holder of a lane is not leaving it. -/
def State.HolderStays (s : State) (l : LaneId) : Prop :=
  ∀ i x, (s.entry l).holder = some i → s.session i = some x → x.state ≠ .closing ∧ x.state ≠ .moving

theorem State.NoneLeaving.holderStays {s : State} (h : s.NoneLeaving) (l : LaneId) :
    s.HolderStays l := fun i x _ => h i x

/-- A session that is not CLOSING is not closed by a test. -/
theorem tryClose_stays {s : State} {i : SessionId}
    (h : ∀ x, s.session i = some x → x.state ≠ .closing) : s.tryClose i = s := by
  unfold State.tryClose
  split
  · rfl
  · next x hx => exact if_neg (by simp [State.closeReady, h x hx])

/-- A lane whose holder is not MOVING is not left by a test. -/
theorem tryMove_stays {s : State} {l : LaneId}
    (h : ∀ i x, (s.entry l).holder = some i → s.session i = some x → x.state ≠ .moving) :
    s.tryMove l = s := by
  unfold State.tryMove
  split
  · next i x m held _ =>
    obtain ⟨holds, hx⟩ : (s.entry l).holder = some i ∧ s.session i = some x := by
      unfold State.holder at held
      split at held
      · cases held
      · next j hj =>
        obtain ⟨z, hz, e⟩ := Option.map_eq_some_iff.1 held
        cases e
        exact ⟨hj, hz⟩
    exact if_neg fun c => h i x holds hx c.1
  · rfl

theorem settleLane_stays {s : State} {l : LaneId} (h : s.HolderStays l) : s.settleLane l = s := by
  unfold State.settleLane
  split
  · rfl
  · next i hi =>
    rw [tryClose_stays fun x hx => (h i x hi hx).1]
    exact tryMove_stays fun j x hj hx => (h j x hj hx).2

theorem settlePair_stays {s : State} {p : PairId} (h : s.NoneLeaving) : s.settlePair p = s := by
  rw [State.settlePair, settleLane_stays (h.holderStays _), settleLane_stays (h.holderStays _)]

/-- Nobody leaves after a step that keeps the states of the sessions. -/
theorem State.NoneLeaving.of_states {s t : State} (h : s.NoneLeaving)
    (e : ∀ i x, t.session i = some x → ∃ y, s.session i = some y ∧ x.state = y.state) :
    t.NoneLeaving := fun i x hx => by
  obtain ⟨y, hy, state⟩ := e i x hx
  exact state ▸ h i y hy

/-- Nobody leaves after the record of a session in use is replaced by one in the same state. -/
theorem State.NoneLeaving.setSession {s : State} (h : s.NoneLeaving) {i : SessionId} {x y : Session}
    (hx : s.session i = some x) (state : y.state = x.state) :
    (s.setSession i (some y)).NoneLeaving := by
  refine h.of_states fun j z hz => ?_
  rw [session_setSession] at hz
  split at hz
  · next e =>
    cases hz
    exact ⟨x, e ▸ hx, state⟩
  · exact ⟨z, hz, rfl⟩

theorem OnPair.noneLeaving {p : PairId} {s t : State} (h : OnPair p s t) (stays : s.NoneLeaving) :
    t.NoneLeaving := fun i x hx => stays i x (h.session i ▸ hx)

end Sys2Proof.Machine
end

section
/-! SUPPORT. WITHDRAW_BOWLER (O38): the bowler's record, the turn that passes, and the need handed to the
machine. -/

namespace Sys2Proof.Machine

open Sys2Proof

/-! ## The record of a bowler that withdraws (R17, R42) -/

theorem modifyNth_eq_modify {α : Type} (f : α → α) (xs : List α) :
    ∀ n, modifyNth f n xs = xs.modify n f := by
  induction xs with
  | nil => intro n; cases n <;> rfl
  | cons x xs ih =>
    intro n
    cases n with
    | zero => rfl
    | succ n => simp [modifyNth, ih]

theorem modifyNth_eq_set {α : Type} {f : α → α} {xs : List α} {n : Nat} {x : α} (h : xs[n]? = some x) :
    modifyNth f n xs = xs.set n (f x) := by
  rw [modifyNth_eq_modify, List.modify_eq_set_getElem?, h]
  rfl

theorem bowlerAt_eq_some {x : Session} {k : Nat} {b : Bowler} (h : bowlerAt x k = some b) :
    k ≠ 0 ∧ x.bowlers[k - 1]? = some b := by
  unfold bowlerAt nth1 at h
  split at h
  · cases h
  · next k0 => exact ⟨k0, h⟩

/-- A bowler's record changed. -/
theorem modBowler_of_bowlerAt {f : Bowler → Bowler} {x : Session} {k : Nat} {b : Bowler}
    (h : bowlerAt x k = some b) :
    modBowler f k x = { x with bowlers := x.bowlers.set (k - 1) (f b) } := by
  obtain ⟨k0, hk⟩ := bowlerAt_eq_some h
  rw [modBowler, if_neg k0, modifyNth_eq_set hk]

/-- A slot after a bowler's record is replaced. -/
theorem bowlerAt_set {x : Session} {k : Nat} {b c : Bowler} (h : bowlerAt x k = some b) (m : Nat) :
    bowlerAt { x with bowlers := x.bowlers.set (k - 1) c } m =
      if m = k then some c else bowlerAt x m := by
  obtain ⟨k0, hk⟩ := bowlerAt_eq_some h
  obtain ⟨lt, _⟩ := List.getElem?_eq_some_iff.1 hk
  unfold bowlerAt nth1
  by_cases m0 : m = 0
  · rw [if_pos m0, if_pos m0, if_neg (by omega)]
  · rw [if_neg m0, if_neg m0, List.getElem?_set]
    by_cases e : m = k
    · rw [if_pos e, if_pos (by rw [e]), if_pos lt]
    · rw [if_neg e, if_neg (by omega)]

/-- R35: the last running total of a game. -/
theorem lastRunning_eq (g : Game) : lastRunning g = (g.frames.filterMap (·.running)).getLast?.getD 0 := by
  have fold : ∀ (fs : List Frame) (n : Nat),
      fs.foldl (fun t f => f.running.getD t) n = (fs.filterMap (·.running)).getLast?.getD n := by
    intro fs
    induction fs with
    | nil => exact fun _ => rfl
    | cons f fs ih =>
      intro n
      rw [List.foldl_cons, ih]
      cases h : f.running with
      | none => rw [List.filterMap_cons_none h]; rfl
      | some m => rw [List.filterMap_cons_some h, List.getLast?_cons]; rfl
  exact fold g.frames 0

/-- R42: what a withdrawal that takes effect makes of a bowler. -/
def withdrawn (b : Bowler) : Bowler :=
  { b with
    member := false, joinsNext := false
    game := { b.game with status :=
      if b.game.status = .inProgress ∨ b.game.status = .notStarted then .withdrawn
      else b.game.status }
    totals :=
      if b.game.status = .inProgress then
        let scratch := (b.game.frames.filterMap (·.running)).getLast?.getD 0
        (if b.totals.length < 12 then b.totals else b.totals.drop 1) ++
          [⟨b.game.number, scratch, b.game.handicap, scratch + b.game.handicap, .withdrawn⟩]
      else b.totals }

theorem withdrawBowlerRecord_eq {b : Bowler} (h : b.withdrawalPending = false) :
    withdrawBowlerRecord b = withdrawn b := by
  unfold withdrawBowlerRecord withdrawGame withdrawn
  rw [← h]
  cases e : b.game.status
  case inProgress | notStarted => simp [addTotal, totalEntry, totalsCapacity, lastRunning_eq]
  all_goals
    simp
    rw [← e]

/-! ## The turn that passes (R37, R38) -/

/-- R38: a bowler whose game has begun. -/
def begun (c : Bowler) : Bowler := { c with game := { c.game with status := .inProgress } }

theorem begun_of_inProgress {c : Bowler} (h : c.game.status = .inProgress) : begun c = c := by
  unfold begun
  rw [← h]

/-- A game that is in progress already is begun. -/
theorem modify_begun {x : Session} {k : Nat} (h : gameStatus x k = some .inProgress) :
    x.bowlers.modify (k - 1) begun = x.bowlers := by
  obtain ⟨c, hc, status⟩ := Option.map_eq_some_iff.1 h
  obtain ⟨_, at_k⟩ := bowlerAt_eq_some hc
  rw [List.modify_eq_set_getElem?, at_k]
  show x.bowlers.set (k - 1) (begun c) = _
  rw [begun_of_inProgress status]
  obtain ⟨lt, rfl⟩ := List.getElem?_eq_some_iff.1 at_k
  exact List.set_getElem_self lt

/-- R38: a game below the limit begins. -/
theorem limitCheck_begins {x : Session} {k : Nat} (hk : k ≠ 0) (below : gamesLimitReached x = false) :
    limitCheck x k = { x with bowlers := x.bowlers.modify (k - 1) begun } := by
  rw [limitCheck, below, modGame, modBowler, if_neg hk, modifyNth_eq_modify]
  rfl

/-- R37, R38: in frame 1 the turn goes to the first game of the slots that is in progress, or that may
begin. -/
theorem findFrameOne_found {x : Session} {k : Nat}
    (below : gameStatus x k = some .notStarted → gamesLimitReached x = false) (ks : List Nat)
    (h : ks.find? (fun m => gameStatus x m == some .inProgress || gameStatus x m == some .notStarted) =
      some k) :
    findFrameOne x ks = ({ x with bowlers := x.bowlers.modify (k - 1) begun }, some k) := by
  induction ks with
  | nil => cases h
  | cons m ms ih =>
    cases hm : gameStatus x m with
    | none =>
      rw [findFrameOne, hm]
      exact ih (by simpa [hm] using h)
    | some g =>
      rw [findFrameOne, hm]
      cases g
      case inProgress =>
        obtain rfl : m = k := by simpa [hm] using h
        rw [modify_begun hm]
      case notStarted =>
        obtain rfl : m = k := by simpa [hm] using h
        have m0 : m ≠ 0 := by
          rintro rfl
          cases hm
        simp only [below hm, Bool.false_eq_true, if_false, limitCheck_begins m0 (below hm)]
      all_goals exact ih (by simpa [hm] using h)

/-- R37, R38: the turn passes to the first slot above that can take it. -/
theorem passTurn_found {x : Session} {slot k : Nat}
    (below : gameStatus x k = some .notStarted → gamesLimitReached x = false)
    (h : (x.takingPart.filter fun m => decide (slot < m)).find?
      (fun m => gameStatus x m == some .inProgress ||
        x.frame == 1 && gameStatus x m == some .notStarted) = some k) :
    passTurn x slot =
      ⟨giveTurn { x with bowlers := x.bowlers.modify (k - 1) begun } k x.frame, false, false⟩ := by
  unfold passTurn
  dsimp only
  by_cases one : x.frame = 1
  · rw [if_pos one, findFrameOne_found below _ (by simpa [one] using h), one]
  · have found : findInProgress x (x.takingPart.filter fun m => decide (slot < m)) = some k := by
      simpa [one, findInProgress] using h
    rw [if_neg one, found, modify_begun]
    exact eq_of_beq (List.find?_some (p := fun m => gameStatus x m == some .inProgress) found)

/-- R38: below the games limit. -/
theorem gamesLimitReached_below {x : Session}
    (h : ∀ g, x.terms.limit = .games g → x.billing.gamesCharged < g) : gamesLimitReached x = false := by
  unfold gamesLimitReached
  split
  · next n hn => exact decide_eq_false (Nat.not_le.2 (h n hn))
  · rfl
  · rfl

/-! ## The need handed to the machine (R36, R42, R92) -/

section
variable {s : State} {l : LaneId}

theorem needTaken_equipment (k : LaneId) :
    (s.needTaken l).supervisor k = s.supervisor k ∧ (s.needTaken l).pairs = s.pairs := by
  unfold State.needTaken
  split
  · exact ⟨supervisor_modTracker _ _ _ _, rfl⟩
  all_goals exact ⟨rfl, rfl⟩

/-- R97: a machine with a cycle owed or in progress does not park yet. -/
theorem followPark_waits (h : (s.supervisor l).owed.isSome = true ∨ (s.supervisor l).record.isSome = true) :
    s.followPark l = s := by
  refine if_neg fun c => ?_
  have rest := c.2
  simp only [State.parkMayFollow, State.sequencing, Bool.and_eq_true, Bool.not_eq_true',
    Option.isNone_iff_eq_none] at rest
  rcases h with h | h
  · rw [rest.1.1.2] at h; cases h
  · rw [rest.1.1.1.2] at h; cases h

/-- R92: once a need is owed or run, what follows leaves the supervisor and the pinsetter. -/
theorem afterNeed_leaves {t : State}
    (h : (t.supervisor l).owed.isSome = true ∨ (t.supervisor l).record.isSome = true) :
    let u := ((t.needTaken l).armingCheck l).followPark l
    u.supervisor l = t.supervisor l ∧ u.pinsetter l = t.pinsetter l := by
  intro u
  obtain ⟨supervisor, pairs⟩ := needTaken_equipment (s := t) (l := l) l
  have same : ((t.needTaken l).armingCheck l).supervisor l = t.supervisor l :=
    (supervisor_armingCheck ..).trans supervisor
  have e : u = (t.needTaken l).armingCheck l := followPark_waits (same ▸ h)
  rw [e]
  refine ⟨same, (pinsetter_armingCheck ..).trans ?_⟩
  simp only [State.pinsetter, State.node, State.poller, State.pair, pairs]

/-- R42: a need replaces an owed cycle. -/
theorem handNeed_replaces (n : Need) (h : (s.supervisor l).owed.isSome = true) :
    (s.handNeed l n).supervisor l = { s.supervisor l with owed := some n } := by
  rw [State.handNeed, if_pos h, State.raiseMachineState, supervisor_raise, supervisor_modSupervisor,
    if_pos rfl]

/-- R42: a need waits for the end of a sequence. -/
theorem handNeed_defers (n : Need) (owed : (s.supervisor l).owed = none)
    (h : (s.supervisor l).record.isSome = true) :
    (s.handNeed l n).supervisor l = { s.supervisor l with deferredNeed := some n } := by
  rw [State.handNeed, owed, if_neg (by decide), State.sequencing, if_pos h, supervisor_modSupervisor,
    if_pos rfl]

theorem handNeed_takes (n : Need) (owed : (s.supervisor l).owed = none)
    (h : (s.supervisor l).record = none) : s.handNeed l n = s.takeNeed l n := by
  rw [State.handNeed, owed, if_neg (by decide), State.sequencing, h, if_neg (by decide)]

/-- R92: at HOLD or above, a READY machine owes the need. -/
theorem takeNeed_owes (n : Need) (ready : (s.supervisor l).machine = .ready)
    (hold : s.belowHold l = false) :
    (s.takeNeed l n).supervisor l = { s.supervisor l with owed := some n } := by
  let t := (s.modSupervisor l fun v => { v with owed := some n }).raiseMachineState l
  have ht : t.supervisor l = { s.supervisor l with owed := some n } :=
    (supervisor_raise _ _ _ _).trans ((supervisor_modSupervisor _ _ _ _).trans (if_pos rfl))
  have taken : s.takeNeed l n = ((t.needTaken l).armingCheck l).followPark l := by
    unfold State.takeNeed
    rw [ready, hold]
    rfl
  rw [taken, (afterNeed_leaves (.inl (by rw [ht]; rfl))).1, ht]

/-- R92: below HOLD, a READY machine runs the need. -/
theorem takeNeed_runs (ready : (s.supervisor l).machine = .ready) (below : s.belowHold l = true)
    (empty : (s.pinsetter l).slot = none) :
    (s.takeNeed l .full).supervisor l =
      newSequence .fullCycle none { s.supervisor l with owed := none } ∧
    ((s.takeNeed l .full).pinsetter l).slot = some ⟨.cycle .fullCycle ((s.supervisor l).cycle + 1),
      (s.pinsetter l).nextSerial, none⟩ := by
  let t := s.modSupervisor l fun v => { v with owed := none }
  have ht : t.supervisor l = { s.supervisor l with owed := none } :=
    (supervisor_modSupervisor _ _ _ _).trans (if_pos rfl)
  obtain ⟨hv, hn⟩ := beginSequence_takes (s := t) (l := l) (k := .fullCycle) none
    (slotTakes_of_empty empty _)
  have taken : s.takeNeed l .full =
      (((t.beginSequence l .fullCycle none).needTaken l).armingCheck l).followPark l := by
    unfold State.takeNeed
    rw [ready, below]
    rfl
  obtain ⟨supervisor, pinsetter⟩ := afterNeed_leaves (t := t.beginSequence l .fullCycle none) (l := l)
    (.inr (by rw [hv]; rfl))
  rw [taken, supervisor, pinsetter, hv, hn, ht]
  exact ⟨rfl, rfl⟩

end

/-! ## The withdrawal (R17, R42) -/

/-- A session whose bowler has withdrawn. -/
def withdrawnFrom (x : Session) (slot : Nat) (b : Bowler) : Session :=
  { x with bowlers := x.bowlers.set (slot - 1) (withdrawn b) }

section
variable {s : State} {i : SessionId} {x : Session} {slot : Nat} {b : Bowler}

/-- R42: the record withdrawn, and GAME_DONE for a game that had begun. -/
theorem withdrawalEffect_eq (hx : s.session i = some x) (hb : bowlerAt x slot = some b)
    (stays : b.withdrawalPending = false) :
    s.withdrawalEffect i slot = { s.setSession i (some (withdrawnFrom x slot b)) with
      notices := (s.withdrawalEffect i slot).notices } ∧
    (b.game.status = .inProgress →
      (laneSource x.lane, NoticeKind.gameDone) ∈ (s.withdrawalEffect i slot).notices.map noticeKey) := by
  have record : modBowler withdrawBowlerRecord slot x = withdrawnFrom x slot b := by
    rw [modBowler_of_bowlerAt hb, withdrawBowlerRecord_eq stays]; rfl
  have status : gameStatus x slot = some b.game.status := by rw [gameStatus, hb]; rfl
  unfold State.withdrawalEffect
  rw [hx]
  dsimp only
  rw [record, status]
  by_cases playing : b.game.status = .inProgress
  · obtain ⟨e, last⟩ : ∃ e, (withdrawn b).totals.getLast? = some e := by
      simp only [withdrawn, if_pos playing]
      exact ⟨_, List.getLast?_concat⟩
    have at_slot : bowlerAt (withdrawnFrom x slot b) slot = some (withdrawn b) :=
      (bowlerAt_set hb slot).trans (if_pos rfl)
    rw [if_pos (congrArg some playing), State.raiseGameDone, session_setSession_self]
    dsimp only
    rw [at_slot]
    dsimp only
    rw [last]
    exact ⟨rfl, fun _ => mem_keys_addNotice (.inr rfl)⟩
  · rw [if_neg fun e => playing (Option.some.inj e)]
    exact ⟨rfl, fun h => absurd h playing⟩

/-- The session once the turn has passed from the withdrawn bowler. -/
def passedTo (x : Session) (k : Nat) : Session :=
  { x with
    bowlers := x.bowlers.modify (k - 1) begun
    slot := some k, nextBall := ⟨k, x.frame, 1, .full, fullRack, none⟩ }

/-- R37, R38, R42: the withdrawal of the bowler who holds the turn passes it on. -/
theorem withdrawNow_passes {k : Nat} (hx : s.session i = some x) (hb : bowlerAt x slot = some b)
    (stays : b.withdrawalPending = false) (turn : x.slot = some slot) (due : x.expiryDue = false)
    (found : (x.takingPart.filter fun m => decide (slot < m)).find?
      (fun m => gameStatus x m == some .inProgress ||
        x.frame == 1 && gameStatus x m == some .notStarted) = some k)
    (below : gameStatus x k = some .notStarted → gamesLimitReached x = false) :
    let y := passedTo (withdrawnFrom x slot b) k
    let s2 := ((s.withdrawalEffect i slot).setSession i (some y)).armingCheck x.lane
    s.withdrawNow i slot =
      if x.nextBall.faced = .leave ∧ s.holdsLane i x.lane then s2.handNeed x.lane (fullNeed y)
      else s2 := by
  intro y s2
  let z := withdrawnFrom x slot b
  have same : ∀ m, slot < m → gameStatus z m = gameStatus x m := fun m hm => by
    rw [gameStatus, gameStatus, show bowlerAt z m = bowlerAt x m from
      (bowlerAt_set hb m).trans (if_neg (by omega))]
  have above : slot < k := by
    simpa using (List.mem_filter.1 (List.mem_of_find?_eq_some found)).2
  have found' : (z.takingPart.filter fun m => decide (slot < m)).find?
      (fun m => gameStatus z m == some .inProgress ||
        z.frame == 1 && gameStatus z m == some .notStarted) = some k := by
    rw [← found]
    refine List.find?_congr fun m hm => ?_
    rw [same m (by simpa using (List.mem_filter.1 hm).2)]
    rfl
  have passed : passTurn z slot = ⟨y, false, false⟩ := by
    rw [passTurn_found (x := z) (fun h => below (same k above ▸ h)) found']
    rfl
  have hz : (s.withdrawalEffect i slot).session i = some z := by
    rw [(withdrawalEffect_eq hx hb stays).1]
    exact session_setSession_self s i (some z)
  have ended : (s.withdrawalEffect i slot).frameEnded i = s.withdrawalEffect i slot := by
    unfold State.frameEnded
    rw [hz]
    exact if_neg (by simp [z, withdrawnFrom, due])
  have turned : ((s.withdrawalEffect i slot).frameEnded i).passTurnFrom i slot = s2 := by
    unfold State.passTurnFrom
    rw [ended, hz]
    dsimp only
    rw [passed]
    rfl
  have hy : s2.session i = some y := by
    rw [session_armingCheck]
    exact session_setSession_self _ i (some y)
  unfold State.withdrawNow
  rw [hx]
  dsimp only
  rw [if_pos turn, turned, State.withdrawalNeed, hy]

/-- R17, R42: one who does not hold the turn. -/
theorem withdrawNow_record (hx : s.session i = some x) (turn : x.slot ≠ some slot) :
    s.withdrawNow i slot = s.withdrawalEffect i slot := by
  unfold State.withdrawNow
  rw [hx]
  exact if_neg turn

end

/-- A state whose notices alone differ. -/
theorem OnPair.of_notices {p : PairId} {s t : State} (h : t = { s with notices := t.notices }) :
    OnPair p s t := by
  rw [h]
  exact { OnPair.refl p s with others := rfl }

/-- R37, R91: where the turn has passed, nothing but the arming of the lane is decided on it. -/
theorem turnPassed_leaves {s e : State} {i : SessionId} {x y z : Session}
    (effect : e = { s.setSession i (some z) with notices := e.notices }) :
    let t := (e.setSession i (some y)).armingCheck x.lane
    OnPair (pairOf x.lane) (s.setSession i (some y)) t ∧ t.notices = e.notices ∧
      t.supervisor x.lane = s.supervisor x.lane ∧ t.pinsetter x.lane = s.pinsetter x.lane ∧
      t.belowHold x.lane = s.belowHold x.lane := by
  intro t
  have moved := ((OnPair.of_notices (p := pairOf x.lane) effect).setSession_congr i (some y)).armingCheck
    x.lane rfl
  rw [setSession_setSession] at moved
  have lanes : e.lanes = s.lanes := by rw [effect]; rfl
  have pairs : e.pairs = s.pairs := by rw [effect]; rfl
  refine ⟨moved, notices_armingCheck .., (supervisor_armingCheck ..).trans ?_,
    (pinsetter_armingCheck ..).trans ?_, (faultsOn_congr ((faults_armingCheck ..).trans ?_)
      (moved.pairFaults _)).1⟩
  · exact congrArg (fun v : Vector Lane 32 => (v[x.lane]).supervisor) lanes
  · exact congrArg (fun v : Vector Pair 16 =>
      (v[pairOf x.lane]).poller.nodes[pinsetterAddr (sideOf x.lane)]) pairs
  · exact congrArg (fun v : Vector Lane 32 => (v[x.lane]).faults) lanes

/-! ## WITHDRAW_BOWLER -/

theorem reqWithdrawBowler_accepted {s : State} {n slot : Nat} {i : SessionId} {x : Session} {b : Bowler}
    (run : s.device = .run) (hi : s.sessionInUse? n = some (i, x)) (hb : bowlerAt x slot = some b)
    (member : b.member = true) (stays : x.state ≠ .closing) (pending : b.withdrawalPending = false)
    (others : 2 ≤ (x.bowlers.filter fun c => c.member && !c.withdrawalPending).length) :
    reqWithdrawBowler n slot s = (s.withdraw i x slot, accept) := by
  have enough : ¬ (remaining x).length ≤ 1 := Nat.not_le.2 others
  simp [reqWithdrawBowler, run, hi, hb, member, stays, pending, enough]

theorem sessionInUse_eq_some {s : State} {n : Nat} {i : SessionId} {x : Session}
    (h : s.sessionInUse? n = some (i, x)) : s.session i = some x := by
  unfold State.sessionInUse? at h
  split at h
  · cases h
  · obtain ⟨y, hy, e⟩ := Option.map_eq_some_iff.1 h
    cases e
    exact hy

/-- R36: the need of a session that is not leaving its lane. -/
theorem fullNeed_stays {x : Session} (closing : x.state ≠ .closing) (moving : x.state ≠ .moving) :
    fullNeed x = if x.mode = .single ∧ x.state = .exhausted then .fullThenPark else .full := by
  simp [fullNeed, needsPark, closing, moving]

end Sys2Proof.Machine

open Sys2Proof Sys2Proof.Machine

/-- Settles O38: the record withdrawn, the turn passed on, and the need handed to the machine. -/
theorem withdrawBowlerEndsMembership : Obligations.WithdrawBowlerEndsMembership := by
  unfold Obligations.WithdrawBowlerEndsMembership
  intro s tag n slot i x b trunk run hi hb member stays pending others withdrawn told y
  have hx := sessionInUse_eq_some hi
  have accepted := reqWithdrawBowler_accepted run hi hb member stays pending others
  have kept := (Kept.refl s).withdraw i x slot
  obtain ⟨effect, done⟩ := withdrawalEffect_eq hx hb pending
  have tells : ∀ t : State, (b.game.status = .inProgress →
      (laneSource x.lane, NoticeKind.gameDone) ∈ t.notices.map noticeKey) → told t := by
    intro t h playing
    obtain ⟨e, he, key⟩ := List.mem_map.1 (h playing)
    exact ⟨e, he, congrArg Prod.fst key, congrArg Prod.snd key⟩
  refine ⟨fun flight turn => ?_, fun none_leaving turn => ?_,
    fun none_leaving turn flight due k found below => ?_⟩
  · have marked : s.withdraw i x slot = s.setSession i (some { x with
        bowlers := x.bowlers.set (slot - 1) { b with withdrawalPending := true } }) := by
      rw [State.withdraw, if_pos ⟨flight, turn⟩, modSession_eq hx, modBowler_of_bowlerAt hb]
      rfl
    exact exec_of_act rfl trunk (marked ▸ accepted) rfl
  · have settled : s.withdraw i x slot = s.withdrawalEffect i slot := by
      rw [State.withdraw, if_neg fun c => turn c.2, withdrawNow_record hx turn]
      refine settlePair_stays ((OnPair.of_notices (p := 0) effect).noneLeaving ?_)
      exact none_leaving.setSession hx rfl
    exact ⟨s.withdrawalEffect i slot, exec_of_act rfl trunk (settled ▸ accepted) (settled ▸ kept.trunk),
      effect, tells _ done⟩
  · let l := x.lane
    obtain ⟨opens, moves⟩ := none_leaving i x hx
    have reached : gameStatus x k = some .notStarted → gamesLimitReached x = false :=
      fun h => gamesLimitReached_below (below h)
    have now := withdrawNow_passes (s := s) hx hb pending turn due found reached
    let z := passedTo (withdrawnFrom x slot b) k
    let s2 := ((s.withdrawalEffect i slot).setSession i (some z)).armingCheck l
    obtain ⟨moved, notices, supervisor, pinsetter, belowHold⟩ := turnPassed_leaves (x := x) (y := z) effect
    have told2 : told s2 := tells s2 (notices ▸ done)
    have need : fullNeed z = if x.mode = .single ∧ x.state = .exhausted then .fullThenPark else .full :=
      fullNeed_stays (x := z) opens moves
    have onPair : OnPair (pairOf l) (s.setSession i (some z)) (s.withdrawNow i slot) := by
      rw [now]
      split
      · exact moved.handNeed l _ rfl
      · exact moved
    have settled : s.withdraw i x slot = s.withdrawNow i slot := by
      rw [State.withdraw, if_neg fun c => by rw [flight] at c; exact absurd c.1 (by decide)]
      exact settlePair_stays (onPair.noneLeaving (none_leaving.setSession hx rfl))
    refine ⟨s.withdrawNow i slot, exec_of_act rfl trunk (settled ▸ accepted) (settled ▸ kept.trunk),
      onPair, ?_, ?_, ?_⟩
    · rw [now]
      split
      · exact tells _ fun h => (Decides.refl.handNeed _).keys (notices ▸ done h)
      · exact told2
    · intro h
      rw [now, if_neg, supervisor]
      exact fun c => h.elim (absurd c.1) fun k => k (by simpa [State.holdsLane] using c.2)
    · intro leave holds
      rw [now, if_pos ⟨leave, by simp [State.holdsLane, holds]⟩, need]
      rw [← supervisor, ← pinsetter, ← belowHold]
      refine ⟨handNeed_replaces _, handNeed_defers _, fun owed record ready => ?_⟩
      rw [handNeed_takes _ owed record]
      refine ⟨takeNeed_owes _ ready, fun hold full empty => ?_⟩
      rw [full]
      obtain ⟨v, slot⟩ := takeNeed_runs ready hold empty
      refine ⟨v.trans ?_, slot⟩
      rw [newSequence, ← owed]
      rfl

end

section
/-! SUPPORT. CLOSE_LANE (O39): a lane whose open line already holds more than a charge line's top amount.
The billing close of R159 appends that amount as it stands where it charges nothing. -/

namespace Sys2Proof.Machine

open Sys2Proof

/-- A session billed by TIME on lane 1, with no seconds and no carry to charge at its close. -/
def unchargedSession : Session where
  state := .opened
  mode := .single
  lane := 0
  terms := { Initial.terms with billing := .time }
  expiryDue := false
  game := 1
  frame := 1
  slot := none
  bowlers := []
  takingPart := []
  nextBall := firstBallOf 1 1
  held := none
  pendingResume := none
  billing := newBilling .time false 5

/-- An open line with an amount of one more than the top of R152. -/
def overfullLine : OpenLine := ⟨0, 0, 0, 1, 4294967296, Initial.clock.calendar⟩

/-- The centre in RUN with that session on lane 1, whose open line is that line. -/
def overfullState : State :=
  ((({ State.reset with device := .run }).setSession 0 (some unchargedSession)).modEntry 0 fun e =>
    { e with state := .opened, holder := some 0 }).modMeter 0 fun m =>
    { m with openLine := some overfullLine }

/-- The charge lines of an outcome. -/
def chargeLinesOf : Host.Outcome State Fault Refusal → List ChargeLine
  | .next t => t.charges.lines
  | .fault _ | .refused _ => []

/-- R159, stage 4: the open line is appended with the amount it holds. -/
theorem closeLane_overfull :
    (chargeLinesOf (exec (.closeLane 1 1 none) overfullState)).map (·.amount) = [4294967296] := by
  decide +kernel

theorem charges_reply (t : State) (r : Response) : (t.reply r).charges = t.charges := by
  unfold State.reply
  split <;> rfl

/-- The Charge List, as read. -/
theorem OnPair.charges {p : PairId} {s t : State} (h : OnPair p s t) : t.charges = s.charges := by
  rw [h.others]

/-- Nobody but the session on lane 1 is in use. -/
theorem overfullState_alone (j : SessionId) (y : Session) (hj : j ≠ 0)
    (hy : overfullState.session j = some y) : y.state ≠ .closing ∧ y.state ≠ .moving := by
  have free : ∀ k : SessionId, k ≠ 0 → overfullState.session k = none := by decide +kernel
  rw [free j hj] at hy
  cases hy

end Sys2Proof.Machine

open Sys2Proof Sys2Proof.Machine

/-- Refutes O39: the statement caps the amount of the appended TIME line at 4,294,967,295, and the close
appends an open line of 4,294,967,296, to which it adds nothing, as it stands. No hypothesis bounds the
amount of the open line. -/
theorem not_closeLaneClosesOrWaits : ¬ Obligations.CloseLaneClosesOrWaits := by
  unfold Obligations.CloseLaneClosesOrWaits
  intro h
  obtain ⟨_, closes⟩ := h overfullState 1 1 0 ⟨rfl, rfl⟩ rfl (by decide +kernel)
  obtain ⟨t, runs, _, _, timed⟩ := closes 0 unchargedSession none (by decide +kernel)
    (by decide +kernel) (by decide +kernel) rfl rfl (by decide) (by decide +kernel) (.inl rfl)
    overfullState_alone
  have stated := timed overfullLine (by decide +kernel) rfl rfl (by decide +kernel) (by decide) (by decide)
    (by decide +kernel) (by decide +kernel) (by decide +kernel)
  have appended := closeLane_overfull
  rw [runs] at appended
  have lines : t.charges.lines.map (·.amount) = [4294967295] := by
    rw [stated.charges]
    decide +kernel
  have answered : (t.reply ⟨1, 31, ⟨.ok, .nothing⟩⟩).charges.lines.map (·.amount) = [4294967296] :=
    appended
  rw [charges_reply, lines] at answered
  exact absurd answered (by decide)

end

section
/-! SUPPORT. MOVE_SESSION (O40): the open time line appended, the source lane let go, and the session
opened on its target. -/

namespace Sys2Proof.Machine

open Sys2Proof

/-! ## The open time line (R153, R160) -/

/-- What a line for the Charge List leaves: it enters the list, or the unlisted total of its lane. -/
theorem appendLine_leaves (s : State) (x : ChargeLine) :
    let t := s.appendLine x
    t = { s with lanes := t.lanes, charges := t.charges, notices := t.notices } ∧
      (∀ q, t.entry q = s.entry q) ∧ ∀ q, q ≠ x.lane → t.lane q = s.lane q := by
  intro t
  have ht : t = s.appendLine x := rfl
  unfold State.appendLine at ht
  split at ht
  · split at ht <;> rw [ht] <;> exact ⟨rfl, fun _ => rfl, fun _ _ => rfl⟩
  · rw [ht]
    exact ⟨rfl, fun q => entry_modMeter .., fun q hq => (lane_modMeter ..).trans (if_neg hq)⟩

/-- R161: a line that finds room is appended, and the meters stand. -/
theorem appendLine_room {s : State} {x : ChargeLine} (room : s.charges.lines.length < 256) :
    (s.appendLine x).charges.lines = s.charges.lines ++ [x] ∧
      ∀ q, (s.appendLine x).meter q = s.meter q := by
  unfold State.appendLine
  rw [if_pos room]
  dsimp only
  split <;> exact ⟨rfl, fun _ => rfl⟩

theorem appendOpenLine_leaves (s : State) (l : LaneId) :
    let t := s.appendOpenLine l
    t = { s with lanes := t.lanes, charges := t.charges, notices := t.notices } ∧
      (∀ q, t.entry q = s.entry q) ∧ ∀ q, q ≠ l → t.lane q = s.lane q := by
  intro t
  have ht : t = s.appendOpenLine l := rfl
  unfold State.appendOpenLine at ht
  split at ht
  · rw [ht]; exact ⟨rfl, fun _ => rfl, fun _ _ => rfl⟩
  · next o _ =>
    obtain ⟨others, entry, lanes⟩ :=
      appendLine_leaves (s.modMeter l fun m => { m with openLine := none }) (timeLine l o)
    rw [ht]
    exact ⟨by rw [others]; rfl, fun q => (entry q).trans (entry_modMeter ..),
      fun q hq => (lanes q hq).trans ((lane_modMeter ..).trans (if_neg hq))⟩

theorem session_appendOpenLine (s : State) (l : LaneId) (i : SessionId) :
    (s.appendOpenLine l).session i = s.session i := by
  rw [(appendOpenLine_leaves s l).1]; rfl

theorem pairs_appendOpenLine (s : State) (l : LaneId) : (s.appendOpenLine l).pairs = s.pairs := by
  rw [(appendOpenLine_leaves s l).1]

theorem appendOpenLine_none {s : State} {l : LaneId} (h : (s.meter l).openLine = none) :
    s.appendOpenLine l = s := by
  rw [State.appendOpenLine, h]

/-- R153: an open line that finds room is appended as a TIME line. -/
theorem appendOpenLine_room {s : State} {l : LaneId} {o : OpenLine}
    (h : (s.meter l).openLine = some o) (room : s.charges.lines.length < 256) :
    ((s.appendOpenLine l).meter l).openLine = none ∧
      (s.appendOpenLine l).charges.lines = s.charges.lines ++ [timeLine l o] := by
  rw [State.appendOpenLine, h]
  obtain ⟨lines, meter⟩ := appendLine_room (x := timeLine l o)
    (s := s.modMeter l fun m => { m with openLine := none }) room
  refine ⟨?_, lines⟩
  rw [meter, meter_modMeter, if_pos rfl]

/-! ## A resumed frame (R59 to R61) -/

theorem handles_modBowler {f : Bowler → Bowler} (hf : ∀ b, (f b).handle = b.handle) (k : Nat)
    (x : Session) : (modBowler f k x).bowlers.map (·.handle) = x.bowlers.map (·.handle) := by
  have list : ∀ (bs : List Bowler) n, (modifyNth f n bs).map (·.handle) = bs.map (·.handle) := by
    intro bs
    induction bs with
    | nil => intro n; cases n <;> rfl
    | cons b bs ih =>
      intro n
      cases n with
      | zero => simp [modifyNth, hf]
      | succ n => simp [modifyNth, ih]
  unfold modBowler
  split
  · rfl
  · exact list _ _

/-- What a resume instruction may change of a session. -/
structure Resumed (x y : Session) : Prop where
  others : y = { x with
    bowlers := y.bowlers, nextBall := y.nextBall, pendingResume := y.pendingResume }
  handles : y.bowlers.map (·.handle) = x.bowlers.map (·.handle)

theorem Resumed.refl (x : Session) : Resumed x x := ⟨rfl, rfl⟩

theorem resumed_resumeRecords (r : Resume) (x : Session) : Resumed x (resumeRecords r x) := by
  unfold resumeRecords
  split
  · exact ⟨rfl, rfl⟩
  · dsimp only
    split
    · exact .refl x
    · split
      · exact .refl x
      · obtain ⟨bs, e⟩ := modBowler_eq
          (fun b => { b with game := replayGame x.nextBall.frame b.game }) x.nextBall.slot x
        have handles := handles_modBowler
          (f := fun b => { b with game := replayGame x.nextBall.frame b.game }) (fun _ => rfl)
          x.nextBall.slot x
        refine ⟨?_, handles⟩
        rw [modGame, e]

/-- R59: a resume instruction is kept, or applied and reported. -/
theorem resumeInstruction_resumes {s : State} {i : SessionId} {x : Session} (hx : s.session i = some x)
    (r : Resume) : ∃ y, Resumed x y ∧ s.resumeInstruction i r =
      { s.setSession i (some y) with notices := (s.resumeInstruction i r).notices } := by
  have stands : s = { s.setSession i (some x) with notices := s.notices } := by
    rw [setSession_session hx]
  unfold State.resumeInstruction
  rw [hx]
  dsimp only
  split
  · exact ⟨x, .refl x, stands⟩
  · split
    · exact ⟨{ x with pendingResume := some r }, ⟨rfl, rfl⟩, by rw [modSession_eq hx]⟩
    · obtain ⟨others, handles⟩ := resumed_resumeRecords r x
      refine ⟨{ resumeRecords r x with pendingResume := none }, ⟨by rw [others], handles⟩, ?_⟩
      unfold State.applyResume
      rw [hx]
      dsimp only
      split <;> rfl

theorem pairs_resumeInstruction {s : State} {i : SessionId} {x : Session} (hx : s.session i = some x)
    (r : Resume) : (s.resumeInstruction i r).pairs = s.pairs := by
  obtain ⟨y, _, e⟩ := resumeInstruction_resumes hx r
  rw [e]
  rfl

/-! ## The move (R22, R23) -/

/-- R23: a pending move completes exactly where the lane is quiet. -/
theorem tryMove_moving {s : State} {l : LaneId} {i : SessionId} {x : Session} {m : MovePending}
    (held : s.holder l = some (i, x)) (pending : (s.entry l).movePending = some m)
    (moving : x.state = .moving) :
    s.tryMove l = if s.quiet l then s.runMove l i x m else s := by
  rw [State.tryMove, held, pending]
  simp only [moving, true_and]

/-- R18: quietness is the ball's and the supervisor's. -/
theorem quiet_congr {s t : State} {l : LaneId}
    (ball : inFlight (t.tracker l).play = inFlight (s.tracker l).play)
    (machine : t.supervisor l = s.supervisor l) : t.quiet l = s.quiet l := by
  rw [State.quiet, State.quiet, ball, machine]

/-- Nothing of a poll order changes. -/
def SameOrders (s t : State) : Prop :=
  ∀ q, (t.poller q).order = (s.poller q).order ∧ (t.poller q).pendingOrder = (s.poller q).pendingOrder

theorem SameOrders.trans {s t u : State} (h : SameOrders s t) (k : SameOrders t u) : SameOrders s u :=
  fun q => ⟨(k q).1.trans (h q).1, (k q).2.trans (h q).2⟩

theorem SameOrders.of_pairs {s t : State} (h : t.pairs = s.pairs) : SameOrders s t := fun q => by
  simp only [State.poller, State.pair, h, and_self]

theorem Decides.sameOrders {p : PairId} {s t : State} (h : Decides p s t) : SameOrders s t := fun q => by
  rw [h.poller q]
  exact ⟨rfl, rfl⟩

/-- R20: the entry of a lane that is left. -/
def leftEntry (e : LaneEntry) : LaneEntry :=
  { e with state := .closed, holder := none, waiting := none, movePending := none }

/-- R14, R23: the entry of a lane that a session comes to. -/
def openedEntry (i : SessionId) (e : LaneEntry) : LaneEntry :=
  { e with state := .opened, holder := some i }

/-- A session moved, its frame resumed. -/
structure Moved (k : LaneId) (x y : Session) : Prop where
  others : y = { x with
    lane := k, state := .opened, bowlers := y.bowlers, nextBall := y.nextBall
    pendingResume := y.pendingResume
    billing := { x.billing with state := y.billing.state } }
  handles : y.bowlers.map (·.handle) = x.bowlers.map (·.handle)

section
variable {s : State} {l k : LaneId} {i : SessionId} {x : Session}

/-- R23: the source lane is let go. -/
theorem source_left (s : State) (l : LaneId) :
    let t := (((s.discardOwed l).modEntry l fun e => { e with movePending := none }).closeLaneEntry l)
    OnPair (pairOf l) (s.modEntry l leftEntry) t ∧ SameOrders s t := by
  intro t
  have left := ((((OnPair.refl (pairOf l) s).discardOwed l rfl).modEntry_congr l fun e =>
    { e with movePending := none }).modEntry_congr l fun e =>
    { e with state := .closed, holder := none, waiting := none }).laneChanged l rfl |>.sessionEnds l rfl
  rw [modEntry_modEntry] at left
  have first : SameOrders s (s.discardOwed l) :=
    (Decides.discardOwed (p := pairOf l) (l := l) .refl).sameOrders
  have last : SameOrders (((s.discardOwed l).modEntry l fun e =>
      { e with movePending := none }).modEntry l fun e =>
      { e with state := .closed, holder := none, waiting := none }) t :=
    (Decides.sessionEnds (.laneChanged .refl)).sameOrders
  exact ⟨left, first.trans ((SameOrders.of_pairs rfl).trans last)⟩

/-- R23: the session opens on the target. -/
theorem target_opened (hx : s.session i = some x) (m : MoveResume) (terms : Terms) :
    let s3 := (s.modSession i fun y => { y with lane := k, state := .opened }).modEntry k (openedEntry i)
    let s4 := ((s3.moveCredit i k).raiseSessionState i (some l)).decideLift (pairOf k)
    let t := (s4.holderArrives k).resumeInstruction i (moveChoice m terms)
    ∃ y, Moved k x y ∧ SameOrders s t ∧
      OnPair (pairOf k) ((s.setSession i (some y)).modEntry k (openedEntry i)) t := by
  intro s3 s4 t
  let z : Session := { x with
    lane := k, state := .opened, billing := followCredit (s3.credit k) x.billing }
  let u := (s.setSession i (some z)).modEntry k (openedEntry i)
  have credited : s3.moveCredit i k = u := by
    have hs3 : s3.session i = some { x with lane := k, state := .opened } := by
      simp only [s3, modSession_eq hx]
      exact session_setSession_self s i _
    rw [State.moveCredit, modSession_eq hs3]
    simp only [s3, modSession_eq hx]
    exact setSession_setSession (s.modEntry k (openedEntry i)) i _ _
  have arrived : OnPair (pairOf k) u (s4.holderArrives k) := by
    simp only [s4, credited]
    exact (((OnPair.refl _ u).raiseSessionState i (some l)).decideLift _ rfl).holderArrives k rfl
  have holder := (arrived.session i).trans (session_setSession_self s i (some z))
  obtain ⟨y, resumed, final⟩ := resumeInstruction_resumes holder (moveChoice m terms)
  refine ⟨y, ⟨?_, resumed.handles⟩, ?_, ?_⟩
  · rw [resumed.others]
    exact congrArg (fun b => ({ x with
      lane := k, state := .opened, bowlers := y.bowlers, nextBall := y.nextBall
      pendingResume := y.pendingResume, billing := b } : Session)) (followCredit_eq _ _)
  · have decided : SameOrders (u.raiseSessionState i (some l)) (s4.holderArrives k) := by
      simp only [s4, credited]
      exact (Decides.holderArrives (.decideLift .refl)).sameOrders
    have raised : SameOrders s (u.raiseSessionState i (some l)) :=
      SameOrders.of_pairs (raiseSessionState_equipment u i (some l)).2
    exact (raised.trans decided).trans (SameOrders.of_pairs (pairs_resumeInstruction holder _))
  · have moved := (arrived.setSession_congr i (some y)).trans (OnPair.of_notices final)
    rwa [show u.setSession i (some y) = _ from setSession_setSession (s.modEntry k (openedEntry i)) i _ _]
      at moved

end

/-- R23: a completed move: the open line appended, then the source lane let go, then the target opened. -/
theorem runMove_moves {s : State} {l k : LaneId} {i : SessionId} {x z : Session} (m : MoveResume)
    (hx : s.session i = some x) :
    let a := s.appendOpenLine l
    let t := s.runMove l i z ⟨k, m⟩
    ∃ v y, OnPair (pairOf l) (a.modEntry l leftEntry) v ∧ Moved k x y ∧
      OnPair (pairOf k) ((v.setSession i (some y)).modEntry k (openedEntry i)) t ∧ SameOrders s t := by
  intro a t
  obtain ⟨left, orders⟩ := source_left a l
  have hv : ((((a.discardOwed l).modEntry l fun e =>
      { e with movePending := none }).closeLaneEntry l)).session i = some x := by
    rw [left.session, session_modEntry, session_appendOpenLine, hx]
  obtain ⟨y, moved, last, opened⟩ := target_opened (l := l) (k := k) hv m z.terms
  exact ⟨_, y, left, moved, opened,
    (SameOrders.of_pairs (pairs_appendOpenLine s l)).trans (orders.trans last)⟩

theorem reqMoveSession_accepted {s : State} {n m : Nat} {r : MoveResume} {i : SessionId} {x : Session}
    {k : LaneId} (run : s.device = .run) (hi : s.sessionInUse? n = some (i, x)) (mode : x.mode = .single)
    (opened : x.state = .opened) (due : x.expiryDue = false) (hk : s.mappedLane? m = some k)
    (other : k ≠ x.lane) (closed : (s.entry k).state = .closed) (target : s.isMoveTarget k = false)
    (machine : openableMachine (s.supervisor k).machine = true) :
    reqMoveSession n m r s = (s.beginMove i x.lane k r, accept) := by
  simp [reqMoveSession, run, hi, mode, opened, due, hk, other, closed, target, machine]

/-- R22: the entry of a lane whose session is to move. -/
def leavingEntry (m : MovePending) (e : LaneEntry) : LaneEntry := { e with movePending := some m }

/-- R22: the session MOVING and its move pending, before the lane is tested. -/
def State.moveStarted (s : State) (i : SessionId) (x : Session) (m : MovePending) : State :=
  (((s.setSession i (some { x with state := .moving })).modEntry x.lane (leavingEntry m)).armingCheck
    x.lane).raiseSessionState i none

section
variable {s : State} {i : SessionId} {x : Session} (m : MovePending)

theorem moveStarted_onPair :
    OnPair (pairOf x.lane)
      ((s.setSession i (some { x with state := .moving })).modEntry x.lane (leavingEntry m))
      (s.moveStarted i x m) :=
  ((OnPair.refl _ _).armingCheck x.lane rfl).raiseSessionState i none

theorem moveStarted_pairs : (s.moveStarted i x m).pairs = s.pairs := by
  rw [State.moveStarted, (raiseSessionState_equipment _ _ _).2, armingCheck_others]
  rfl

/-- R18: a move that begins leaves its lane as quiet as it was. -/
theorem moveStarted_quiet : (s.moveStarted i x m).quiet x.lane = s.quiet x.lane := by
  obtain ⟨lanes, _⟩ := raiseSessionState_equipment
    (((s.setSession i (some { x with state := .moving })).modEntry x.lane (leavingEntry m)).armingCheck
      x.lane) i none
  have same := fun (f : Lane → PlayState × Supervisor) =>
    congrArg (fun v : Vector Lane 32 => f v[x.lane]) lanes
  refine quiet_congr ?_ ?_
  · refine (congrArg (inFlight ·.1) (same fun v => (v.tracker.play, v.supervisor))).trans ?_
    refine (inFlight_armingCheck ..).trans ?_
    rw [tracker_modEntry]
    rfl
  · refine (congrArg (·.2) (same fun v => (v.tracker.play, v.supervisor))).trans ?_
    refine (supervisor_armingCheck ..).trans ?_
    rw [supervisor_modEntry]
    rfl

/-- R23: the move completes in the same command where the lane is quiet, and else waits. -/
theorem beginMove_eq {k : LaneId} {r : MoveResume} (hx : s.session i = some x)
    (holds : (s.entry x.lane).holder = some i) :
    s.beginMove i x.lane k r =
      if s.quiet x.lane then
        (s.moveStarted i x ⟨k, r⟩).runMove x.lane i { x with state := .moving } ⟨k, r⟩
      else s.moveStarted i x ⟨k, r⟩ := by
  let u := s.moveStarted i x ⟨k, r⟩
  have on := moveStarted_onPair (s := s) (i := i) (x := x) ⟨k, r⟩
  have entry : u.entry x.lane = leavingEntry ⟨k, r⟩ (s.entry x.lane) :=
    (on.entry _).trans ((entry_modEntry ..).trans (if_pos rfl))
  have session : u.session i = some { x with state := .moving } :=
    (on.session i).trans (session_setSession_self s i _)
  have holder : (u.entry x.lane).holder = some i := by rw [entry]; exact holds
  have held : u.holder x.lane = some (i, { x with state := .moving }) := by
    rw [State.holder, holder]
    dsimp only
    rw [session]
    rfl
  have begun : s.beginMove i x.lane k r = u.settleLane x.lane := by
    rw [State.beginMove, modSession_eq hx]
    rfl
  have open_ : u.tryClose i = u := tryClose_stays fun y hy => by
    rw [session] at hy
    cases hy
    exact fun e => nomatch e
  rw [begun, State.settleLane, holder]
  dsimp only
  rw [open_, tryMove_moving held (m := ⟨k, r⟩) (by rw [entry]; rfl) rfl, moveStarted_quiet]

end

/-! ## What a move leaves -/

/-- Nothing but lanes, pairs, sessions, charges and notices differs. -/
def SameTables (s t : State) : Prop :=
  t = { s with
    lanes := t.lanes, pairs := t.pairs, sessions := t.sessions, charges := t.charges
    notices := t.notices }

theorem SameTables.trans {s t u : State} (h : SameTables s t) (k : SameTables t u) : SameTables s u := by
  unfold SameTables at h k ⊢
  rw [k, h]

theorem OnPair.sameTables {p : PairId} {s t : State} (h : OnPair p s t) : SameTables s t := by
  unfold SameTables
  rw [h.others]

theorem sameTables_appendOpenLine (s : State) (l : LaneId) : SameTables s (s.appendOpenLine l) := by
  unfold SameTables
  rw [(appendOpenLine_leaves s l).1]

/-- R22, R23: what stands between a state and a completed move: the session, its two lanes, the open line
of the source, and the equipment of their pairs. -/
structure MoveDone (s t : State) (i : SessionId) (l k : LaneId) (y : Session) : Prop where
  session : ∀ j, t.session j = if j = i then some y else s.session j
  source : t.entry l =
    { s.entry l with state := .closed, holder := none, waiting := none, movePending := none }
  target : t.entry k = { s.entry k with state := .opened, holder := some i }
  entries : ∀ q, q ≠ l → q ≠ k → t.entry q = s.entry q
  noLine : (s.meter l).openLine = none → t.charges = s.charges
  line : ∀ o, (s.meter l).openLine = some o → s.charges.lines.length < 256 →
    (t.meter l).openLine = none ∧ t.charges.lines = s.charges.lines ++ [timeLine l o]
  lanes : ∀ q, pairOf q ≠ pairOf l → pairOf q ≠ pairOf k → t.lane q = s.lane q
  filter : ∀ p, t.filter p = s.filter p
  orders : SameOrders s t
  tables : SameTables s t

/-- R23: a move that completes in its command. -/
theorem moveStarted_completes {s : State} {i : SessionId} {x : Session} {k : LaneId} (r : MoveResume)
    (other : k ≠ x.lane) :
    ∃ y, Moved k { x with state := .moving } y ∧
      MoveDone s ((s.moveStarted i x ⟨k, r⟩).runMove x.lane i { x with state := .moving } ⟨k, r⟩)
        i x.lane k y := by
  let u := s.moveStarted i x ⟨k, r⟩
  let a := u.appendOpenLine x.lane
  have on := moveStarted_onPair (s := s) (i := i) (x := x) ⟨k, r⟩
  have hu : u.session i = some { x with state := .moving } :=
    (on.session i).trans (session_setSession_self s i _)
  obtain ⟨v, y, left, moved, opened, orders⟩ :=
    runMove_moves (l := x.lane) (k := k) (z := { x with state := .moving }) r hu
  obtain ⟨_, entries, lanes⟩ := appendOpenLine_leaves u x.lane
  have meter : ∀ q, u.meter q = s.meter q := fun q => (on.meter q).trans (meter_modEntry ..)
  have charges : u.charges = s.charges := on.charges
  have entry_a : ∀ q, a.entry q =
      if q = x.lane then leavingEntry ⟨k, r⟩ (s.entry q) else s.entry q := fun q =>
    (entries q).trans ((on.entry q).trans (entry_modEntry ..))
  have entry_v : ∀ q, v.entry q = if q = x.lane then leftEntry (a.entry q) else a.entry q := fun q =>
    (left.entry q).trans (entry_modEntry ..)
  have entry_t := fun q => (opened.entry q).trans (entry_modEntry (v.setSession i (some y)) ..)
  refine ⟨y, moved, ?_, ?_, ?_, ?_, ?_, ?_, ?_, ?_, ?_, ?_⟩
  · intro j
    refine (opened.session j).trans ((session_setSession ..).trans ?_)
    split
    · rfl
    · next ji =>
      rw [left.session, session_modEntry, session_appendOpenLine, on.session, session_modEntry,
        session_setSession, if_neg ji]
  · rw [entry_t, if_neg other.symm]
    refine (entry_v x.lane).trans ?_
    rw [if_pos rfl, entry_a, if_pos rfl]
    rfl
  · rw [entry_t, if_pos rfl]
    refine congrArg (openedEntry i) ((entry_v k).trans ?_)
    rw [if_neg other, entry_a, if_neg other]
  · intro q ql qk
    rw [entry_t, if_neg qk]
    refine (entry_v q).trans ?_
    rw [if_neg ql, entry_a, if_neg ql]
  · intro none_open
    rw [opened.charges]
    refine left.charges.trans ?_
    show (u.appendOpenLine x.lane).charges = _
    rw [appendOpenLine_none (by rw [meter]; exact none_open), charges]
  · intro o line room
    obtain ⟨closed, appended⟩ := appendOpenLine_room (s := u) (l := x.lane) (by rw [meter]; exact line)
      (by rw [charges]; exact room)
    refine ⟨?_, ?_⟩
    · rw [opened.meter, meter_modEntry]
      refine (congrArg Meter.openLine (left.meter x.lane)).trans ?_
      rw [meter_modEntry]
      exact closed
    · rw [opened.charges]
      refine (congrArg ChargeList.lines left.charges).trans ?_
      rw [← charges]
      exact appended
  · intro q ql qk
    have q_l : q ≠ x.lane := fun e => ql (e ▸ rfl)
    have q_k : q ≠ k := fun e => qk (e ▸ rfl)
    rw [opened.lanes q qk, lane_modEntry, if_neg q_k]
    refine (left.lanes q ql).trans ?_
    rw [lane_modEntry, if_neg q_l, lanes q q_l, on.lanes q ql, lane_modEntry, if_neg q_l]
    rfl
  · intro p
    refine (opened.filter p).trans ((left.filter p).trans ?_)
    show (a.filter p) = _
    simp only [State.filter, State.pair, a, pairs_appendOpenLine, u, moveStarted_pairs]
  · exact (SameOrders.of_pairs (moveStarted_pairs _)).trans orders
  · have first : SameTables s u := on.sameTables
    have second : SameTables a v := left.sameTables
    have third : SameTables v _ := opened.sameTables
    exact ((first.trans (sameTables_appendOpenLine u x.lane)).trans second).trans third

end Sys2Proof.Machine

open Sys2Proof Sys2Proof.Machine

/-- Settles O40: the session MOVING on a lane that is not quiet, and else moved in the same command. -/
theorem moveSessionMovesOrWaits : Obligations.MoveSessionMovesOrWaits := by
  unfold Obligations.MoveSessionMovesOrWaits
  intro s tag n m choice i x k trunk run hi mode opened due hk other closed target machine holds
  have hx := sessionInUse_eq_some hi
  have begun := beginMove_eq (k := k) (r := choice) hx holds
  have kept := (Kept.refl s).beginMove i x.lane k choice
  refine ⟨s.beginMove i x.lane k choice, exec_of_act rfl trunk (reqMoveSession_accepted run hi mode opened
    due hk other closed target machine) kept.trunk, fun busy => ?_, fun quiet => ?_⟩
  · rw [begun, busy, if_neg (by decide)]
    exact moveStarted_onPair ⟨k, choice⟩
  · obtain ⟨y, moved, done⟩ := moveStarted_completes (s := s) (i := i) choice other
    rw [quiet, if_pos rfl] at begun
    rw [← begun] at done
    refine ⟨⟨y, (done.session i).trans (if_pos rfl), moved.others.trans (by rw [opened]),
      moved.handles⟩, fun j ji => (done.session j).trans (if_neg ji), done.source, done.target,
      done.entries, done.noLine, done.line, done.lanes, fun p => ⟨done.filter p, (done.orders p).1,
        (done.orders p).2, kept.timeout p, kept.threshold p, kept.capacity p, kept.jamSeconds p⟩,
      done.tables⟩

end

section
/-! SUPPORT. SET_LANE_MAP for one pair (O16): the consoles lost, the entries and debounce values loaded,
the poll order mended, and the lift and the arming decided. -/

namespace Sys2Proof.Machine

open Sys2Proof

/-! ## A console lost (R172) -/

/-- A poller changed elsewhere than at its nodes. -/
theorem node_modPoller {s : State} {p : PairId} {f : Poller → Poller} (hf : ∀ q, (f q).nodes = q.nodes)
    (q : PairId) (a : NodeAddr) : (s.modPoller p f).node q a = s.node q a := by
  simp only [State.node, poller_modPoller]
  split
  · simp only [hf]
  · rfl

/-- Nothing but one pair's records differs. -/
structure PairAlone (p : PairId) (s t : State) : Prop where
  others : t = { s with pairs := t.pairs }
  pairs : ∀ q, q ≠ p → t.pair q = s.pair q

theorem PairAlone.trans {p : PairId} {s t u : State} (h : PairAlone p s t) (k : PairAlone p t u) :
    PairAlone p s u where
  others := by rw [k.others, h.others]
  pairs := fun q hq => (k.pairs q hq).trans (h.pairs q hq)

/-- A change of lanes between two changes of a pair. -/
theorem PairAlone.lanes_pairs {p : PairId} {s t u v : State} (h : PairAlone p s t)
    (lanes : u = { t with lanes := u.lanes }) (k : PairAlone p u v) :
    v = { s with lanes := v.lanes, pairs := v.pairs } := by
  rw [k.others, lanes, h.others]

theorem pairAlone_setPair (s : State) (p : PairId) (x : Pair) : PairAlone p s (s.setPair p x) where
  others := rfl
  pairs := fun _ hq => (pair_setPair ..).trans (if_neg hq)

theorem pairAlone_modPoller (s : State) (p : PairId) (f : Poller → Poller) :
    PairAlone p s (s.modPoller p f) := pairAlone_setPair s p _

theorem pairAlone_modNode (s : State) (p : PairId) (a : NodeAddr) (f : Node → Node) :
    PairAlone p s (s.modNode p a f) := pairAlone_setPair s p _

theorem pairAlone_modFilter (s : State) (p : PairId) (f : Filter → Filter) :
    PairAlone p s (s.modFilter p f) := pairAlone_setPair s p _

/-- R172: the frames a console loses: those queued for it, and the one in its slot. -/
def consoleGone (s : State) (p : PairId) (d : Side) : Nat :=
  ((s.poller p).queue.filter fun f => f.side = d).length +
    (if (s.node p (consoleAddr d)).slot.isSome then 1 else 0)

/-- R172: the frames of one console of a pair discarded where `lost` says so; all else stands. -/
structure ConsoleLost (p : PairId) (d : Side) (lost : Bool) (s t : State) : Prop where
  alone : PairAlone p s t
  filter : t.filter p = s.filter p
  faults : (t.pair p).faults = (s.pair p).faults
  ballReturn : t.ballReturn p = s.ballReturn p
  poller : t.poller p = { s.poller p with
    queue := (s.poller p).queue.filter fun f => !(lost && decide (f.side = d))
    nodes := (t.poller p).nodes }
  console : t.node p (consoleAddr d) =
    if lost then
      { s.node p (consoleAddr d) with
        slot := none
        framesDiscarded :=
          min 65535 ((s.node p (consoleAddr d)).framesDiscarded + consoleGone s p d) }
    else s.node p (consoleAddr d)
  nodes : ∀ a, a ≠ consoleAddr d → t.node p a = s.node p a

theorem consoleLost_discardDisplay (s : State) (p : PairId) (d : Side) :
    ConsoleLost p d true s (s.discardDisplay p d) := by
  have node : ∀ a, (s.discardDisplay p d).node p a =
      if a = consoleAddr d then
        { s.node p a with
          slot := none
          framesDiscarded := satAdd top16 (s.node p a).framesDiscarded (consoleGone s p d) }
      else s.node p a := fun a => by
    have queue : (s.modPoller p fun q => { q with queue := q.queue.filter fun f => f.side ≠ d }).node p a =
        s.node p a := by
      apply node_modPoller
      exact fun _ => rfl
    unfold State.discardDisplay
    dsimp only
    rw [node_modNode, queue]
    by_cases e : a = consoleAddr d
    · rw [if_pos ⟨rfl, e⟩, if_pos e]
      rfl
    · rw [if_neg fun c => e c.2, if_neg e]
  have alone : PairAlone p s (s.discardDisplay p d) := by
    unfold State.discardDisplay
    exact (pairAlone_modPoller ..).trans (pairAlone_modNode ..)
  constructor
  case alone => exact alone
  case filter => simp [State.discardDisplay, State.modNode]
  case faults => simp [State.discardDisplay, State.modNode, State.modPoller]
  case ballReturn => simp [State.discardDisplay, State.modNode]
  case poller => simp [State.discardDisplay, State.modNode, poller_modPoller]
  case console => rw [node, if_pos rfl]; rfl
  case nodes => exact fun a ha => (node a).trans (if_neg ha)

/-- R172: a load loses a console exactly where it sets has console from yes to no. -/
theorem consoleLost_loseConsole (s : State) (p : PairId) (d : Side) (has : Bool) :
    ConsoleLost p d ((s.entry (laneAt p d)).hasConsole && !has) s (s.loseConsole p d has) := by
  unfold State.loseConsole
  by_cases lost : (s.entry (laneAt p d)).hasConsole = true ∧ ¬ has = true
  · rw [if_pos lost]
    have e : ((s.entry (laneAt p d)).hasConsole && !has) = true := by simpa using lost
    rw [e]
    exact consoleLost_discardDisplay s p d
  · rw [if_neg lost]
    have e : ((s.entry (laneAt p d)).hasConsole && !has) = false := by
      rw [Bool.eq_false_iff]; simpa using lost
    rw [e]
    exact ⟨⟨rfl, fun _ _ => rfl⟩, rfl, rfl, rfl, by simp, rfl, fun _ _ => rfl⟩

/-! ## Both consoles of a pair -/

/-- What a load names for the lane of a side. -/
def loadedLane (e : LaneMapPair) : Side → LaneMapLane
  | .left => e.left
  | .right => e.right

/-- R172: the load takes the console of a side away. -/
def takesConsole (s : State) (e : LaneMapPair) (p : PairId) (d : Side) : Bool :=
  (s.entry (laneAt p d)).hasConsole && !(loadedLane e d).hasConsole

/-- R172: both consoles of a pair after a load; all else stands. -/
structure ConsolesLoaded (e : LaneMapPair) (p : PairId) (s t : State) : Prop where
  alone : PairAlone p s t
  filter : t.filter p = s.filter p
  faults : (t.pair p).faults = (s.pair p).faults
  ballReturn : t.ballReturn p = s.ballReturn p
  poller : t.poller p = { s.poller p with
    queue := (s.poller p).queue.filter fun f => !takesConsole s e p f.side
    nodes := (t.poller p).nodes }
  console : ∀ d, t.node p (consoleAddr d) =
    if takesConsole s e p d then
      { s.node p (consoleAddr d) with
        slot := none
        framesDiscarded :=
          min 65535 ((s.node p (consoleAddr d)).framesDiscarded + consoleGone s p d) }
    else s.node p (consoleAddr d)
  nodes : ∀ a, (∀ d, a ≠ consoleAddr d) → t.node p a = s.node p a

theorem consolesLoaded_loses (s : State) (p : PairId) (e : LaneMapPair) :
    ConsolesLoaded e p s
      ((s.loseConsole p .left e.left.hasConsole).loseConsole p .right e.right.hasConsole) := by
  have left := consoleLost_loseConsole s p .left e.left.hasConsole
  have right := consoleLost_loseConsole (s.loseConsole p .left e.left.hasConsole) p .right
    e.right.hasConsole
  have entry : (s.loseConsole p .left e.left.hasConsole).entry (laneAt p .right) =
      s.entry (laneAt p .right) := by rw [left.alone.others]; rfl
  rw [entry] at right
  have lr : consoleAddr .left ≠ consoleAddr .right := by decide
  have queue : (s.poller p).queue.filter (fun f => !takesConsole s e p f.side) =
      ((s.poller p).queue.filter fun f =>
        !(takesConsole s e p .left && decide (f.side = .left))).filter fun f =>
        !(takesConsole s e p .right && decide (f.side = .right)) := by
    rw [List.filter_filter]
    refine List.filter_congr fun f _ => ?_
    cases f.side <;> simp
  have gone : consoleGone (s.loseConsole p .left e.left.hasConsole) p .right = consoleGone s p .right := by
    unfold consoleGone
    rw [left.nodes _ lr.symm, left.poller]
    dsimp only
    rw [List.filter_filter]
    congr 2
    refine List.filter_congr fun f _ => ?_
    cases f.side <;> simp
  constructor
  case alone => exact left.alone.trans right.alone
  case filter => exact right.filter.trans left.filter
  case faults => exact right.faults.trans left.faults
  case ballReturn => exact right.ballReturn.trans left.ballReturn
  case poller =>
    refine right.poller.trans ?_
    rw [left.poller, queue]
    rfl
  case console =>
    intro d
    cases d
    case left => exact (right.nodes _ lr).trans left.console
    case right =>
      refine right.console.trans ?_
      rw [left.nodes _ lr.symm, gone]
      rfl
  case nodes => exact fun a ha => (right.nodes a (ha _)).trans (left.nodes a (ha _))

/-! ## The lift and the jam watch (R127, R128) -/

/-- R127: the level wanted of the lift. -/
def liftWanted (s : State) (p : PairId) : Bool := s.pairInUse p && !(s.ballReturn p).rackFull

/-- R127: the return with pair in use and the lift field as decided afresh. -/
def liftMoved (s : State) (p : PairId) : BallReturn :=
  { s.ballReturn p with inUse := s.pairInUse p, liftOn := liftWanted s p }

/-- R127, R128: what deciding the lift makes of the return and of the lane I/O node. -/
structure LiftDecided (p : PairId) (s t : State) : Prop where
  ballReturn : t.ballReturn p = { liftMoved s p with watch := (t.ballReturn p).watch }
  stands : liftWanted s p = (s.ballReturn p).liftOn →
    (t.ballReturn p).watch = (s.ballReturn p).watch ∧ t.node p laneIoAddr = s.node p laneIoAddr
  watch : liftWanted s p ≠ (s.ballReturn p).liftOn →
    WatchDecided s.deviceTime ((s.node p laneIoAddr).state = .alive) (liftMoved s p)
      (t.ballReturn p).watch
  silent : liftWanted s p ≠ (s.ballReturn p).liftOn → (s.node p laneIoAddr).state ≠ .alive →
    t.node p laneIoAddr = s.node p laneIoAddr
  outputs : liftWanted s p ≠ (s.ballReturn p).liftOn → (s.node p laneIoAddr).state = .alive →
    (s.node p laneIoAddr).slot = none →
    t.node p laneIoAddr = putCommand (.setOutputs (liftWanted s p)) (s.node p laneIoAddr)

section
variable (s : State) (p : PairId)

theorem ballReturn_place (a : NodeAddr) (c : Command) : (s.place p a c).ballReturn p = s.ballReturn p := by
  unfold State.place
  split
  · exact ballReturn_modPoller ..
  · rfl

/-- SET_OUTPUTS leaves the return, the clock and the state of the node. -/
theorem placeOutputs_leaves :
    (s.placeOutputs p).ballReturn p = s.ballReturn p ∧
      (s.placeOutputs p).deviceTime = s.deviceTime ∧
      ((s.placeOutputs p).node p laneIoAddr).state = (s.node p laneIoAddr).state := by
  unfold State.placeOutputs
  split
  · refine ⟨ballReturn_place .., ?_⟩
    unfold State.place
    split
    · exact ⟨rfl, by rw [node_modNode, if_pos ⟨rfl, rfl⟩]; rfl⟩
    · exact ⟨rfl, rfl⟩
  · exact ⟨rfl, rfl, rfl⟩

/-- R127: SET_OUTPUTS enters the empty slot of an ALIVE node. -/
theorem placeOutputs_alive (alive : (s.node p laneIoAddr).state = .alive)
    (empty : (s.node p laneIoAddr).slot = none) :
    (s.placeOutputs p).node p laneIoAddr =
      putCommand (.setOutputs (s.ballReturn p).liftOn) (s.node p laneIoAddr) := by
  rw [State.placeOutputs, if_pos alive, State.place, if_pos (slotTakes_of_empty empty _), node_modNode,
    if_pos ⟨rfl, rfl⟩]

theorem placeOutputs_silent (silent : (s.node p laneIoAddr).state ≠ .alive) : s.placeOutputs p = s :=
  if_neg silent

theorem node_modReturn (f : BallReturn → BallReturn) (a : NodeAddr) :
    (s.modReturn p f).node p a = s.node p a := by
  simp only [State.node, poller_modReturn]

theorem liftDecided_decideLift : LiftDecided p s (s.decideLift p) := by
  let used := s.modReturn p fun r => { r with inUse := s.pairInUse p }
  by_cases same : liftWanted s p = (s.ballReturn p).liftOn
  · have e : s.decideLift p = used := if_pos same
    have ret : (s.decideLift p).ballReturn p = { s.ballReturn p with inUse := s.pairInUse p } := by
      rw [e, ballReturn_modReturn, if_pos rfl]
    refine ⟨?_, fun _ => ⟨by rw [ret], by rw [e]; exact node_modReturn ..⟩, fun h => absurd same h,
      fun h => absurd same h, fun h => absurd same h⟩
    rw [ret, liftMoved, same]
  · let turned := (used.modReturn p fun r => { r with liftOn := liftWanted s p }).raiseReturnState p
    let v := turned.placeOutputs p
    have e : s.decideLift p = v.decideWatch p false := if_neg same
    have ret : turned.ballReturn p = liftMoved s p := by
      show (used.modReturn p fun r => { r with liftOn := liftWanted s p }).ballReturn p = _
      rw [ballReturn_modReturn, if_pos rfl, ballReturn_modReturn, if_pos rfl]
      rfl
    have node : turned.node p laneIoAddr = s.node p laneIoAddr := by
      show (used.modReturn p fun r => { r with liftOn := liftWanted s p }).node p laneIoAddr = _
      rw [node_modReturn, node_modReturn]
    obtain ⟨vRet, vTime, vState⟩ := placeOutputs_leaves turned p
    replace vTime : v.deviceTime = s.deviceTime := vTime
    have tNode : (s.decideLift p).node p laneIoAddr = v.node p laneIoAddr := by
      rw [e]; exact node_modReturn ..
    have tRet : (s.decideLift p).ballReturn p = { v.ballReturn p with
        watch := nextWatch (v.jamWatchMayRun p) false (v.ballReturn p).watchExpired v.deviceTime
          (v.ballReturn p).jamSeconds (v.ballReturn p).watch } := by
      rw [e]
      exact (ballReturn_modReturn ..).trans (if_pos rfl)
    refine ⟨?_, fun h => absurd h same, fun _ => ?_, fun _ silent => ?_, fun _ alive empty => ?_⟩
    · rw [tRet]
      exact congrArg (fun r : BallReturn => ({ r with watch := _ } : BallReturn)) (vRet.trans ret)
    · have decided := nextWatch_decided v p
      dsimp only at decided
      rw [vState, node, vTime] at decided
      rw [tRet, vTime, ← vRet.trans ret]
      exact decided
    · rw [tNode]
      show (turned.placeOutputs p).node p laneIoAddr = _
      rw [placeOutputs_silent turned p (by rw [node]; exact silent), node]
    · rw [tNode, ← node]
      refine (placeOutputs_alive turned p (by rw [node]; exact alive) (by rw [node]; exact empty)).trans ?_
      rw [ret]
      rfl

end

/-! ## The tables loaded (R2, R63, R164) -/

section
variable {s t : State} {p : PairId}

/-- R163: the lane map says which nodes are required. -/
theorem required_congr (h : ∀ k, t.entry k = s.entry k) (a : NodeAddr) :
    t.required p a = s.required p a := by
  unfold State.required
  simp only [h]

/-- R127: lane states and machines say whether a pair is in use. -/
theorem pairInUse_congr (h : ∀ k, t.entry k = s.entry k) (m : ∀ k, t.supervisor k = s.supervisor k) :
    t.pairInUse p = s.pairInUse p := by
  simp only [State.pairInUse, State.laneInUse, h, m]

/-- R164: a node newly required is missing from an order. -/
theorem lacksNode_iff (before : State) (order : List NodeAddr) :
    s.lacksNode before p order = true ↔
      ∃ a, s.required p a = true ∧ before.required p a = false ∧ a ∉ order := by
  simp [State.lacksNode, allAddresses, and_assoc]

/-- R164: an order in force or pending lacks a node that the load makes required. -/
def OrderMissing (s before : State) (p : PairId) : Prop :=
  s.lacksNode before p (s.poller p).order = true ∨
    ∃ o, (s.poller p).pendingOrder = some o ∧ s.lacksNode before p o = true

theorem mendOrder_mends {before : State} (h : OrderMissing s before p) :
    s.mendOrder before p = s.modPoller p fun q => { q with pendingOrder := some Initial.pollOrder } := by
  refine if_pos (h.imp_right fun ⟨o, ho, lacks⟩ => ?_)
  rw [ho]
  exact lacks

theorem mendOrder_stands {before : State} (h : ¬ OrderMissing s before p) : s.mendOrder before p = s := by
  refine if_neg fun c => h (c.imp_right fun lacks => ?_)
  cases ho : (s.poller p).pendingOrder with
  | none => rw [ho] at lacks; cases lacks
  | some o => rw [ho] at lacks; exact ⟨o, rfl, lacks⟩

/-- R2: both lanes of a pair with the entries of a load. -/
theorem modEntry_pair (f g : LaneEntry → LaneEntry) :
    let t := (s.modEntry (laneAt p .left) f).modEntry (laneAt p .right) g
    t = { s with lanes := t.lanes } ∧ (∀ k, pairOf k ≠ p → t.lane k = s.lane k) ∧
      t.lane (laneAt p .left) = { s.lane (laneAt p .left) with entry := f (s.entry (laneAt p .left)) } ∧
      t.lane (laneAt p .right) =
        { s.lane (laneAt p .right) with entry := g (s.entry (laneAt p .right)) } := by
  have ne : laneAt p .left ≠ laneAt p .right := laneAt_ne (by decide)
  refine ⟨rfl, fun k hk => ?_, ?_, ?_⟩
  · have out : ∀ d, k ≠ laneAt p d := fun d e => hk (e ▸ pairOf_laneAt p d)
    rw [lane_modEntry, if_neg (out _), lane_modEntry, if_neg (out _)]
  · rw [lane_modEntry, if_neg ne, lane_modEntry, if_pos rfl]
  · rw [lane_modEntry, if_pos rfl, lane_modEntry, if_neg ne.symm, entry_modEntry, if_neg ne.symm]

end

/-- R2, R63, R164, R172: a pair with a load in its tables, before the lift and the arming are decided;
`c` is the state with its consoles loaded. -/
structure PairLoaded (e : LaneMapPair) (p : PairId) (s c t : State) : Prop where
  others : t = { s with lanes := t.lanes, pairs := t.pairs }
  lane : ∀ d, t.lane (laneAt p d) =
    { s.lane (laneAt p d) with entry := loadEntry (loadedLane e d) (s.entry (laneAt p d)) }
  lanes : ∀ k, pairOf k ≠ p → t.lane k = s.lane k
  pairs : ∀ q, q ≠ p → t.pair q = s.pair q
  filter : t.filter p = { s.filter p with debounce := loadDebounce e }
  faults : (t.pair p).faults = (s.pair p).faults
  ballReturn : t.ballReturn p = s.ballReturn p
  poller : t.poller p = { s.poller p with
    queue := (s.poller p).queue.filter fun f => !takesConsole s e p f.side
    pendingOrder := (t.poller p).pendingOrder, nodes := (t.poller p).nodes }
  node : ∀ a, t.node p a = c.node p a

/-- R172: the consoles of a pair loaded. -/
def State.consolesLoaded (s : State) (e : LaneMapPair) (p : PairId) : State :=
  (s.loseConsole p .left e.left.hasConsole).loseConsole p .right e.right.hasConsole

/-- R2, R63: the entries and the debounce values of a pair loaded. -/
def State.tablesLoaded (s : State) (e : LaneMapPair) (p : PairId) : State :=
  ((s.modEntry (laneAt p .left) (loadEntry e.left)).modEntry (laneAt p .right)
    (loadEntry e.right)).modFilter p fun f => { f with debounce := loadDebounce e }

theorem loadPair_eq {s : State} {e : LaneMapPair} {p : PairId} (hp : pairOf? e.pair = some p) :
    s.loadPair e =
      ((((s.consolesLoaded e p).tablesLoaded e p).mendOrder s p).decideLift p).armPair p := by
  rw [State.loadPair, hp]
  rfl

theorem pairLoaded_tablesLoaded {s c : State} {e : LaneMapPair} {p : PairId}
    (consoles : ConsolesLoaded e p s c) :
    PairLoaded e p s c (c.tablesLoaded e p) ∧
      ((c.tablesLoaded e p).poller p).pendingOrder = (s.poller p).pendingOrder := by
  let n := (c.modEntry (laneAt p .left) (loadEntry e.left)).modEntry (laneAt p .right) (loadEntry e.right)
  obtain ⟨entries, outside, left, right⟩ := modEntry_pair (s := c) (p := p) (loadEntry e.left)
    (loadEntry e.right)
  have lane_c : ∀ k, c.lane k = s.lane k := fun k => by rw [consoles.alone.others]; rfl
  have poller : (c.tablesLoaded e p).poller p = c.poller p := poller_modFilter ..
  refine ⟨?_, by rw [poller, consoles.poller]⟩
  constructor
  case others =>
    exact consoles.alone.lanes_pairs entries (pairAlone_modFilter n p _)
  case lane =>
    intro d
    cases d
    case left =>
      refine left.trans ?_
      rw [lane_c, State.entry, lane_c]
      rfl
    case right =>
      refine right.trans ?_
      rw [lane_c, State.entry, lane_c]
      rfl
  case lanes => exact fun k hk => (outside k hk).trans (lane_c k)
  case pairs =>
    exact fun q hq => ((pairAlone_modFilter n p _).pairs q hq).trans (consoles.alone.pairs q hq)
  case filter =>
    refine (filter_modFilter n p p _).trans ((if_pos rfl).trans ?_)
    exact congrArg (fun f : Filter => { f with debounce := loadDebounce e }) consoles.filter
  case faults =>
    refine (congrArg Pair.faults (pair_setPair ..)).trans ?_
    rw [if_pos rfl]
    exact consoles.faults
  case ballReturn => exact (ballReturn_modFilter n p p _).trans consoles.ballReturn
  case poller =>
    rw [poller, consoles.poller]
  case node => exact fun a => by simp only [State.node, poller]

/-- R164: a load stands where its pending list is mended. -/
theorem PairLoaded.modPending {e : LaneMapPair} {p : PairId} {s c t : State}
    (h : PairLoaded e p s c t) (o : Option (List NodeAddr)) :
    PairLoaded e p s c (t.modPoller p fun q => { q with pendingOrder := o }) where
  others := by
    have pending : (t.modPoller p fun q => { q with pendingOrder := o }) =
        { t with pairs := (t.modPoller p fun q => { q with pendingOrder := o }).pairs } := rfl
    rw [pending, h.others]
  lane := h.lane
  lanes := h.lanes
  pairs := fun q hq => ((pairAlone_modPoller t p _).pairs q hq).trans (h.pairs q hq)
  filter := (filter_modPoller ..).trans h.filter
  faults := by
    refine (congrArg Pair.faults (pair_setPair ..)).trans ?_
    rw [if_pos rfl]
    exact h.faults
  ballReturn := (ballReturn_modPoller ..).trans h.ballReturn
  poller := by
    rw [poller_modPoller, if_pos rfl, h.poller]
  node := fun a => by
    rw [← h.node a]
    apply node_modPoller
    exact fun _ => rfl

/-- R164: the tables after a load, and the pending list that follows. -/
theorem pairLoaded_mendOrder {s c : State} {e : LaneMapPair} {p : PairId}
    (consoles : ConsolesLoaded e p s c) :
    let t := (c.tablesLoaded e p).mendOrder s p
    let missing := t.lacksNode s p (s.poller p).order = true ∨
      ∃ o, (s.poller p).pendingOrder = some o ∧ t.lacksNode s p o = true
    PairLoaded e p s c t ∧ (missing → (t.poller p).pendingOrder = some Initial.pollOrder) ∧
      (¬ missing → (t.poller p).pendingOrder = (s.poller p).pendingOrder) := by
  intro t missing
  obtain ⟨loaded, pending⟩ := pairLoaded_tablesLoaded consoles
  have order : ((c.tablesLoaded e p).poller p).order = (s.poller p).order := by rw [loaded.poller]
  have lacks : ∀ o, t.lacksNode s p o = (c.tablesLoaded e p).lacksNode s p o := fun o => by
    have entries : ∀ k, t.entry k = (c.tablesLoaded e p).entry k := fun k => by
      simp only [t, State.mendOrder]
      split <;> rfl
    simp only [State.lacksNode, required_congr entries]
  have same : missing ↔ OrderMissing (c.tablesLoaded e p) s p := by
    simp only [missing, OrderMissing, lacks, order, pending]
  by_cases h : missing
  · have mended : t = _ := mendOrder_mends (same.1 h)
    rw [mended]
    exact ⟨loaded.modPending _, fun _ => by rw [poller_modPoller, if_pos rfl], fun k => absurd h k⟩
  · have stands : t = c.tablesLoaded e p := mendOrder_stands fun k => h (same.2 k)
    rw [stands]
    exact ⟨loaded, fun k => absurd k h, fun _ => pending⟩

/-! ## The clamped values (R63) -/

theorem mem_named {α : Type} {field f : α} {low high n : Nat} (h : low ≤ high) :
    f ∈ named field low high n ↔ f = field ∧ (n < low ∨ high < n) := by
  have clamped : clamps low high n = true ↔ n < low ∨ high < n := by
    rw [clamps, bne_iff_ne, clampTo_eq _ h]
    omega
  unfold named
  split
  · next c => simp [clamped.1 c]
  · next c => simp [mt clamped.2 c]

theorem mem_debounceClamps (e : LaneMapPair) (f : Nat × PairField) :
    f ∈ debounceClamps e ↔ f.1 = e.pair ∧
      ((f.2 = .foul ∧ (e.foul < 5 ∨ 50 < e.foul)) ∨ (f.2 = .pit ∧ (e.pit < 5 ∨ 100 < e.pit)) ∨
      (f.2 = .lift ∧ (e.lift < 5 ∨ 100 < e.lift)) ∨
      (f.2 = .rack ∧ (e.rack < 50 ∨ 2000 < e.rack))) := by
  obtain ⟨n, g⟩ := f
  simp only [debounceClamps, List.mem_map, List.mem_append, mem_named (show 5 ≤ 50 by decide),
    mem_named (show 5 ≤ 100 by decide), mem_named (show 50 ≤ 2000 by decide), Prod.mk.injEq]
  constructor
  · rintro ⟨x, h, rfl, rfl⟩
    exact ⟨rfl, by simpa only [or_assoc] using h⟩
  · rintro ⟨rfl, h⟩
    exact ⟨g, by simpa only [or_assoc] using h, rfl, rfl⟩

/-! ## SET_LANE_MAP -/

theorem reqSetLaneMap_accepted {s : State} {e : LaneMapPair} {p : PairId} (hp : pairOf? e.pair = some p)
    (left : e.left.profile ≤ 3) (right : e.right.profile ≤ 3)
    (rest : s.device = .run → s.pairAtRest p = true) (targetL : s.isMoveTarget (laneAt p .left) = false)
    (targetR : s.isMoveTarget (laneAt p .right) = false) :
    reqSetLaneMap [e] s =
      ({ s.loadPair e with laneMapLoaded := true }, ⟨.ok, .clampedPairFields (debounceClamps e)⟩) := by
  have named : pairsNamed ([e].map (·.pair)) = [p] := by simp [pairsNamed, hp]
  have range : laneMapRange [e] = false := by simp [laneMapRange, hp, left, right]
  have busy : ¬ (s.device = .run ∧ [p].any (fun q => !s.pairAtRest q) = true) := fun c => by
    simpa [rest c.1] using c.2
  unfold reqSetLaneMap
  rw [named, range, if_neg (by decide), if_neg busy]
  simp [targetL, targetR]

/-- R2: a profile number of 0 to 3 is loaded as it is. -/
theorem profile_loaded {n : Nat} (h : n ≤ 3) : (BitVec.toFin (BitVec.ofNat 2 n) : Fin 4).val = n := by
  simp only [BitVec.toFin_ofNat, Fin.val_ofNat]
  omega

/-- R90, R127, R128: the lift and the arming of a pair decided. -/
structure EquipmentDecided (p : PairId) (w t : State) : Prop where
  lift : LiftDecided p w t
  lane : ∀ k, t.lane k = { w.lane k with tracker := t.tracker k }
  tracker : ∀ k, Rearmed (w.tracker k) (t.tracker k)
  outside : ∀ k, pairOf k ≠ p → t.lane k = w.lane k
  pairs : ∀ q, q ≠ p → t.pair q = w.pair q
  filter : t.filter p = w.filter p
  faults : (t.pair p).faults = (w.pair p).faults
  poller : t.poller p = { w.poller p with nodes := (t.poller p).nodes }
  nodes : ∀ a, a ≠ laneIoAddr → t.node p a = w.node p a
  others : t = { w with lanes := t.lanes, pairs := t.pairs, notices := t.notices }

theorem LiftDecided.of_pairs {p : PairId} {s t u : State} (h : LiftDecided p s t)
    (e : u.pairs = t.pairs) : LiftDecided p s u := by
  have ret : u.ballReturn p = t.ballReturn p := by simp only [State.ballReturn, State.pair, e]
  have node : u.node p laneIoAddr = t.node p laneIoAddr := by
    simp only [State.node, State.poller, State.pair, e]
  obtain ⟨h1, h2, h3, h4, h5⟩ := h
  rw [← ret, ← node] at *
  exact ⟨h1, h2, h3, h4, h5⟩

theorem equipmentDecided (w : State) (p : PairId) :
    EquipmentDecided p w ((w.decideLift p).armPair p) := by
  obtain ⟨others, lane, tracker⟩ := armPair_spec (w.decideLift p) p
  have decided : OnPair p w (w.decideLift p) := (OnPair.refl p w).decideLift p rfl
  have lift := liftDecided_decideLift w p
  have polls := (Decides.decideLift (p := p) (s := w) .refl).poller p
  have lanes := lane_decideLift w p
  have nodes := fun a (ha : a ≠ laneIoAddr) => node_decideLift w p ha p
  generalize (w.decideLift p).armPair p = t at *
  generalize w.decideLift p = v at *
  have pairs : t.pairs = v.pairs := by rw [others]
  have pair : ∀ q, t.pair q = v.pair q := fun q => by simp only [State.pair, pairs]
  have trackers : ∀ k, v.tracker k = w.tracker k := fun k => congrArg Lane.tracker (lanes k)
  have lane_t : ∀ k, t.lane k = { w.lane k with tracker := t.tracker k } :=
    fun k => by rw [lane k, lanes k]
  constructor
  case lift => exact lift.of_pairs pairs
  case lane => exact lane_t
  case tracker =>
    intro k
    rcases tracker k with same | ⟨_, rearmed⟩
    · exact .inl (same.trans (trackers k))
    · exact trackers k ▸ rearmed
  case outside =>
    intro k hk
    rcases tracker k with same | ⟨here, _⟩
    · rw [lane_t k, same, trackers]
      rfl
    · exact absurd here hk
  case pairs => exact fun q hq => (pair q).trans (decided.pairs q hq)
  case filter => exact (congrArg Pair.filter (pair p)).trans (decided.filter p)
  case faults => exact (congrArg Pair.faults (pair p)).trans (decided.pairFaults p)
  case poller =>
    have poller : t.poller p = v.poller p := congrArg Pair.poller (pair p)
    rw [poller]
    exact polls
  case nodes =>
    have node : ∀ a, t.node p a = v.node p a := fun a => by simp only [State.node, State.poller, pair]
    exact fun a ha => (node a).trans (nodes a ha)
  case others => rw [others, decided.others]

/-- R164: what a load makes of a pair's pending list, told by the state that is answered. -/
theorem orderMissing_congr {s w t : State} {p : PairId} (required : ∀ a, t.required p a = w.required p a)
    (o : List NodeAddr) :
    w.lacksNode s p o = true ↔ ∃ a, t.required p a = true ∧ s.required p a = false ∧ a ∉ o := by
  simp only [lacksNode_iff, required]

theorem EquipmentDecided.entry {p : PairId} {w t : State} (h : EquipmentDecided p w t) (k : LaneId) :
    t.entry k = w.entry k := by
  rw [State.entry, h.lane k]
  rfl

theorem EquipmentDecided.supervisor {p : PairId} {w t : State} (h : EquipmentDecided p w t)
    (k : LaneId) : t.supervisor k = w.supervisor k := by
  rw [State.supervisor, h.lane k]
  rfl

/-- R127: the pair is in use as its tables after a load say. -/
theorem EquipmentDecided.pairInUse {p : PairId} {w t : State} (h : EquipmentDecided p w t) :
    t.pairInUse p = w.pairInUse p :=
  pairInUse_congr h.entry h.supervisor

theorem EquipmentDecided.required {p : PairId} {w t : State} (h : EquipmentDecided p w t) (a : NodeAddr) :
    t.required p a = w.required p a := required_congr h.entry a

end Sys2Proof.Machine

open Sys2Proof Sys2Proof.Machine

/-- Settles O16: the tables loaded, the poll order mended, and the lift and the arming decided afresh. -/
theorem setLaneMapLoadsPair : Obligations.SetLaneMapLoadsPair := by
  unfold Obligations.SetLaneMapLoadsPair
  intro s tag e p trunk hp left right rest targetL targetR loaded console loses gone before node
  have accepted := reqSetLaneMap_accepted hp left right rest targetL targetR
  have consoles : ConsolesLoaded e p s (s.consolesLoaded e p) := consolesLoaded_loses s p e
  obtain ⟨tables, mended, stood⟩ := pairLoaded_mendOrder consoles
  have done := equipmentDecided (((s.consolesLoaded e p).tablesLoaded e p).mendOrder s p) p
  rw [← loadPair_eq hp] at done
  generalize ((s.consolesLoaded e p).tablesLoaded e p).mendOrder s p = w at tables mended stood done
  generalize s.consolesLoaded e p = c at consoles tables
  generalize s.loadPair e = u at accepted done
  have ret : w.ballReturn p = before := tables.ballReturn
  have wanted : liftWanted w p = (u.pairInUse p && !before.rackFull) := by
    rw [liftWanted, ret, done.pairInUse]
  have moved : liftMoved w p =
      { before with inUse := u.pairInUse p, liftOn := u.pairInUse p && !before.rackFull } := by
    rw [liftMoved, wanted, ret, done.pairInUse]
  have laneIo : w.node p laneIoAddr = node :=
    (tables.node _).trans (consoles.nodes _ fun d => by cases d <;> decide)
  obtain ⟨liftReturn, stands, watch, silent, outputs⟩ := done.lift
  rw [moved] at liftReturn watch
  rw [ret, wanted] at stands watch silent outputs
  rw [laneIo] at stands watch silent outputs
  have deviceTime : w.deviceTime = s.deviceTime := by rw [tables.others]
  rw [deviceTime] at watch
  simp only [orderMissing_congr done.required] at mended stood
  have pending : (u.poller p).pendingOrder = (w.poller p).pendingOrder := by rw [done.poller]
  refine ⟨{ u with laneMapLoaded := true }, debounceClamps e, ?_⟩
  refine ⟨exec_of_act rfl trunk accepted ?_, mem_debounceClamps e, ?_, ?_, ?_, liftReturn, stands,
    fun turns => ⟨watch turns, silent turns, outputs turns⟩, ?_, ?_, ?_, ?_, ?_, ?_, ?_, ?_⟩
  · show u.trunk = s.trunk
    rw [done.others, tables.others]
  · intro d
    have profile : (loaded d).profile ≤ 3 := by cases d <;> assumption
    have lane : loaded d = loadedLane e d := by cases d <;> rfl
    refine ⟨_, profile_loaded profile, ?_, ?_⟩
    · have tracker : w.tracker (laneAt p d) = s.tracker (laneAt p d) := by
        rw [State.tracker, tables.lane d]
        rfl
      exact tracker ▸ done.tracker (laneAt p d)
    · refine (done.lane (laneAt p d)).trans ?_
      rw [tables.lane d, ← lane]
      cases enabled : (loaded d).enabled <;> simp [loadEntry, enabled] <;> rfl
  · refine done.filter.trans (tables.filter.trans ?_)
    simp only [loadDebounce, clampTo_eq _ (show 5 ≤ 50 by decide), clampTo_eq _ (show 5 ≤ 100 by decide),
      clampTo_eq _ (show 50 ≤ 2000 by decide)]
  · exact done.faults.trans tables.faults
  · refine done.poller.trans ?_
    rw [tables.poller, ← pending]
    have taken : (fun f : DisplayFrame => !takesConsole s e p f.side) = fun f => !loses f.side := by
      funext f
      cases f.side <;> rfl
    rw [taken]
    rfl
  · exact fun lacks => pending.trans (mended lacks)
  · exact fun inForce waiting => pending.trans (stood fun lacks => lacks.elim inForce
      fun ⟨o, ho, h⟩ => waiting o ho h)
  · intro d
    have at_d : u.node p (consoleAddr d) = c.node p (consoleAddr d) :=
      (done.nodes _ (by cases d <;> decide)).trans (tables.node _)
    have taken : takesConsole s e p d = loses d := by cases d <;> rfl
    have stated := at_d.trans (consoles.console d)
    rw [taken] at stated
    refine ⟨fun keeps => ?_, fun lost => ?_⟩
    · rw [keeps] at stated
      exact stated
    · rw [lost] at stated
      exact stated
  · exact fun a io con => (done.nodes a io).trans ((tables.node a).trans (consoles.nodes a con))
  · exact fun k hk => (done.outside k hk).trans (tables.lanes k hk)
  · exact fun q hq => (done.pairs q hq).trans (tables.pairs q hq)
  · rw [done.others, tables.others]

end

section
/-! SUPPORT. The score of a game (O60): how a frame goes on, what scoring afresh leaves of a frame and makes
of a complete one, and the running totals. -/

namespace Sys2Proof.Machine

open Sys2Proof

/-! ## Frame progression (R31, R32, R33) -/

theorem fellsTen_iff {b : Ball} : fellsTen b = true ↔ b.pinfall = 10 ∧ b.foul = false := by
  simp [fellsTen]

/-- R31, R32: the progression finds a frame complete exactly where the rules do. -/
theorem progress_complete_iff (frame : Nat) (balls : List Ball) :
    progress frame balls = .complete ↔ CompleteFrame frame balls := by
  unfold progress CompleteFrame
  by_cases ten : frame = 10
  · rw [if_pos ten, if_pos ten]
    rcases balls with _ | ⟨x, _ | ⟨y, _ | ⟨z, rest⟩⟩⟩
    · simp [progressTenth]
    · simp only [progressTenth]
      split <;> simp
    · cases faced : y.faced <;> simp only [progressTenth, faced]
      · split_ifs <;> simp_all [fellsTen_iff]
      · split_ifs <;> simp_all
    · simp [progressTenth]
  · rw [if_neg ten, if_neg ten]
    rcases balls with _ | ⟨x, _ | ⟨y, rest⟩⟩
    · simp [progressNormal]
    · simp only [progressNormal]
      split_ifs <;> simp_all [fellsTen_iff]
    · simp [progressNormal]

/-- R31, R32: what the progression gives the next ball is what the rules have it face. -/
theorem facesNext_of_progress {frame : Nat} {balls : List Ball} {faced : Faced} {before : PinSet}
    (h : progress frame balls = .goesOn faced before) : FacesNext frame balls faced before := by
  unfold progress at h
  unfold FacesNext
  split at h
  · rcases balls with _ | ⟨x, _ | ⟨y, _ | ⟨z, rest⟩⟩⟩
    · simp_all [progressTenth]
    · simp only [progressTenth, Bool.or_eq_true, fellsTen_iff] at h
      split_ifs at h <;> cases h <;> grind
    · cases rack : y.faced <;> simp only [progressTenth, rack] at h
      · split_ifs at h <;> cases h <;> simp_all [fellsTen]
      · split_ifs at h
        cases h
        simp_all
    · cases h
  · rcases balls with _ | ⟨x, _ | ⟨y, rest⟩⟩
    · simp_all [progressNormal]
    · simp only [progressNormal] at h
      split_ifs at h <;> cases h <;> simp_all
    · cases h

/-- R33: after a complete frame comes its first ball on the full rack. -/
theorem nextBallAfter_complete {frame : Nat} {balls : List Ball} (h : CompleteFrame frame balls)
    (slot : Nat) : nextBallAfter slot frame balls = ⟨slot, frame, 1, .full, fullRack, none⟩ := by
  rw [nextBallAfter, (progress_complete_iff frame balls).2 h]
  rfl

/-- R33: the next ball of a frame that goes on. -/
theorem nextBallAfter_goesOn {frame : Nat} {balls : List Ball} (h : ¬ CompleteFrame frame balls)
    (slot : Nat) : ∃ faced before, FacesNext frame balls faced before ∧
      nextBallAfter slot frame balls = ⟨slot, frame, balls.length + 1, faced, before,
        if faced = .leave then some (expectedStanding balls) else none⟩ := by
  cases step : progress frame balls with
  | complete => exact absurd ((progress_complete_iff frame balls).1 step) h
  | goesOn faced before =>
    exact ⟨faced, before, facesNext_of_progress step, by rw [nextBallAfter, step]⟩

/-! ## A frame scored afresh (R34) -/

/-- R34: what scoring frame `n` afresh makes of it, `later` being the balls after it. -/
structure Rescored (n : Nat) (later : List Ball) (o f : Frame) : Prop where
  balls : f.balls = o.balls
  complete : frameComplete f = frameComplete o
  status : frameComplete o = false → f.status = o.status
  scored : ∀ k, frameComplete o = true → frameScore n o.balls later = some k →
    f.status = .scored ∧ f.score = some k
  awaits : frameComplete o = true → frameScore n o.balls later = none →
    f.status = .awaitingBonus ∧ f.score = none

theorem frameComplete_iff {f : Frame} :
    frameComplete f = true ↔ f.status = .scored ∨ f.status = .awaitingBonus := by
  simp [frameComplete, or_comm]

theorem rescored_rescoreFrame (n : Nat) (f : Frame) (later : List Ball) (r : Option Nat) :
    Rescored n later f { rescoreFrame n f later with running := r } := by
  unfold rescoreFrame
  by_cases complete : frameComplete f = true
  · rw [if_pos complete]
    cases score : frameScore n f.balls later with
    | none => exact ⟨rfl, complete.symm, by simp [complete], by simp [score], fun _ _ => ⟨rfl, rfl⟩⟩
    | some k =>
      exact ⟨rfl, complete.symm, by simp [complete], fun _ _ e => ⟨rfl, score.symm.trans e⟩, by simp [score]⟩
  · rw [if_neg complete]
    exact ⟨rfl, rfl, fun _ => rfl, fun _ c => absurd c complete, fun c => absurd c complete⟩

/-- A frame that scoring leaves SCORED has a score. -/
theorem Rescored.score_isSome {n : Nat} {later : List Ball} {o f : Frame} (h : Rescored n later o f)
    (scored : f.status = .scored) : f.score.isSome = true := by
  have complete : frameComplete o = true := h.complete ▸ frameComplete_iff.2 (.inl scored)
  cases score : frameScore n o.balls later with
  | none => rw [(h.awaits complete score).1] at scored; cases scored
  | some k => rw [(h.scored k complete score).2]; rfl

/-- R34: a complete frame scored afresh is scored as the rules say. -/
theorem Rescored.frameScored {n : Nat} {later : List Ball} {o f : Frame} (h : Rescored n later o f)
    (complete : frameComplete f = true) : FrameScored n f later := by
  rw [h.complete] at complete
  have scored := fun k => h.scored k complete
  have awaits := h.awaits complete
  rw [← h.balls] at scored awaits
  refine ⟨fun x hn hb ten noFoul => ?_, fun x y hn hb strike => ?_, fun ten => ?_⟩
  · have bonuses : bonusBalls f.balls = 2 := by simp [hb, bonusBalls, fellsTen_iff.2 ⟨ten, noFoul⟩]
    rw [frameScore, if_neg (by omega), bonuses] at scored awaits
    refine ⟨?_, fun short => awaits (by simp [bonus, short])⟩
    rintro y z rest rfl
    exact scored _ (by simp [bonus, pinSum, hb, ten, Nat.add_assoc])
  · have noStrike : fellsTen x = false := by simpa [← Bool.not_eq_true, fellsTen_iff] using strike
    rw [frameScore, if_neg (by omega), hb] at scored awaits
    refine ⟨fun spare => ?_, fun open_ => ?_⟩
    · have bonuses : bonusBalls [x, y] = 1 := by simp [bonusBalls, noStrike, spare]
      rw [bonuses] at scored awaits
      refine ⟨?_, fun none_later => awaits (by simp [bonus, none_later])⟩
      rintro z rest rfl
      exact scored _ (by simp [bonus, pinSum, spare])
    · have bonuses : bonusBalls [x, y] = 0 := by simp [bonusBalls, noStrike, open_]
      rw [bonuses] at scored
      exact scored _ (by simp [bonus, pinSum])
  · exact scored _ (if_pos ten)

/-! ## The frames of a game scored afresh (R34, R35) -/

theorem getElem?_rescoreFrom (fs : List Frame) : ∀ n k,
    (rescoreFrom n fs)[k]? =
      fs[k]?.map fun f => rescoreFrame (n + k) f ((fs.drop (k + 1)).flatMap (·.balls)) := by
  induction fs with
  | nil => intro n k; rfl
  | cons f fs ih =>
    intro n k
    cases k with
    | zero => rfl
    | succ k =>
      simp only [rescoreFrom, List.getElem?_cons_succ, ih, List.drop_succ_cons]
      rw [Nat.add_right_comm, Nat.add_assoc]

/-- R35: the running total after a frame, from the total before it. -/
def runningStep (acc : Option Nat) (f : Frame) : Option Nat :=
  match acc, f.score with
  | some t, some n => if f.status = .scored then some (t + n) else none
  | _, _ => none

theorem getElem?_fillRunning (fs : List Frame) : ∀ acc k,
    (fillRunning acc fs)[k]? =
      fs[k]?.map fun f : Frame =>
        ({ f with running := (fs.take (k + 1)).foldl runningStep acc } : Frame) := by
  induction fs with
  | nil => intro acc k; rfl
  | cons f fs ih =>
    intro acc k
    cases k with
    | zero => rfl
    | succ k => exact ih (runningStep acc f) k

/-- The running totals are those of the frames that hold them. -/
theorem foldl_fillRunning (fs : List Frame) : ∀ acc acc' k,
    ((fillRunning acc fs).take k).foldl runningStep acc' = (fs.take k).foldl runningStep acc' := by
  induction fs with
  | nil => intro acc acc' k; rfl
  | cons f fs ih =>
    intro acc acc' k
    cases k with
    | zero => rfl
    | succ k => exact ih (runningStep acc f) (runningStep acc' f) k

theorem foldl_runningStep_none (fs : List Frame) : fs.foldl runningStep none = none := by
  induction fs with
  | nil => rfl
  | cons f fs ih => exact ih

/-- R35: a running total is the sum of the scores up to it, while all these frames are SCORED. -/
theorem foldl_runningStep {fs : List Frame} (h : ∀ f ∈ fs, f.status = .scored → f.score.isSome = true) :
    ∀ t, fs.foldl runningStep (some t) =
      if fs.all (fun f => f.status == .scored) then some (t + (fs.map fun f => f.score.getD 0).sum)
      else none := by
  induction fs with
  | nil => intro t; rfl
  | cons f fs ih =>
    intro t
    obtain ⟨hf, hfs⟩ := List.forall_mem_cons.1 h
    by_cases scored : f.status = .scored
    · obtain ⟨n, hn⟩ := Option.isSome_iff_exists.1 (hf scored)
      have step : runningStep (some t) f = some (t + n) := by simp [runningStep, hn, scored]
      rw [List.foldl_cons, step, ih hfs]
      simp [scored, hn, Nat.add_assoc]
    · have step : runningStep (some t) f = none := by
        unfold runningStep
        split
        · exact if_neg scored
        · rfl
      rw [List.foldl_cons, step, foldl_runningStep_none]
      simp [scored]

theorem getElem?_rescore (fs : List Frame) (k : Nat) :
    (rescore fs)[k]? = fs[k]?.map fun f =>
      { rescoreFrame (k + 1) f ((fs.drop (k + 1)).flatMap (·.balls)) with
        running := ((rescore fs).take (k + 1)).foldl runningStep (some 0) } := by
  rw [rescore, foldl_fillRunning, getElem?_fillRunning, getElem?_rescoreFrom, Option.map_map,
    Nat.add_comm 1 k]
  rfl

/-- R34: every frame of a game scored afresh comes from the frame that stood in its place. -/
theorem rescored_of_getElem? {fs : List Frame} {k : Nat} {f : Frame} (h : (rescore fs)[k]? = some f) :
    ∃ o, fs[k]? = some o ∧ Rescored (k + 1) ((fs.drop (k + 1)).flatMap (·.balls)) o f := by
  rw [getElem?_rescore] at h
  obtain ⟨o, ho, rfl⟩ := Option.map_eq_some_iff.1 h
  exact ⟨o, ho, rescored_rescoreFrame ..⟩

/-- Scoring afresh leaves the balls. -/
theorem balls_rescore (fs : List Frame) : (rescore fs).map (·.balls) = fs.map (·.balls) := by
  refine List.ext_getElem? fun k => ?_
  rw [List.getElem?_map, List.getElem?_map, getElem?_rescore, Option.map_map]
  exact Option.map_congr fun f _ => (rescored_rescoreFrame _ f _ _).balls

theorem length_rescore (fs : List Frame) : (rescore fs).length = fs.length := by
  simpa using congrArg List.length (balls_rescore fs)

/-- The balls after a frame. -/
theorem later_rescore (fs : List Frame) (n : Nat) :
    ((rescore fs).drop n).flatMap (·.balls) = (fs.drop n).flatMap (·.balls) := by
  simp only [List.flatMap_def, List.map_drop, balls_rescore]

/-- R35: the running total of a frame. -/
theorem running_rescore {fs : List Frame} {k : Nat} {f : Frame} (h : (rescore fs)[k]? = some f) :
    f.running =
      if ((rescore fs).take (k + 1)).all (fun x => x.status == .scored) then
        some (((rescore fs).take (k + 1)).map fun x => x.score.getD 0).sum
      else none := by
  have running : f.running = ((rescore fs).take (k + 1)).foldl runningStep (some 0) := by
    rw [getElem?_rescore] at h
    obtain ⟨o, _, rfl⟩ := Option.map_eq_some_iff.1 h
    rfl
  rw [running, foldl_runningStep, Nat.zero_add]
  intro x hx
  obtain ⟨j, hj⟩ := List.mem_iff_getElem?.1 (List.mem_of_mem_take hx)
  obtain ⟨o, _, done⟩ := rescored_of_getElem? hj
  exact done.score_isSome

/-! ## A ball recorded (R30) -/

/-- R30: the frame with the ball, IN_PROGRESS or found complete. -/
theorem frameComplete_addBall (frame : Nat) (b : Ball) (f : Frame) :
    (frameComplete (addBall frame b f) = true ↔ CompleteFrame frame (addBall frame b f).balls) ∧
      (frameComplete (addBall frame b f) = false → (addBall frame b f).status = .inProgress) := by
  have found := progress_complete_iff frame (f.balls ++ [b])
  unfold frameComplete addBall
  by_cases complete : progress frame (f.balls ++ [b]) = .complete
  · simp [complete, found.1 complete]
  · simp [complete, mt found.2 complete]

/-- R30: where a frame of a game stood before a ball was recorded in one of them. -/
theorem rescored_recordBall {g : Game} {m k : Nat} {b : Ball} {old f : Frame}
    (bowled : g.frames[m]? = some old) (hf : (recordBall (m + 1) b g).frames[k]? = some f) :
    ∃ o, (if k = m then some (addBall (m + 1) b old) else g.frames[k]?) = some o ∧
      Rescored (k + 1) (((recordBall (m + 1) b g).frames.drop (k + 1)).flatMap (·.balls)) o f := by
  obtain ⟨o, ho, done⟩ := rescored_of_getElem? (fs := modifyNth (addBall (m + 1) b) m g.frames) hf
  rw [← later_rescore] at done
  refine ⟨o, ?_, done⟩
  obtain ⟨lt, _⟩ := List.getElem?_eq_some_iff.1 bowled
  rw [← ho, modifyNth_eq_set bowled, List.getElem?_set]
  by_cases e : m = k
  · rw [if_pos e, if_pos e.symm, if_pos lt]
  · rw [if_neg e, if_neg (Ne.symm e)]

theorem length_recordBall (frame : Nat) (b : Ball) (g : Game) :
    (recordBall frame b g).frames.length = g.frames.length := by
  rw [recordBall, length_rescore, modifyNth_eq_modify, List.length_modify]

end Sys2Proof.Machine

open Sys2Proof Sys2Proof.Machine

/-- Settles O60: every frame comes, scored afresh, from the frame that stood in its place, the one bowled
with the ball; the next-ball record follows the progression. -/
theorem recordedBallScoresFrames : Obligations.RecordedBallScoresFrames := by
  unfold Obligations.RecordedBallScoresFrames
  refine ⟨fun slot _ _ => ⟨(nextBallAfter_complete · slot), (nextBallAfter_goesOn · slot)⟩, ?_⟩
  intro g frame b old ten one bowled h
  refine ⟨rfl, (length_recordBall frame b g).trans ten, fun n f hf => ?_⟩
  cases frame with
  | zero => cases one
  | succ m =>
    cases n with
    | zero => cases hf
    | succ k =>
      intro complete
      obtain ⟨o, ho, done⟩ := rescored_recordBall (m := m) (k := k) bowled hf
      have complete_iff : complete ↔ frameComplete o = true := by
        rw [← done.complete, frameComplete_iff]
      have goesOn : ¬ complete → frameComplete o = false := fun h =>
        Bool.eq_false_iff.2 (mt complete_iff.2 h)
      refine ⟨fun e => ?_, fun p other hp => ?_, fun c => done.frameScored (frameComplete_iff.2 c),
        running_rescore hf⟩
      · cases e
        rw [if_pos rfl] at ho
        cases ho
        obtain ⟨found, inProgress⟩ := frameComplete_addBall (m + 1) b old
        exact ⟨done.balls, by rw [complete_iff, done.balls, found], fun h =>
          (done.status (goesOn h)).trans (inProgress (goesOn h))⟩
      · rw [if_neg (by omega)] at ho
        cases ho.symm.trans hp
        exact ⟨done.balls, by rw [complete_iff, frameComplete_iff], fun h => done.status (goesOn h)⟩

end

section
/-! SUPPORT. Session work that waited (O57): a pending resume, a close, a move and an expiry wait that
runs. -/

namespace Sys2Proof.Machine

open Sys2Proof

/-! ## A pending resume applied (R59 to R62) -/

/-- R61: a frame that a REPLAY empties is as one not bowled. -/
theorem nth1_replayGame {g : Game} {n : Nat} {f : Frame} (h : nth1 g.frames n = some f) :
    nth1 (replayGame n g).frames n = some ⟨.notBowled, [], none, none⟩ := by
  cases n with
  | zero => cases h
  | succ k =>
    have at_k : g.frames[k]? = some f := h
    obtain ⟨lt, _⟩ := List.getElem?_eq_some_iff.1 at_k
    let fs := g.frames.set k (replayFrame f)
    have replayed : (replayGame (k + 1) g).frames = rescore fs :=
      congrArg rescore (modifyNth_eq_set at_k)
    have emptied : fs[k]? = some (replayFrame f) := List.getElem?_set_self lt
    obtain ⟨e, he⟩ : ∃ e, (rescore fs)[k]? = some e := by
      rw [getElem?_rescore, emptied]
      exact ⟨_, rfl⟩
    obtain ⟨o, ho, done⟩ := rescored_of_getElem? he
    cases emptied.symm.trans ho
    have status : e.status = .notBowled := done.status rfl
    have running : e.running = none := by
      rw [running_rescore he, if_neg]
      intro all
      have mem : e ∈ (rescore fs).take (k + 1) :=
        List.mem_iff_getElem?.2 ⟨k, by rw [List.getElem?_take_of_lt (Nat.lt_succ_self k), he]⟩
      have scored := List.all_eq_true.1 all e mem
      rw [status] at scored
      cases scored
    have score : e.score = none := by
      rw [getElem?_rescore, emptied] at he
      cases he
      rfl
    have balls : e.balls = [] := done.balls
    rw [replayed]
    refine he.trans (congrArg some ?_)
    obtain ⟨_, _, _, _⟩ := e
    cases status; cases running; cases score; cases balls
    rfl

/-- R60, R61: what a resume choice makes of the bowlers and the next ball. -/
structure ResumeApplied (r : Resume) (x y : Session) (b : Bowler) : Prop where
  others : y = { x with bowlers := y.bowlers, nextBall := y.nextBall }
  bowler : ∃ c, bowlerAt y x.nextBall.slot = some c
  elsewhere : ∀ k, k ≠ x.nextBall.slot → bowlerAt y k = bowlerAt x k
  clamp : r = .clamp → y.bowlers = x.bowlers ∧ y.nextBall =
    if x.nextBall.faced = .leave then { x.nextBall with before := fullRack } else x.nextBall
  replay : r = .replay → (∃ f, nth1 b.game.frames x.nextBall.frame = some f ∧ f.balls ≠ []) →
    y.nextBall = ⟨x.nextBall.slot, x.nextBall.frame, 1, .full, fullRack, none⟩ ∧
      ∃ c, bowlerAt y x.nextBall.slot = some c ∧
        nth1 c.game.frames x.nextBall.frame = some ⟨.notBowled, [], none, none⟩

theorem resumeApplied {x : Session} {b : Bowler} (hb : bowlerAt x x.nextBall.slot = some b) (r : Resume) :
    ResumeApplied r x (resumeRecords r x) b := by
  cases r with
  | clamp =>
    refine ⟨rfl, ⟨b, hb⟩, fun _ _ => rfl, fun _ => ⟨rfl, ?_⟩, nofun⟩
    show clampNext x.nextBall = _
    cases faced : x.nextBall.faced <;> simp [clampNext, faced]
  | replay =>
    by_cases empty : (frameBalls b.game x.nextBall.frame).isEmpty = true
    · have same : resumeRecords .replay x = x := by simp [resumeRecords, hb, empty]
      rw [same]
      refine ⟨rfl, ⟨b, hb⟩, fun _ _ => rfl, nofun, fun _ ⟨f, hf, balls⟩ => ?_⟩
      simp [frameBalls, hf, balls] at empty
    · let c : Bowler := { b with game := replayGame x.nextBall.frame b.game }
      have replayed : resumeRecords .replay x =
          { x with
            bowlers := x.bowlers.set (x.nextBall.slot - 1) c
            nextBall := firstBallOf x.nextBall.slot x.nextBall.frame } := by
        simp only [resumeRecords, hb]
        rw [if_neg empty, modGame, modBowler_of_bowlerAt hb]
      have slots : ∀ m, bowlerAt (resumeRecords .replay x) m =
          if m = x.nextBall.slot then some c else bowlerAt x m := fun m => by
        rw [replayed]
        exact bowlerAt_set hb m
      refine ⟨by rw [replayed], ⟨c, (slots _).trans (if_pos rfl)⟩,
        fun k hk => (slots k).trans (if_neg hk), nofun, fun _ ⟨f, hf, _⟩ => ?_⟩
      exact ⟨by rw [replayed]; rfl, c, (slots _).trans (if_pos rfl), nth1_replayGame hf⟩

section
variable {s : State} {i : SessionId} {x : Session} {b : Bowler}

/-- R62: a resume choice applied is reported. -/
theorem applyResume_reports (hx : s.session i = some x) (hb : bowlerAt x x.nextBall.slot = some b)
    (r : Resume) :
    let t := s.applyResume i r
    t = { s.setSession i (some { resumeRecords r x with pendingResume := none }) with
      notices := t.notices } ∧ (laneSource x.lane, NoticeKind.ballScored) ∈ t.notices.map noticeKey := by
  obtain ⟨c, hc⟩ := (resumeApplied hb r).bowler
  have at_slot : bowlerAt { resumeRecords r x with pendingResume := none } x.nextBall.slot = some c := hc
  intro t
  obtain ⟨report, ht⟩ : ∃ report, t = (s.setSession i (some
      { resumeRecords r x with pendingResume := none })).raise (laneSource x.lane) (.ballScored report) := by
    simp only [t, State.applyResume, hx, hb, at_slot, State.raiseBallScored]
    exact ⟨_, rfl⟩
  rw [ht]
  exact ⟨rfl, mem_keys_addNotice (.inr rfl)⟩

/-- R59: with no ball held and none in flight, none is unresolved. -/
theorem unresolved_eq_false (held : x.held = none) (flight : s.sessionInFlight i x = false) :
    s.unresolved i x = false := by
  rw [State.unresolved, held, flight]
  rfl

theorem applyPending_none (hx : s.session i = some x) (h : x.pendingResume = none) :
    s.applyPending i = s := by
  simp only [State.applyPending, hx, h]

/-! ## The close of a SINGLE session with GAME billing (R20) -/

theorem tryClose_closing (hx : s.session i = some x) (closing : x.state = .closing)
    (holds : (s.entry x.lane).holder = some i) :
    s.tryClose i = if s.quiet x.lane then s.runClose i else s := by
  simp [State.tryClose, hx, State.closeReady, closing, State.holdsLane, holds]

theorem runClose_closes (hx : s.session i = some x) (mode : x.mode = .single)
    (game : x.terms.billing = .game) (holds : (s.entry x.lane).holder = some i) :
    OnPair (pairOf x.lane) ((s.setSession i none).modEntry x.lane fun e =>
      { e with state := .closed, holder := none, waiting := none, memory := some x.terms })
      (s.runClose i) := by
  let u := s.modEntry x.lane fun e => { e with memory := some x.terms }
  have holder : u.holdsLane i x.lane = true := by
    simp [u, State.holdsLane, entry_modEntry, holds]
  have run : s.runClose i =
      ((u.closeLaneEntry x.lane).setSession i none).raiseSessionClosed i x.lane := by
    simp only [State.runClose, hx, State.billingClose, game, memoryLane, mode, State.releaseForClose]
    rw [if_pos holder]
  have left : OnPair (pairOf x.lane) (u.modEntry x.lane fun e =>
      { e with state := .closed, holder := none, waiting := none }) (u.closeLaneEntry x.lane) :=
    ((OnPair.refl _ _).laneChanged x.lane rfl).sessionEnds x.lane rfl
  have closed := (left.setSession_congr i none).raiseSessionClosed i x.lane rfl
  rw [modEntry_modEntry] at closed
  rw [run, modEntry_setSession]
  exact closed

/-! ## A move completed (R23) -/

theorem tryMove_completes {m : MovePending} (hx : s.session i = some x) (moving : x.state = .moving)
    (holds : (s.entry x.lane).holder = some i) (pending : (s.entry x.lane).movePending = some m)
    (other : m.target ≠ x.lane) (quiet : s.quiet x.lane = true)
    (noLine : (s.meter x.lane).openLine = none) :
    let t := s.tryMove x.lane
    ∃ y, Moved m.target x y ∧ (∀ j, t.session j = if j = i then some y else s.session j) ∧
      t.entry x.lane = leftEntry (s.entry x.lane) ∧
      t.entry m.target = openedEntry i (s.entry m.target) ∧ t.charges = s.charges := by
  intro t
  have run : t = s.runMove x.lane i x m :=
    (tryMove_moving (holder_eq_some.2 ⟨holds, hx⟩) pending moving).trans (if_pos quiet)
  obtain ⟨v, y, left, moved, opened, _⟩ := runMove_moves (l := x.lane) (k := m.target) (z := x) m.resume hx
  rw [appendOpenLine_none noLine] at left
  change OnPair _ _ (s.runMove x.lane i x m) at opened
  rw [← run] at opened
  have entry_v := fun q => (left.entry q).trans (entry_modEntry s x.lane q leftEntry)
  have entry_t := fun q => (opened.entry q).trans (entry_modEntry (v.setSession i (some y)) ..)
  refine ⟨y, moved, fun j => ?_, ?_, ?_, opened.charges.trans left.charges⟩
  · rw [opened.session, session_modEntry, session_setSession, left.session, session_modEntry]
  · rw [entry_t, if_neg other.symm]
    exact (entry_v x.lane).trans (if_pos rfl)
  · rw [entry_t, if_pos rfl]
    exact congrArg (openedEntry i) ((entry_v m.target).trans (if_neg other))

/-! ## An expiry wait that ends (R157) -/

theorem quiet_of_lanes {s t : State} (h : t.lanes = s.lanes) (k : LaneId) : t.quiet k = s.quiet k := by
  simp only [State.quiet, State.tracker, State.supervisor, State.lane, h]

/-- R18: the arming check leaves a lane as quiet as it was. -/
theorem quiet_armingCheck (s : State) (l k : LaneId) : (s.armingCheck l).quiet k = s.quiet k :=
  quiet_congr (inFlight_armingCheck ..) (supervisor_armingCheck ..)

theorem quiet_modEntry (s : State) (l k : LaneId) (f : LaneEntry → LaneEntry) :
    (s.modEntry l f).quiet k = s.quiet k :=
  quiet_congr (by rw [tracker_modEntry]) (supervisor_modEntry ..)

/-- A lane table entry replaced by itself. -/
theorem modEntry_entry {s : State} {l : LaneId} {f : LaneEntry → LaneEntry}
    (h : f (s.entry l) = s.entry l) : s.modEntry l f = s := by
  rw [State.modEntry, h]
  exact setLane_lane s l

/-- R24: a pending move cancelled leaves the lane as quiet as it was. -/
theorem cancelMove_cancels (s : State) (l : LaneId) :
    OnPair (pairOf l) (s.modEntry l fun e => { e with movePending := none }) (s.cancelMove l) ∧
      (s.cancelMove l).quiet l = s.quiet l := by
  unfold State.cancelMove
  split
  · next h =>
    rw [modEntry_entry (by rw [← h])]
    exact ⟨.refl _ s, rfl⟩
  · exact ⟨(OnPair.refl _ _).armingCheck l rfl, by rw [quiet_armingCheck, quiet_modEntry]⟩

/-- R19: the record of a session that becomes CLOSING. -/
def closingOf (x : Session) : Session :=
  { x with state := .closing, expiryDue := false, billing := { x.billing with expiryCount := none } }

/-- R19: a session that holds its lane becomes CLOSING, the lane as quiet as it was. -/
theorem becomeClosing_closes (hx : s.session i = some x) (holds : (s.entry x.lane).holder = some i) :
    OnPair (pairOf x.lane) ((s.setSession i (some (closingOf x))).modEntry x.lane fun e =>
      { e with movePending := none }) (s.becomeClosing i) ∧
      (s.becomeClosing i).quiet x.lane = s.quiet x.lane := by
  let u := s.setSession i (some (closingOf x))
  have holder : u.holdsLane i x.lane = true := by
    rw [State.holdsLane, show u.entry x.lane = s.entry x.lane from rfl, holds]
    exact beq_self_eq_true _
  have become : s.becomeClosing i =
      ((u.cancelMove x.lane).raiseSessionState i none).armingCheck x.lane := by
    simp only [State.becomeClosing, hx]
    exact congrArg (fun v => (State.raiseSessionState v i none).armingCheck x.lane) (if_pos holder)
  obtain ⟨cancelled, quiet⟩ := cancelMove_cancels u x.lane
  rw [become]
  refine ⟨(cancelled.raiseSessionState i none).armingCheck x.lane rfl, ?_⟩
  rw [quiet_armingCheck, quiet_of_lanes (raiseSessionState_equipment _ i none).1, quiet]
  exact quiet_of_lanes rfl _

/-- R157: where no wait runs for an EXPIRED session, none ends. -/
theorem expiryEnds_stays (hx : s.session i = some x)
    (h : x.state ≠ .expired ∨ x.billing.expiryCount = none) : s.expiryEnds i = s := by
  rw [State.expiryEnds, hx]
  refine if_neg fun c => h.elim (absurd c.1) fun none_runs => ?_
  rw [none_runs] at c
  cases c.2

/-- R21, R157: on a lane that is not quiet, the session whose wait ends waits to close. -/
theorem expiryEnds_closing (hx : s.session i = some x) (expired : x.state = .expired)
    (count : x.billing.expiryCount.isSome = true) (holds : (s.entry x.lane).holder = some i)
    (busy : s.quiet x.lane = false) : s.expiryEnds i = s.becomeClosing i := by
  obtain ⟨closes, quiet⟩ := becomeClosing_closes hx holds
  let t := s.becomeClosing i
  have session : t.session i = some (closingOf x) :=
    (closes.session i).trans (session_setSession_self s i _)
  have holder : (t.entry x.lane).holder = some i := by
    rw [closes.entry, entry_modEntry, if_pos rfl]
    exact holds
  have open_ : t.tryClose i = t := by
    rw [tryClose_closing (x := closingOf x) session rfl holder]
    exact if_neg (by rw [show (closingOf x).lane = x.lane from rfl, quiet, busy]; decide)
  have stays : t.tryMove x.lane = t := tryMove_stays fun j y hj hy => by
    cases holder.symm.trans hj
    cases session.symm.trans hy
    exact fun e => nomatch e
  have settled : t.settleLane x.lane = t := by
    rw [State.settleLane, holder]
    dsimp only
    rw [open_, stays]
  have ends : s.expiryEnds i = t.settleSession i := by
    rw [State.expiryEnds, hx]
    exact if_pos ⟨expired, count⟩
  rw [ends, State.settleSession, session]
  exact settled

end

end Sys2Proof.Machine
end

section
/-! SUPPORT. A held result that waited (O57): the records a plain first ball makes, what the machine does with
its need, and that nothing is left to release. -/

namespace Sys2Proof.Machine

open Sys2Proof

/-! ## The records after a plain first ball (R28 to R33) -/

theorem pinCount_le (a : PinSet) : pinCount a ≤ 10 :=
  (List.length_filterMap_le _ _).trans (List.length_range (n := 10)).le

theorem frameBalls_recordBall {g : Game} {n : Nat} {f : Frame} (h : nth1 g.frames n = some f) (b : Ball) :
    frameBalls (recordBall n b g) n = f.balls ++ [b] := by
  cases n with
  | zero => cases h
  | succ k =>
    have at_k : g.frames[k]? = some f := h
    obtain ⟨lt, _⟩ := List.getElem?_eq_some_iff.1 at_k
    have recorded : (recordBall (k + 1) b g).frames = rescore (g.frames.set k (addBall (k + 1) b f)) :=
      congrArg rescore (modifyNth_eq_set at_k)
    have balls : ((recordBall (k + 1) b g).frames[k]?).map (·.balls) = some (f.balls ++ [b]) := by
      rw [recorded, ← List.getElem?_map, balls_rescore, List.getElem?_map, List.getElem?_set_self lt]
      rfl
    exact congrArg (·.getD []) balls

/-- R28: the record of a ball that faces the full rack without a foul. -/
def firstBall (r : BallResult) : Ball :=
  ⟨10 - pinCount r.after, .full, fullRack, r.after, false, isSplit .full false r.after, r.source, false,
    r.stamp⟩

theorem ballRecord_first {n : NextBall} {r : BallResult} (faced : n.faced = .full)
    (before : n.before = fullRack) (noFoul : r.foul = false) : ballRecord n r = firstBall r := by
  have raw : rawCount fullRack r.after = 10 - pinCount r.after := by
    rw [rawCount, show pinCount fullRack = 10 by decide]
  simp [ballRecord, firstBall, pinfallOf, sourceOf, faced, noFoul, raw, before]

/-- R31: a first ball of a frame 1 to 9 that leaves pins is followed by a ball on them. -/
theorem progress_firstBall {r : BallResult} {f : Nat} (frame : f ≤ 9) (leaves : pinCount r.after ≠ 0) :
    progress f [firstBall r] = .goesOn .leave r.after := by
  have stands : ¬ fellsTen (firstBall r) = true := by
    have few : 10 - pinCount r.after ≠ 10 := by omega
    simp [fellsTen, firstBall, few]
  rw [progress, if_neg (by omega), progressNormal, if_neg stands]
  rfl

/-- R33: and the record of that ball expects the pins left. -/
theorem nextBallAfter_firstBall {r : BallResult} {f : Nat} (frame : f ≤ 9)
    (leaves : pinCount r.after ≠ 0) (k : Nat) :
    nextBallAfter k f [firstBall r] = ⟨k, f, 2, .leave, r.after, some (pinCount r.after)⟩ := by
  have expected : expectedStanding [firstBall r] = pinCount r.after := by
    have most := pinCount_le r.after
    show 10 - (0 + (10 - pinCount r.after)) = _
    omega
  rw [nextBallAfter, progress_firstBall frame leaves]
  simp [expected]

theorem chargeDue_eq_false {x : Session} {f : Nat} {b : Bowler} (h : ¬ ChargeDue x f b) :
    chargeDue x b.game f = false := by
  refine Bool.eq_false_iff.2 fun due => h ?_
  simp only [chargeDue, Bool.and_eq_true, beq_iff_eq, Bool.not_eq_true'] at due
  exact ⟨due.1.1.1, due.1.1.2, due.2⟩

section
variable {x : Session} {r : BallResult} {k f : Nat} {b : Bowler}

/-- The balls of the frame after a plain first ball. -/
theorem PlainFirstBall.balls (plain : PlainFirstBall x r k f b) :
    frameBalls (recordBall f (firstBall r) b.game) f = [firstBall r] := by
  obtain ⟨fr, at_f, empty⟩ := plain.empty
  rw [frameBalls_recordBall at_f, empty]
  rfl

theorem PlainFirstBall.ball (plain : PlainFirstBall x r k f b) :
    ballRecord x.nextBall r = firstBall r := by
  rw [plain.faces]
  exact ballRecord_first rfl rfl plain.noFoul

/-- R27, stages 1 to 4: the records after a plain first ball that makes no game charge. -/
theorem PlainFirstBall.records (plain : PlainFirstBall x r k f b) (charge : ¬ ChargeDue x f b) :
    ballRecords x b r = afterFirstBall x r k f b := by
  have charged : (b.game.charged || false) =
      (b.game.charged || decide (x.terms.billing = .game ∧ f = 1)) := by
    by_cases due : x.terms.billing = .game ∧ f = 1
    · have already : b.game.charged = true := by
        by_contra no
        exact charge ⟨due.1, due.2, Bool.eq_false_iff.2 no⟩
      simp [already]
    · simp [due]
  have next := nextBallAfter_firstBall plain.frame.2 plain.leaves k
  rw [← plain.balls] at next
  unfold ballRecords
  dsimp only
  rw [plain.ball, plain.faces]
  dsimp only
  rw [next, chargeDue_eq_false charge, modGame, modBowler_of_bowlerAt plain.bowler]
  simp only [show (recordBall f (firstBall r) b.game).charged = b.game.charged from rfl, charged]
  rfl

end

/-! ## A plain first ball applied (R27) -/

section
variable {s : State} {l : LaneId} {i : SessionId} {x y : Session} {r : BallResult} {b c : Bowler}

/-- R27: a ball that leaves its frame to go on, with no game charge, no withdrawal and no resume waiting
for it: its records, its report, and the need handed on. -/
theorem applyResult_goesOn (hx : s.session i = some x) (hb : bowlerAt x x.nextBall.slot = some b)
    (records : ballRecords x b r = y) (hc : bowlerAt y x.nextBall.slot = some c)
    (goesOn : progress x.nextBall.frame (frameBalls c.game x.nextBall.frame) ≠ .complete)
    (charge : chargeDue x b.game x.nextBall.frame = false) (stays : b.withdrawalPending = false)
    (noResume : y.pendingResume = none) :
    ∃ payload, s.applyResult l i r =
      ((s.setSession i (some y)).raise (laneSource l) payload).takeNeed l
        (needOf y x.nextBall.slot x.nextBall.frame) := by
  have ends : ∀ t : State, t.ballEnds i b x.nextBall false = t := fun t => by
    simp [State.ballEnds, stays]
  have need : ∀ t : State, t.session i = some y →
      t.needAfter i x.nextBall false = needOf y x.nextBall.slot x.nextBall.frame := fun t ht => by
    simp [State.needAfter, ht]
  have raised := fun payload => session_raise (s.setSession i (some y)) (laneSource l) payload i
  rw [session_setSession_self] at raised
  have pending : ∀ payload n, let t := ((s.setSession i (some y)).raise (laneSource l) payload).takeNeed l n
      t.applyPending i = t := fun payload n =>
    applyPending_none ((((OnPair.refl (pairOf l) _).takeNeed l n rfl).session i).trans (raised payload))
      noResume
  simp only [State.applyResult, hx, hb, records, hc, Option.map_some, Option.getD_some, charge, stays,
    decide_eq_false goesOn, ends, Bool.or_self, Bool.false_eq_true, if_false, State.raiseBallScored]
  rw [need _ (raised _), pending]
  exact ⟨_, rfl⟩

end

section
variable {s : State} {l : LaneId} {i : SessionId} {x : Session} {r : BallResult} {k f : Nat} {b : Bowler}

/-- R36: after a plain first ball of a session that is not leaving its lane the need is FIRST. -/
theorem needOf_afterFirstBall (closing : x.state ≠ .closing) (moving : x.state ≠ .moving)
    (exhausted : x.state ≠ .exhausted) : needOf (afterFirstBall x r k f b) k f = .first := by
  have stays : needsPark (afterFirstBall x r k f b) = false := by
    simp [needsPark, afterFirstBall, closing, moving, exhausted]
  rw [needOf, if_neg (by rw [stays]; decide)]
  exact if_pos ⟨rfl, rfl, rfl⟩

/-- R27: a plain first ball that makes no game charge. -/
theorem applyResult_plainFirstBall (hx : s.session i = some x) (plain : PlainFirstBall x r k f b)
    (charge : ¬ ChargeDue x f b) (closing : x.state ≠ .closing) (moving : x.state ≠ .moving)
    (exhausted : x.state ≠ .exhausted) :
    ∃ payload, s.applyResult l i r =
      ((s.setSession i (some (afterFirstBall x r k f b))).raise (laneSource l) payload).takeNeed l
        .first := by
  have slot : x.nextBall.slot = k := congrArg NextBall.slot plain.faces
  have frame : x.nextBall.frame = f := congrArg NextBall.frame plain.faces
  have at_slot : bowlerAt (afterFirstBall x r k f b) k = some { b with
      game := { recordBall f (firstBall r) b.game with
        charged := b.game.charged || decide (x.terms.billing = .game ∧ f = 1) } } :=
    (bowlerAt_set plain.bowler k).trans (if_pos rfl)
  have goesOn : progress f [firstBall r] ≠ .complete := by
    rw [progress_firstBall plain.frame.2 plain.leaves]
    exact nofun
  rw [← plain.balls] at goesOn
  have applied := applyResult_goesOn (l := l) hx (by rw [slot]; exact plain.bowler)
    (plain.records charge) (by rw [slot]; exact at_slot) (by rw [frame]; exact goesOn)
    (by rw [frame]; exact chargeDue_eq_false charge) plain.stays plain.noResume
  rw [slot, frame, needOf_afterFirstBall closing moving exhausted] at applied
  exact applied

end

/-! ## The machine after the need (R90, R92, R97) -/

section
variable {s : State} {l : LaneId}

/-- R90: a machine that is not READY, or owes a cycle, arms no lane. -/
def Unready (v : Supervisor) : Prop := v.machine ≠ .ready ∨ v.owed.isSome = true

theorem armingPasses_unready (h : Unready (s.supervisor l)) : s.armingPasses l = false := by
  rcases h with h | h
  · simp [State.armingPasses, h]
  · obtain ⟨n, hn⟩ := Option.isSome_iff_exists.1 h
    simp [State.armingPasses, hn]

theorem armingCheck_unready (h : Unready (s.supervisor l)) (unarmed : (s.tracker l).play ≠ .armed) :
    s.armingCheck l = s := by
  have fails := armingPasses_unready h
  unfold State.armingCheck
  split
  · rw [fails]; rfl
  · next armed => exact absurd armed unarmed
  all_goals rfl

theorem tracker_laneChanged (h : Unready (s.supervisor l)) (unarmed : (s.tracker l).play ≠ .armed) :
    (s.laneChanged l).tracker l = s.tracker l := by
  have lane := lane_decideLift s (pairOf l) l
  have tracker : (s.decideLift (pairOf l)).tracker l = s.tracker l := congrArg Lane.tracker lane
  have supervisor : (s.decideLift (pairOf l)).supervisor l = s.supervisor l :=
    congrArg Lane.supervisor lane
  rw [State.laneChanged, armingCheck_unready (supervisor ▸ h) (tracker ▸ unarmed), tracker]

theorem tracker_place (p : PairId) (a : NodeAddr) (c : Command) :
    (s.place p a c).tracker l = s.tracker l := by
  simp only [State.tracker, State.lane, lanes_place]

/-- A sequence that begins leaves a ball that is not ARMED. -/
theorem tracker_beginSequence (k : Sequence) (m : Option RestartMark)
    (unarmed : (s.tracker l).play ≠ .armed) : (s.beginSequence l k m).tracker l = s.tracker l := by
  unfold State.beginSequence
  dsimp only
  split
  · let u := ((s.modSupervisor l (newSequence k m)).place (pairOf l) (pinsetterAddr (sideOf l))
      (sequenceCommand k ((s.supervisor l).cycle + 1))).raiseMachineState l
    have tracker : u.tracker l = s.tracker l :=
      (tracker_raise ..).trans ((tracker_place ..).trans (tracker_modSupervisor ..))
    have supervisor : u.supervisor l = newSequence k m (s.supervisor l) := by
      refine (supervisor_raise ..).trans (Eq.trans ?_ ((supervisor_modSupervisor ..).trans (if_pos rfl)))
      simp only [State.supervisor, State.lane, lanes_place]
    have running : Unready (u.supervisor l) := by
      rw [supervisor]
      exact .inl (by cases k <;> exact nofun)
    exact (tracker_laneChanged running (tracker ▸ unarmed)).trans tracker
  · rfl

/-- The lane after a need has been taken: no ball, no need left over, and no arming. -/
structure AfterNeed (l : LaneId) (t : State) : Prop where
  ball : (t.tracker l).play = .notArmed
  deferred : (t.supervisor l).record.isSome = true ∨ (t.supervisor l).deferredNeed = none
  unready : Unready (t.supervisor l)

/-- R79: the supervisor has taken the need of a RESOLVED ball. -/
theorem needTaken_play (resolved : (s.tracker l).play = .resolved) :
    ((s.needTaken l).tracker l).play = .notArmed := by
  rw [State.needTaken, resolved]
  exact congrArg Tracker.play ((tracker_modTracker ..).trans (if_pos rfl))

/-- No sequence in progress ends. -/
theorem endUnfinished_none (h : (s.supervisor l).record = none) : s.endUnfinished l = s := by
  simp only [State.endUnfinished, h]

/-- No owed cycle is discarded. -/
theorem discardOwed_none (h : (s.supervisor l).owed = none) : s.discardOwed l = s := by
  simp only [State.discardOwed, h]

/-- R115: a machine without sequence and owed cycle that is owed the PARK is HALTED. -/
theorem afterNeed_oweStop (ball : (s.tracker l).play = .notArmed)
    (record : (s.supervisor l).record = none) (deferred : (s.supervisor l).deferredNeed = none)
    (owed : (s.supervisor l).owed = none) (k : StopKind) : AfterNeed l (s.oweStop l k) := by
  let u := s.modNode (pairOf l) (pinsetterAddr (sideOf l)) fun n =>
    dropCycle { n with owed := some (mergeOwed n.owed (mergeOwed (s.supervisor l).awaiting k)) }
  let w := u.modSupervisor l fun v => { v with awaiting := none, machine := .halted }
  have ended : u.endUnfinished l = u := endUnfinished_none record
  have supervisor : w.supervisor l = { s.supervisor l with awaiting := none, machine := .halted } :=
    (supervisor_modSupervisor ..).trans (if_pos rfl)
  have kept : w.discardOwed l = w := discardOwed_none (by rw [supervisor]; exact owed)
  have e : s.oweStop l k = (w.raiseMachineState l).laneChanged l := by
    show State.laneChanged (State.raiseMachineState (State.discardOwed
      (State.modSupervisor (u.endUnfinished l) l _) l) l) l = _
    rw [ended]
    exact congrArg (fun v => (State.raiseMachineState v l).laneChanged l) kept
  have supervisor' : (w.raiseMachineState l).supervisor l = w.supervisor l := supervisor_raise ..
  have tracker : (w.raiseMachineState l).tracker l = s.tracker l :=
    (tracker_raise ..).trans (tracker_modSupervisor ..)
  have halted : Unready ((w.raiseMachineState l).supervisor l) := by
    rw [supervisor', supervisor]
    exact .inl nofun
  have unarmed : ((w.raiseMachineState l).tracker l).play ≠ .armed := by rw [tracker, ball]; exact nofun
  rw [e]
  refine ⟨?_, ?_, ?_⟩
  · rw [tracker_laneChanged halted unarmed, tracker, ball]
  · rw [supervisor_laneChanged, supervisor', supervisor]
    exact .inr deferred
  · rw [supervisor_laneChanged]
    exact halted

/-- R95, R97: a machine without sequence and owed cycle, its slot empty, parks or is owed the PARK. -/
theorem afterNeed_placeStop (ball : (s.tracker l).play = .notArmed)
    (record : (s.supervisor l).record = none) (deferred : (s.supervisor l).deferredNeed = none)
    (owed : (s.supervisor l).owed = none) (empty : (s.pinsetter l).slot = none) :
    AfterNeed l (s.placeStop l .park) := by
  unfold State.placeStop
  split
  · exact afterNeed_oweStop ball record deferred owed .park
  · rw [if_pos (slotTakes_of_empty empty _)]
    dsimp only
    rw [endUnfinished_none record]
    let u := s.modSupervisor l fun v => { v with awaiting := awaitingBehind .park v.awaiting }
    have supervisor : u.supervisor l =
        { s.supervisor l with awaiting := awaitingBehind .park (s.supervisor l).awaiting } :=
      (supervisor_modSupervisor ..).trans (if_pos rfl)
    have tracker : u.tracker l = s.tracker l := tracker_modSupervisor ..
    have begun := (beginSequence_takes (s := u) (l := l) (k := .park) none
      (slotTakes_of_empty empty _)).1
    rw [supervisor] at begun
    have kept : (u.beginSequence l .park none).discardOwed l = u.beginSequence l .park none :=
      discardOwed_none (by rw [begun]; exact owed)
    show AfterNeed l ((u.beginSequence l .park none).discardOwed l)
    rw [kept]
    refine ⟨?_, ?_, ?_⟩
    · rw [tracker_beginSequence _ _ (by rw [tracker, ball]; exact nofun), tracker, ball]
    · rw [begun]
      exact .inl rfl
    · rw [begun]
      exact .inl nofun

/-- R97: a machine that is not READY follows its park, where one is to follow. -/
theorem afterNeed_followPark (ball : (s.tracker l).play = .notArmed)
    (record : (s.supervisor l).record = none) (deferred : (s.supervisor l).deferredNeed = none)
    (owed : (s.supervisor l).owed = none) (empty : (s.pinsetter l).slot = none)
    (rests : (s.supervisor l).machine ≠ .ready) : AfterNeed l (s.followPark l) := by
  unfold State.followPark
  split
  · have supervisor := (supervisor_modSupervisor s l l fun v => { v with followOn := .none }).trans
      (if_pos rfl)
    refine afterNeed_placeStop ?_ ?_ ?_ ?_ empty
    · rw [tracker_modSupervisor, ball]
    · rw [supervisor]; exact record
    · rw [supervisor]; exact deferred
    · rw [supervisor]; exact owed
  · exact ⟨ball, .inr deferred, .inl rests⟩

/-- R92: a READY machine that has been given its need, to run or to owe. -/
theorem afterNeed_given {t : State} (resolved : (t.tracker l).play = .resolved)
    (given : (t.supervisor l).owed.isSome = true ∨ (t.supervisor l).record.isSome = true)
    (deferred : (t.supervisor l).record.isSome = true ∨ (t.supervisor l).deferredNeed = none)
    (unready : Unready (t.supervisor l)) :
    AfterNeed l (((t.needTaken l).armingCheck l).followPark l) := by
  have supervisor := (needTaken_equipment (s := t) (l := l) l).1
  have ball := needTaken_play resolved
  have rests : (t.needTaken l).armingCheck l = t.needTaken l :=
    armingCheck_unready (supervisor ▸ unready) (by rw [ball]; exact nofun)
  rw [rests, followPark_waits (supervisor ▸ given)]
  exact ⟨ball, supervisor ▸ deferred, supervisor ▸ unready⟩

/-- R92: the need FIRST of a RESOLVED ball, taken by a machine without sequence and owed cycle, its slot
empty. -/
theorem afterNeed_takeNeed (resolved : (s.tracker l).play = .resolved)
    (record : (s.supervisor l).record = none) (deferred : (s.supervisor l).deferredNeed = none)
    (owed : (s.supervisor l).owed = none) (empty : (s.pinsetter l).slot = none) :
    AfterNeed l (s.takeNeed l .first) := by
  by_cases ready : (s.supervisor l).machine = .ready
  · by_cases below : s.belowHold l = true
    · let u := s.modSupervisor l fun v => { v with owed := none }
      have taken : s.takeNeed l .first =
          (((u.beginSequence l .firstCycle none).needTaken l).armingCheck l).followPark l := by
        unfold State.takeNeed
        rw [ready, below]
        rfl
      have begun := (beginSequence_takes (s := u) (l := l) (k := .firstCycle) none
        (slotTakes_of_empty empty _)).1
      have tracker : u.tracker l = s.tracker l := tracker_modSupervisor ..
      rw [taken]
      refine afterNeed_given ?_ ?_ ?_ ?_
      · rw [tracker_beginSequence _ _ (by rw [tracker, resolved]; exact nofun), tracker, resolved]
      · rw [begun]; exact .inr rfl
      · rw [begun]; exact .inl rfl
      · rw [begun]; exact .inl nofun
    · let u := (s.modSupervisor l fun v => { v with owed := some .first }).raiseMachineState l
      have taken : s.takeNeed l .first = ((u.needTaken l).armingCheck l).followPark l := by
        unfold State.takeNeed
        rw [ready, Bool.eq_false_iff.2 below]
        rfl
      have supervisor : u.supervisor l = { s.supervisor l with owed := some .first } :=
        (supervisor_raise ..).trans ((supervisor_modSupervisor ..).trans (if_pos rfl))
      have tracker : u.tracker l = s.tracker l := (tracker_raise ..).trans (tracker_modSupervisor ..)
      rw [taken]
      refine afterNeed_given (by rw [tracker, resolved]) ?_ ?_ ?_
      · rw [supervisor]; exact .inl rfl
      · rw [supervisor]; exact .inr deferred
      · rw [supervisor]; exact .inr rfl
  · have taken : s.takeNeed l .first = ((s.needTaken l).armingCheck l).followPark l := by
      unfold State.takeNeed
      split
      · next h => exact absurd h ready
      all_goals rfl
    obtain ⟨supervisor, pairs⟩ := needTaken_equipment (s := s) (l := l) l
    have ball := needTaken_play resolved
    have rests : (s.needTaken l).armingCheck l = s.needTaken l :=
      armingCheck_unready (supervisor ▸ .inl ready) (by rw [ball]; exact nofun)
    rw [taken, rests]
    refine afterNeed_followPark ball ?_ ?_ ?_ ?_ ?_
    · rw [supervisor, record]
    · rw [supervisor, deferred]
    · rw [supervisor, owed]
    · simp only [State.pinsetter, State.node, State.poller, State.pair, pairs]
      exact empty
    · rw [supervisor]
      exact ready

end

/-! ## A held result applied (R27) -/

section
variable {s : State} {i : SessionId} {x : Session} {r : BallResult} {k f : Nat} {b : Bowler}

/-- R27: with no sequence in progress the held result is applied, and no need is left to hand. -/
theorem released_applies {l : LaneId} (holds : (s.entry l).holder = some i) (hx : s.session i = some x)
    (held : x.held = some r) (record : (s.supervisor l).record = none)
    (after : AfterNeed l (s.applyResult l i r)) : s.released l = s.applyResult l i r := by
  have applied : s.releaseHeld l = s.applyResult l i r := by
    rw [State.releaseHeld, State.sequencing, record, if_neg (by decide), State.applyHeld,
      holder_eq_some.2 ⟨holds, hx⟩]
    simp only [held]
  rw [State.released, applied, State.releaseDeferred]
  rcases after.deferred with h | h
  · exact if_pos h
  · rw [handDeferred_none h, ite_self]

/-- R27, R91: the held result of a plain first ball, applied on its lane. -/
theorem heldResult_applied (hx : s.session i = some x) (holds : (s.entry x.lane).holder = some i)
    (held : x.held = some r) (closing : x.state ≠ .closing) (moving : x.state ≠ .moving)
    (exhausted : x.state ≠ .exhausted) (plain : PlainFirstBall x r k f b) (charge : ¬ ChargeDue x f b)
    (record : (s.supervisor x.lane).record = none)
    (deferred : (s.supervisor x.lane).deferredNeed = none) (owed : (s.supervisor x.lane).owed = none)
    (empty : (s.pinsetter x.lane).slot = none) (resolved : (s.tracker x.lane).play = .resolved) :
    let t := ((s.released x.lane).armingCheck x.lane).settleLane x.lane
    OnPair (pairOf x.lane) (s.setSession i (some (afterFirstBall x r k f b))) t ∧
      (t.tracker x.lane).play = .notArmed := by
  obtain ⟨payload, applied⟩ := applyResult_plainFirstBall (l := x.lane) hx plain charge closing moving
    exhausted
  let u := s.applyResult x.lane i r
  have onPair : OnPair (pairOf x.lane) (s.setSession i (some (afterFirstBall x r k f b))) u := by
    rw [show u = _ from applied]
    exact ((OnPair.refl _ _).raise _ payload).takeNeed x.lane .first rfl
  have after : AfterNeed x.lane u := by
    rw [show u = _ from applied]
    exact afterNeed_takeNeed resolved record deferred owed empty
  have armed : u.armingCheck x.lane = u :=
    armingCheck_unready after.unready (by rw [after.ball]; exact nofun)
  have stays : u.HolderStays x.lane := fun j y hj hy => by
    rw [onPair.entry] at hj
    cases holds.symm.trans hj
    rw [onPair.session, session_setSession_self] at hy
    cases hy
    exact ⟨closing, moving⟩
  intro t
  have settled : t = u := by
    show State.settleLane (State.armingCheck (s.released x.lane) x.lane) x.lane = u
    rw [released_applies holds hx held record after, armed, settleLane_stays stays]
  rw [settled]
  exact ⟨onPair, after.ball⟩

end

end Sys2Proof.Machine

open Sys2Proof Sys2Proof.Machine

/-- Settles O57: each clause is what its operation makes of the work that waits, the trunk settled after
it. -/
theorem deferredSessionWorkRuns : Obligations.DeferredSessionWorkRuns := by
  unfold Obligations.DeferredSessionWorkRuns
  intro s i
  refine ⟨fun x hx idle => congrArg State.done (applyPending_none hx idle),
    fun x hx open_ => congrArg State.done (tryClose_stays fun y hy => ?_),
    fun l stays => congrArg State.done (tryMove_stays fun j y hj hy => ?_),
    fun x hx waits => congrArg State.done (expiryEnds_stays hx waits),
    fun x hx _ => ⟨fun r waiting held flight noSlot => ?_,
      fun r b waiting held flight slot hb _ => ?_, fun mode holds => ⟨fun closing game quiet => ?_,
        fun m moving pending other quiet noLine => ?_, fun expired count busy => ?_, ?_⟩⟩⟩
  · cases hx.symm.trans hy
    exact open_
  · exact stays (j, y) (holder_eq_some.2 ⟨hj, hy⟩)
  · refine congrArg State.done ((applyPending_cases hx waiting).trans ?_)
    rw [unresolved_eq_false held flight, if_neg (by decide), if_pos noSlot, modSession_eq hx]
  · have applied : s.applyPending i = s.applyResume i r := by
      rw [applyPending_cases hx waiting, unresolved_eq_false held flight, if_neg (by decide),
        if_neg (Option.isSome_iff_ne_none.1 slot)]
    obtain ⟨record, reported⟩ := applyResume_reports hx hb r
    obtain ⟨others, _, elsewhere, clamp, replay⟩ := resumeApplied hb r
    obtain ⟨n, hn, key⟩ := List.mem_map.1 reported
    refine ⟨s.applyResume i r, { resumeRecords r x with pendingResume := none },
      congrArg State.done applied, record, by rw [others], elsewhere, clamp, fun h begun => ?_,
      n, hn, congrArg Prod.fst key, congrArg Prod.snd key⟩
    obtain ⟨next, c, hc, emptied⟩ := replay h begun
    exact ⟨next, c, _, hc, emptied, rfl⟩
  · refine ⟨s.runClose i, congrArg State.done ?_, runClose_closes hx mode game holds⟩
    exact (tryClose_closing hx closing holds).trans (if_pos quiet)
  · obtain ⟨y, moved, sessions, source, target, charges⟩ :=
      tryMove_completes hx moving holds pending other quiet noLine
    exact ⟨_, y, rfl, (sessions i).trans (if_pos rfl), moved.others, moved.handles, source, target,
      fun j ji => (sessions j).trans (if_neg ji), charges⟩
  · exact ⟨s.becomeClosing i, congrArg State.done (expiryEnds_closing hx expired count holds busy),
      (becomeClosing_closes hx holds).1⟩
  · intro r k f b held closing moving exhausted plain charge record deferred owed empty resolved
    exact ⟨_, rfl, heldResult_applied hx holds held closing moving exhausted plain charge record deferred
      owed empty resolved⟩

end

section
/-! SUPPORT. CORRECT_BALL (O46): the structural check is its four conditions, and what an accepted
correction makes of the game, the totals and the next ball. -/

namespace Sys2Proof.Machine

open Sys2Proof

/-! ## The faced values of a frame (R55, conditions 1 and 2) -/

/-- R31, R32: the rules give the next ball of a frame that goes on one faced value. -/
theorem facesNext_unique {n : Nat} {balls : List Ball} {f g : Faced} {p q : PinSet}
    (more : ¬ CompleteFrame n balls) (hf : FacesNext n balls f p) (hg : FacesNext n balls g q) :
    f = g := by
  obtain ⟨emptyF, oneF, twoF⟩ := hf
  obtain ⟨emptyG, oneG, twoG⟩ := hg
  rcases balls with _ | ⟨x, _ | ⟨y, _ | ⟨z, rest⟩⟩⟩
  · exact (emptyF rfl).1.trans (emptyG rfl).1.symm
  · by_cases full : x.foul = true ∨ n = 10 ∧ x.pinfall = 10
    · exact ((oneF x rfl).1 full).1.trans ((oneG x rfl).1 full).1.symm
    · obtain ⟨noFoul, stands⟩ := not_or.1 full
      rw [Bool.not_eq_true] at noFoul
      exact ((oneF x rfl).2 noFoul stands).1.trans ((oneG x rfl).2 noFoul stands).1.symm
  · by_cases full : y.foul = true ∨ y.faced = .leave ∨ y.pinfall = 10
    · exact ((twoF x y rfl).1 full).1.trans ((twoG x y rfl).1 full).1.symm
    · obtain ⟨noFoul, noLeave, stands⟩ : y.foul = false ∧ y.faced = .full ∧ y.pinfall ≠ 10 := by
        cases faced : y.faced <;> simp_all
      exact ((twoF x y rfl).2 noFoul noLeave stands).1.trans
        ((twoG x y rfl).2 noFoul noLeave stands).1.symm
  · exact absurd (by unfold CompleteFrame; split <;> exact .inl (by simp)) more

/-- R55: the progression gives the next ball a faced value exactly where the rules do. -/
theorem facedNext_progress_iff {n : Nat} {balls : List Ball} {faced : Faced} :
    facedNext (progress n balls) = some faced ↔
      ¬ CompleteFrame n balls ∧ ∃ before, FacesNext n balls faced before := by
  rw [← progress_complete_iff]
  cases step : progress n balls with
  | complete => simp [facedNext]
  | goesOn given before =>
    have faces := facesNext_of_progress step
    have more : ¬ CompleteFrame n balls := by
      rw [← progress_complete_iff, step]
      exact nofun
    constructor
    · intro h
      cases h
      exact ⟨nofun, before, faces⟩
    · rintro ⟨_, p, h⟩
      exact congrArg some (facesNext_unique more faces h)

/-- R55, condition 1, once a ball has been passed. -/
theorem facesAgree_begun (frame : Nat) (rest : List Ball) : ∀ {done : List Ball}, done ≠ [] →
    (facesAgree frame done rest = true ↔ ∀ k b, rest[k]? = some b →
      facedNext (progress frame (done ++ rest.take k)) = some b.faced) := by
  induction rest with
  | nil => simp [facesAgree]
  | cons b rest ih =>
    intro done begun
    have step : facesAgree frame done (b :: rest) =
        (facedNext (progress frame done) == some b.faced && facesAgree frame (done ++ [b]) rest) := by
      cases done with
      | nil => exact absurd rfl begun
      | cons => rfl
    rw [step, Bool.and_eq_true, beq_iff_eq, ih (by simp)]
    constructor
    · rintro ⟨first, later⟩ k c hc
      cases k with
      | zero => cases hc; simpa using first
      | succ k => simpa using later k c hc
    · intro all
      exact ⟨by simpa using all 0 b rfl, fun k c hc => by simpa using all (k + 1) c hc⟩

/-- R55, condition 1: each ball but the first faced what the progression of those before it gives. -/
theorem facesAgree_iff (frame : Nat) (balls : List Ball) :
    facesAgree frame [] balls = true ↔ ∀ j b, 1 ≤ j → balls[j]? = some b →
      facedNext (progress frame (balls.take j)) = some b.faced := by
  cases balls with
  | nil => simp [facesAgree]
  | cons b rest =>
    rw [show facesAgree frame [] (b :: rest) = facesAgree frame [b] rest from rfl,
      facesAgree_begun frame rest (List.cons_ne_nil b [])]
    constructor
    · intro all j c one hc
      obtain ⟨k, rfl⟩ : ∃ k, j = k + 1 := ⟨j - 1, by omega⟩
      exact all k c hc
    · exact fun all k c hc => all (k + 1) c (by omega) hc

/-- R55, condition 2: the frame is complete as it was, and the next ball it goes on to faces what the
next-ball record holds of it. -/
theorem endAgrees_iff (frame : Nat) (complete : Bool) (faced : Option Faced) (balls : List Ball) :
    endAgrees frame complete faced balls = true ↔
      (CompleteFrame frame balls ↔ complete = true) ∧
        (¬ CompleteFrame frame balls → ∀ f, faced = some f →
          ∃ before, FacesNext frame balls f before) := by
  have found := progress_complete_iff frame balls
  unfold endAgrees
  cases step : progress frame balls with
  | complete =>
    have done := found.1 step
    simp [done]
  | goesOn given before =>
    have more : ¬ CompleteFrame frame balls := by
      rw [← found, step]
      exact nofun
    have faces : ∀ f, (∃ p, FacesNext frame balls f p) ↔ given = f := fun f => by
      have e := facedNext_progress_iff (n := frame) (balls := balls) (faced := f)
      rw [step] at e
      simpa [facedNext, more] using e.symm
    cases faced <;> simp [more, faces]

/-! ## The pinfalls of a rack (R55, condition 3) -/

/-- The balls that face LEAVE at the head of a list, after `sum` pins of their rack. -/
def LeadFits (sum : Nat) (bs : List Ball) : Prop :=
  ∀ j, j < bs.length → (∀ m, m ≤ j → bs[m]?.map (·.faced) = some .leave) →
    sum + ((bs.take (j + 1)).map (·.pinfall)).sum ≤ 10

/-- The balls that face LEAVE after each ball that faces FULL. -/
def RacksFit (bs : List Ball) : Prop :=
  ∀ i j, i ≤ j → j < bs.length → bs[i]?.map (·.faced) = some .full →
    (∀ m, i < m → m ≤ j → bs[m]?.map (·.faced) = some .leave) →
    bs[j]?.map (·.faced) = some .leave → (((bs.take (j + 1)).drop i).map (·.pinfall)).sum ≤ 10

theorem leadFits_cons_full {sum : Nat} {b : Ball} {bs : List Ball} (faced : b.faced = .full) :
    LeadFits sum (b :: bs) := by
  intro j _ leave
  have first := leave 0 (Nat.zero_le j)
  simp [faced] at first

theorem leadFits_cons_leave {sum : Nat} {b : Ball} {bs : List Ball} (faced : b.faced = .leave) :
    LeadFits sum (b :: bs) ↔ sum + b.pinfall ≤ 10 ∧ LeadFits (sum + b.pinfall) bs := by
  constructor
  · intro all
    refine ⟨by simpa using all 0 (by simp) (by simp [faced]), fun j lt leave => ?_⟩
    have one := all (j + 1) (by simpa using lt) fun m hm => by
      cases m with
      | zero => exact congrArg some faced
      | succ m => exact leave m (by omega)
    simpa [Nat.add_assoc] using one
  · rintro ⟨first, later⟩ j lt leave
    cases j with
    | zero => simpa using first
    | succ j =>
      have one := later j (by simpa using lt) fun m hm => leave (m + 1) (by omega)
      simpa [Nat.add_assoc] using one

/-- The racks after the first ball of a list. -/
theorem racksFit_tail {b : Ball} {bs : List Ball} (all : RacksFit (b :: bs)) : RacksFit bs := by
  intro i j ij lt full leave last
  refine all (i + 1) (j + 1) (by omega) (by simpa using lt) full (fun m im mj => ?_) last
  obtain ⟨k, rfl⟩ : ∃ k, m = k + 1 := ⟨m - 1, by omega⟩
  exact leave k (by omega) (by omega)

theorem racksFit_cons {b : Ball} {bs : List Ball} :
    RacksFit (b :: bs) ↔ (b.faced = .full → LeadFits b.pinfall bs) ∧ RacksFit bs := by
  constructor
  · refine fun all => ⟨fun faced j lt leave => ?_, racksFit_tail all⟩
    have one := all 0 (j + 1) (by omega) (by simpa using lt) (congrArg some faced)
      (fun m m0 mj => by
        obtain ⟨k, rfl⟩ : ∃ k, m = k + 1 := ⟨m - 1, by omega⟩
        exact leave k (by omega)) (leave j (Nat.le_refl j))
    simpa using one
  · rintro ⟨lead, later⟩ i j ij lt full leave last
    cases j with
    | zero =>
      obtain rfl : i = 0 := by omega
      exact absurd (full.symm.trans last) (by decide)
    | succ j =>
      cases i with
      | zero =>
        have one := lead (Option.some.inj full) j (by simpa using lt)
          fun m mj => leave (m + 1) (by omega) (by omega)
        simpa using one
      | succ i =>
        exact later i j (by omega) (by simpa using lt) full
          (fun m im mj => leave (m + 1) (by omega) (by omega)) last

theorem leavesFit_iff (bs : List Ball) : ∀ sum,
    leavesFit sum bs = true ↔ LeadFits sum bs ∧ RacksFit bs := by
  induction bs with
  | nil => simp [leavesFit, LeadFits, RacksFit]
  | cons b bs ih =>
    intro sum
    rw [racksFit_cons]
    cases faced : b.faced with
    | full =>
      rw [leavesFit, faced, ih]
      simp [leadFits_cons_full faced]
    | leave =>
      rw [leavesFit, faced, leadFits_cons_leave faced]
      simp [ih, and_assoc]

/-- R55, condition 3, as the rule states it: from the first ball, or one that faced FULL, on. -/
theorem leavesFit_zero_iff (bs : List Ball) :
    leavesFit 0 bs = true ↔ ∀ i j, i ≤ j → j < bs.length →
      (i = 0 ∨ bs[i]?.map (·.faced) = some .full) →
      (∀ m, i < m → m ≤ j → bs[m]?.map (·.faced) = some .leave) →
      bs[j]?.map (·.faced) = some .leave →
      (((bs.take (j + 1)).drop i).map (·.pinfall)).sum ≤ 10 := by
  rw [leavesFit_iff]
  constructor
  · rintro ⟨lead, racks⟩ i j ij lt start leave last
    by_cases full : bs[i]?.map (·.faced) = some .full
    · exact racks i j ij lt full leave last
    · obtain rfl : i = 0 := start.resolve_right full
      have one := lead j lt fun m mj => by
        by_cases m0 : m = 0
        · subst m0
          obtain ⟨b, hb⟩ : ∃ b, bs[0]? = some b := ⟨bs[0], List.getElem?_eq_getElem (by omega)⟩
          rw [hb] at full ⊢
          cases faced : b.faced with
          | full => exact absurd (congrArg some faced) full
          | leave => exact congrArg some faced
        · exact leave m (by omega) mj
      simpa using one
  · refine fun all => ⟨fun j lt leave => ?_, fun i j ij lt full => all i j ij lt (.inr full)⟩
    simpa using all 0 j (Nat.zero_le j) lt (.inl rfl) (fun m _ mj => leave m mj)
      (leave j (Nat.le_refl j))

/-! ## The structural check as a whole -/

theorem nth1_eq_some {α : Type} {xs : List α} {n : Nat} {a : α} :
    nth1 xs n = some a ↔ n ≠ 0 ∧ xs[n - 1]? = some a := by
  unfold nth1
  split <;> simp_all

theorem correctedBalls_eq_set {balls : List Ball} {index : Nat} {ball : Ball}
    (h : nth1 balls index = some ball) (pinfall : Nat) :
    correctedBalls index pinfall balls =
      balls.set (index - 1) { ball with pinfall := pinfall, corrected := true } :=
  modifyNth_eq_set (nth1_eq_some.1 h).2

theorem foulsZero_iff (bs : List Ball) :
    foulsZero bs = true ↔ ∀ b ∈ bs, b.foul = true → b.pinfall = 0 := by
  simp only [foulsZero, List.all_eq_true, Bool.or_eq_true, Bool.not_eq_true', beq_iff_eq,
    ← Bool.not_eq_true, imp_iff_not_or]

/-- R55: the structural check is the four conditions. -/
theorem correctionHolds_iff {x : Session} {slot frame index pinfall : Nat} {f : Frame} {ball : Ball}
    (h : nth1 f.balls index = some ball) :
    correctionHolds x slot frame index pinfall f = true ↔
      CorrectionFits x slot frame f
        (f.balls.set (index - 1) { ball with pinfall := pinfall, corrected := true }) := by
  have names : ∀ g, (if namesFrame x slot frame then some x.nextBall.faced else none) = some g ↔
      (x.nextBall.slot = slot ∧ x.nextBall.frame = frame) ∧ x.nextBall.faced = g := fun g => by
    simp [namesFrame]
  rw [correctionHolds, correctedBalls_eq_set h, structureHolds, Bool.and_eq_true, Bool.and_eq_true,
    Bool.and_eq_true, facesAgree_iff, endAgrees_iff, leavesFit_zero_iff, foulsZero_iff]
  simp only [facedNext_progress_iff, frameComplete_iff, names]
  constructor
  · rintro ⟨⟨⟨faces, ends, next⟩, leaves⟩, fouls⟩
    exact ⟨faces, ends, fun more s f => next more _ ⟨⟨s, f⟩, rfl⟩, leaves, fouls⟩
  · rintro ⟨faces, ends, next, leaves, fouls⟩
    refine ⟨⟨⟨faces, ends, ?_⟩, leaves⟩, fouls⟩
    rintro more g ⟨⟨s, f⟩, rfl⟩
    exact next more s f

/-! ## The corrected game (R56) -/

theorem nth1_set {α : Type} {xs : List α} {n : Nat} {a : α} (h : nth1 xs n = some a) (c : α) (m : Nat) :
    nth1 (xs.set (n - 1) c) m = if m = n then some c else nth1 xs m := by
  obtain ⟨n0, hn⟩ := nth1_eq_some.1 h
  obtain ⟨lt, _⟩ := List.getElem?_eq_some_iff.1 hn
  unfold nth1
  by_cases m0 : m = 0
  · rw [if_pos m0, if_pos m0, if_neg (by omega)]
  · rw [if_neg m0, if_neg m0, List.getElem?_set]
    by_cases e : m = n
    · rw [if_pos e, if_pos (by rw [e]), if_pos lt]
    · rw [if_neg e, if_neg (by omega)]

/-- R35: the last running total is the latest one present, or 0. -/
theorem lastRunning_eq_latest (g : Game) : lastRunning g = (latestRunning g).getD 0 := by
  have fold : ∀ (fs : List Frame) (t : Option Nat),
      fs.foldl (fun n f => f.running.getD n) (t.getD 0) =
        (fs.foldl (fun n f => match f.running with | some k => some k | none => n) t).getD 0 := by
    intro fs
    induction fs with
    | nil => exact fun _ => rfl
    | cons f fs ih =>
      intro t
      rw [List.foldl_cons, List.foldl_cons, ← ih]
      cases f.running <;> rfl
  exact fold g.frames none

/-- R56, step 5: the newest totals entry follows the corrected game. -/
theorem correctTotals_concat (g : Game) (init : List GameTotal) (e : GameTotal) :
    correctTotals g (init ++ [e]) = init ++ [{ e with
      scratch := (latestRunning g).getD 0, total := (latestRunning g).getD 0 + g.handicap }] := by
  simp [correctTotals, lastRunning_eq_latest]

section
variable {g : Game} {frame index : Nat} {f : Frame} {ball : Ball}

/-- R55: a frame with the corrected ball in place. -/
def correctedFrame (f : Frame) (index : Nat) (ball : Ball) (pinfall : Nat) : Frame :=
  { f with balls := f.balls.set (index - 1) { ball with pinfall := pinfall, corrected := true } }

theorem frames_correctGame (bowled : nth1 g.frames frame = some f) (h : nth1 f.balls index = some ball)
    (pinfall : Nat) : (correctGame frame index pinfall g).frames =
      rescore (g.frames.set (frame - 1) (correctedFrame f index ball pinfall)) := by
  rw [correctedFrame, ← correctedBalls_eq_set h]
  exact congrArg rescore (modifyNth_eq_set (nth1_eq_some.1 bowled).2)

/-- R56, steps 1 to 3: a frame of the corrected game comes, scored afresh, from the frame that stood in
its place, the corrected one with the ball; its running total is filled forward. -/
theorem nth1_correctGame (bowled : nth1 g.frames frame = some f) (h : nth1 f.balls index = some ball)
    {pinfall m : Nat} {e : Frame} (at_m : nth1 (correctGame frame index pinfall g).frames m = some e) :
    let fs := (correctGame frame index pinfall g).frames
    ∃ o, (if m = frame then some (correctedFrame f index ball pinfall) else nth1 g.frames m) = some o ∧
      Rescored m ((fs.drop m).flatMap (·.balls)) o e ∧
      e.running = if (fs.take m).all (fun x => x.status == .scored) then
        some ((fs.take m).map fun x => x.score.getD 0).sum else none := by
  intro fs
  have rescored : fs = _ := frames_correctGame bowled h pinfall
  obtain ⟨m0, hm⟩ := nth1_eq_some.1 at_m
  change fs[m - 1]? = some e at hm
  rw [rescored] at hm ⊢
  obtain ⟨k, rfl⟩ := Nat.exists_eq_succ_of_ne_zero m0
  obtain ⟨o, ho, done⟩ := rescored_of_getElem? hm
  rw [← nth1_set bowled]
  rw [← later_rescore] at done
  exact ⟨o, nth1_eq_some.2 ⟨m0, ho⟩, done, running_rescore hm⟩

/-- R56: the corrected frame is there. -/
theorem nth1_correctGame_exists (bowled : nth1 g.frames frame = some f)
    (h : nth1 f.balls index = some ball) (pinfall : Nat) :
    ∃ e, nth1 (correctGame frame index pinfall g).frames frame = some e := by
  obtain ⟨frame0, at_frame⟩ := nth1_eq_some.1 bowled
  obtain ⟨lt, _⟩ := List.getElem?_eq_some_iff.1 at_frame
  have there : frame - 1 < (correctGame frame index pinfall g).frames.length := by
    rw [frames_correctGame bowled h, length_rescore, List.length_set]
    exact lt
  exact ⟨_, nth1_eq_some.2 ⟨frame0, List.getElem?_eq_getElem there⟩⟩


end

/-! ## CORRECT_BALL -/

section
variable {s : State} {n slot frame index pinfall : Nat} {i : SessionId} {x : Session} {b : Bowler}
  {f : Frame} {ball : Ball}

theorem reqCorrectBall_range (run : s.device = .run) (hi : s.sessionInUse? n = some (i, x)) {game : Nat}
    (outside : 10 < pinfall ∨ frame = 0 ∨ 10 < frame ∨ index = 0 ∨ 3 < index) :
    reqCorrectBall n slot game frame index pinfall s = (s, refuse .range) := by
  simp only [reqCorrectBall, run, hi, ne_eq, not_true_eq_false, if_false]
  exact if_pos outside

/-- R54: past the checks before it, the structural check decides. -/
theorem reqCorrectBall_checked (run : s.device = .run) (hi : s.sessionInUse? n = some (i, x))
    (inside : ¬ (10 < pinfall ∨ frame = 0 ∨ 10 < frame ∨ index = 0 ∨ 3 < index))
    (hb : bowlerAt x slot = some b) (bowled : nth1 b.game.frames frame = some f)
    (h : nth1 f.balls index = some ball) (playing : b.game.status ≠ .withdrawn) :
    reqCorrectBall n slot b.game.number frame index pinfall s =
      if ¬ correctionHolds x slot frame index pinfall f then (s, refuse .structureFails)
      else (s.correctBall i x slot frame index pinfall b ball,
        ⟨.ok, correctedData (correctGame frame index pinfall b.game) frame⟩) := by
  have balls : nth1 (frameBalls b.game frame) index = some ball := by rw [frameBalls, bowled]; exact h
  simp only [reqCorrectBall, run, hi, hb, bowled, balls, ne_eq, not_true_eq_false, if_false]
  rw [if_neg inside, if_neg playing]

/-- R56, step 4: where the next ball faces the leave of the corrected frame, its expected standing count
is computed afresh. -/
theorem correctNext_faces {g : Game} {e : Frame}
    (faces : x.nextBall.slot = slot ∧ x.nextBall.frame = frame ∧ x.nextBall.faced = .leave)
    (at_frame : nth1 g.frames frame = some e) : correctNext x slot frame g =
      { x.nextBall with expected := some (expectedStanding e.balls) } := by
  obtain ⟨slot_eq, frame_eq, leave⟩ := faces
  rw [correctNext, if_pos ⟨by simp [namesFrame, slot_eq, frame_eq], leave⟩, frameBalls, at_frame]
  rfl

theorem correctNext_other {g : Game}
    (other : ¬ (x.nextBall.slot = slot ∧ x.nextBall.frame = frame ∧ x.nextBall.faced = .leave)) :
    correctNext x slot frame g = x.nextBall :=
  if_neg (by simpa [namesFrame, and_assoc] using other)

theorem raiseGameDone_notices (s : State) (i : SessionId) (slot : Nat) :
    s.raiseGameDone i slot = { s with notices := (s.raiseGameDone i slot).notices } := by
  unfold State.raiseGameDone
  repeat' split
  all_goals rfl

/-- R56: a correction changes the session and raises notices. -/
theorem correctBall_notices (s : State) (i : SessionId) (x : Session) (slot frame index pinfall : Nat)
    (b : Bowler) (ball : Ball) :
    let t := s.correctBall i x slot frame index pinfall b ball
    t = { s.setSession i (some (correctRecords x slot frame index pinfall b)) with
      notices := t.notices } := by
  intro t
  simp only [t, State.correctBall]
  split
  · rw [raiseGameDone_notices]
    rfl
  · rfl

theorem correctRecords_eq (hb : bowlerAt x slot = some b) :
    correctRecords x slot frame index pinfall b = { x with
      bowlers := x.bowlers.set (slot - 1) (correctBowler (correctGame frame index pinfall b.game) b)
      nextBall := correctNext x slot frame (correctGame frame index pinfall b.game) } := by
  rw [correctRecords, modBowler_of_bowlerAt hb]

end

end Sys2Proof.Machine

open Sys2Proof Sys2Proof.Machine

/-- Settles O46: the structural check is `CorrectionFits`; every frame of the corrected game comes,
scored afresh, from the frame that stood in its place. -/
theorem correctBallReplacesPinfall : Obligations.CorrectBallReplacesPinfall := by
  unfold Obligations.CorrectBallReplacesPinfall
  intro s tag n slot game frame index pinfall i x trunk run hi
  refine ⟨fun outside => exec_of_act rfl trunk (reqCorrectBall_range run hi (by omega)) rfl, ?_⟩
  rintro b f ball few frame1 frame10 index1 index3 hb bowled at_index rfl playing corrected
  have fits : correctionHolds x slot frame index pinfall f = true ↔
      CorrectionFits x slot frame f corrected := correctionHolds_iff at_index
  have checked := reqCorrectBall_checked (pinfall := pinfall) run hi (by omega) hb bowled at_index
    playing
  refine ⟨fun unfit => ?_, fun fit => ?_⟩
  · rw [if_pos (mt fits.1 unfit)] at checked
    exact exec_of_act rfl trunk checked rfl
  · rw [if_neg (not_not.2 (fits.2 fit))] at checked
    let g := correctGame frame index pinfall b.game
    have left := correctBall_notices s i x slot frame index pinfall b ball
    obtain ⟨e, at_frame⟩ := nth1_correctGame_exists bowled at_index pinfall
    obtain ⟨o, ho, done, _⟩ := nth1_correctGame bowled at_index at_frame
    obtain rfl : correctedFrame f index ball pinfall = o := Option.some.inj ((if_pos rfl).symm.trans ho)
    have slots := bowlerAt_set (c := correctBowler g b) hb
    rw [correctRecords_eq hb] at left
    have answer : correctedData g frame = .corrected e.status e.score (latestRunning g) := by
      simp [g, correctedData, statusOfFrame, at_frame]
    have accepted := exec_of_act (i := .correctBall tag n slot b.game.number frame index pinfall) rfl trunk
      checked (by rw [left]; rfl)
    rw [answer] at accepted
    refine ⟨s.correctBall i x slot frame index pinfall b ball, _, correctBowler g b, e, accepted, left,
      (slots slot).trans (if_pos rfl), at_frame, done.balls, rfl, fun m h at_m => ?_, fun open_ => if_neg open_, fun init t complete totals => ?_,
      fun k other => (slots k).trans (if_neg other), rfl, ?_, ?_, ?_⟩
    · obtain ⟨p, hp, scored, running⟩ := nth1_correctGame bowled at_index at_m
      refine ⟨fun other => ⟨p, (if_neg other).symm.trans hp, scored.balls⟩,
        fun c => scored.frameScored (frameComplete_iff.2 c), running⟩
    · show (if g.status = .complete then _ else _) = _
      rw [if_pos (show g.status = .complete from complete), totals, correctTotals_concat]
      rfl
    · exact fun faces => correctNext_faces faces at_frame
    · exact correctNext_other
    · intro b1 b2 nine balls open_ complete
      have scored := done.frameScored (done.complete.trans (frameComplete_iff.2 complete))
      obtain ⟨_, two, _⟩ := scored
      exact (two b1 b2 nine balls fun strike => by omega).2 (by omega)

end

section
/-! SUPPORT. ENTER_BALL (O45): the pins of a set, what resolving the ball leaves, a first ball that makes
a game charge, and the machine that runs its need. -/

namespace Sys2Proof.Machine

open Sys2Proof

/-! ## The pins of a set -/

theorem mem_pinsOf {a : PinSet} {q : Nat} : q ∈ pinsOf a ↔ hasPin a q = true := by
  simp only [pinsOf, hasPin, List.mem_filterMap, List.mem_range, Bool.and_eq_true, decide_eq_true_eq]
  constructor
  · rintro ⟨k, _, h⟩
    split at h
    · next set =>
      cases h
      exact ⟨by omega, set⟩
    · cases h
  · rintro ⟨one, set⟩
    refine ⟨q - 1, BitVec.lt_of_getLsbD set, ?_⟩
    rw [if_pos set]
    exact congrArg some (by omega)

/-- A pin added to a set. -/
theorem hasPin_or_pin {a : PinSet} {n q : Nat} (low : 1 ≤ n) (high : n ≤ 10) :
    hasPin (a ||| (1#10 <<< (n - 1))) q = true ↔ hasPin a q = true ∨ q = n := by
  have bit : 1 ≤ q → ((1#10 <<< (n - 1)).getLsbD (q - 1) = true ↔ q = n) := fun one => by
    rw [BitVec.getLsbD_shiftLeft, BitVec.getLsbD_one]
    simp
    omega
  simp only [hasPin, BitVec.getLsbD_or, Bool.and_eq_true, Bool.or_eq_true, decide_eq_true_eq]
  constructor
  · rintro ⟨one, set | set⟩
    · exact .inl ⟨one, set⟩
    · exact .inr ((bit one).1 set)
  · rintro (⟨one, set⟩ | rfl)
    · exact ⟨one, .inl set⟩
    · exact ⟨low, .inr ((bit low).2 rfl)⟩

/-- The set of the pins listed holds those pins. -/
theorem hasPin_pinSetOf {pins : List Nat} (range : ∀ q ∈ pins, 1 ≤ q ∧ q ≤ 10) {q : Nat} :
    hasPin (pinSetOf pins) q = true ↔ q ∈ pins := by
  have fold : ∀ (ps : List Nat) (a : PinSet), (∀ q ∈ ps, 1 ≤ q ∧ q ≤ 10) →
      (hasPin (ps.foldl (fun a n => if 1 ≤ n ∧ n ≤ 10 then a ||| (1#10 <<< (n - 1)) else a) a) q = true
        ↔ hasPin a q = true ∨ q ∈ ps) := by
    intro ps
    induction ps with
    | nil => simp
    | cons n ps ih =>
      intro a ok
      obtain ⟨first, later⟩ := List.forall_mem_cons.1 ok
      rw [List.foldl_cons, if_pos first, ih _ later, hasPin_or_pin first.1 first.2, List.mem_cons,
        or_assoc]
  rw [pinSetOf, fold pins 0 range]
  simp [hasPin]

/-- R58: the entered pins that were not standing. -/
theorem mem_droppedPins {pins : List Nat} (range : ∀ q ∈ pins, 1 ≤ q ∧ q ≤ 10) (before : PinSet)
    (q : Nat) : q ∈ pinsOf (pinSetOf pins &&& ~~~before) ↔ q ∈ pins ∧ hasPin before q = false := by
  rw [mem_pinsOf, ← hasPin_pinSetOf range (q := q)]
  simp only [hasPin, BitVec.getLsbD_and, BitVec.getLsbD_not, Bool.and_eq_true, decide_eq_true_eq,
    Bool.not_eq_true', Bool.and_eq_false_iff, decide_eq_false_iff_not]
  constructor
  · rintro ⟨one, set, _, gone⟩
    exact ⟨⟨one, set⟩, .inr gone⟩
  · rintro ⟨⟨one, set⟩, gone⟩
    exact ⟨one, set, BitVec.lt_of_getLsbD set, gone.resolve_left (not_not.2 one)⟩

/-! ## The ball resolved (R58, R77, R112) -/

/-- The session with another billing state (R150). -/
def billedAs (st : BillingState) (x : Session) : Session :=
  { x with billing := { x.billing with state := st } }

theorem sameBut_billedAs (st : BillingState) (x : Session) : SameButBillingState x (billedAs st x) := rfl

theorem plainFirstBall_billedAs {x : Session} {r : BallResult} {k f : Nat} {b : Bowler}
    (plain : PlainFirstBall x r k f b) (st : BillingState) : PlainFirstBall (billedAs st x) r k f b :=
  { plain with }

/-- R58: READING_OVERDUE taken from a lane's set. -/
def State.overdueCleared (s : State) (l : LaneId) : State :=
  s.setLaneFaults l (removeFault .readingOverdue (s.lane l).faults)

theorem overdueCleared_setSession (s : State) (l : LaneId) (i : SessionId) (x y : Option Session) :
    ((s.setSession i x).overdueCleared l).setSession i y = (s.setSession i y).overdueCleared l := by
  rw [← setSession_setSession s i x y]
  rfl

section
variable {s : State} {l : LaneId} {i : SessionId} {x : Session}

theorem armingCheck_resolved (h : (s.tracker l).play = .resolved) : s.armingCheck l = s := by
  simp only [State.armingCheck, h]

theorem runOwed_none (h : (s.supervisor l).owed = none) : s.runOwed l = s := by
  simp only [State.runOwed, h]

/-- R112, R150: the record of the lane's holder follows the lane's credit. -/
theorem tellCredit_holder (holds : (s.entry l).holder = some i) (hx : s.session i = some x) :
    s.tellCredit l = s.setSession i
      (some (billedAs (followCredit (s.credit l) x.billing).state x)) := by
  rw [State.tellCredit, holds]
  dsimp only
  rw [modSession_eq hx, followCredit_eq]
  rfl

/-- A class that is not in a set leaves it. -/
theorem removeFault_of_absent {c : FaultClass} {fs : List FaultEntry} (h : findFault c fs = none) :
    removeFault c fs = fs := by
  refine List.filter_eq_self.2 fun f hf => ?_
  have other := List.find?_eq_none.1 h f hf
  simpa using other

/-- R58, step 1: the state once the ball of session `i` on lane `l` is resolved, `z` being its
record. -/
structure BallResolved (s : State) (l : LaneId) (i : SessionId) (z : Session) (w : State) : Prop where
  onPair : OnPair (pairOf l) ((s.setSession i (some z)).overdueCleared l) w
  resolved : (w.tracker l).play = .resolved
  supervisor : w.supervisor l = s.supervisor l
  pairs : w.pairs = s.pairs
  faults : (w.lane l).faults = removeFault .readingOverdue (s.lane l).faults

theorem ballResolved (s : State) (l : LaneId) (i : SessionId) (z : Session) (ns : List Notice) :
    BallResolved s l i z
      { ((s.setSession i (some z)).overdueCleared l).modTracker l resolveBall with notices := ns } := by
  let u := (s.setSession i (some z)).overdueCleared l
  have onPair : OnPair (pairOf l) u { u.modTracker l resolveBall with notices := ns } :=
    ((OnPair.refl _ u).modTracker l rfl rfl).trans (.of_notices rfl)
  have lane := (lane_modTracker u l l resolveBall).trans (if_pos rfl)
  refine ⟨onPair, ?_, ?_, rfl, ?_⟩
  · exact congrArg (fun v : Lane => v.tracker.play) lane
  · exact (congrArg Lane.supervisor lane).trans (supervisor_setLaneFaults ..)
  · exact (congrArg Lane.faults lane).trans ((faults_setLaneFaults ..).trans (if_pos rfl))

/-- R58, step 1: the ball resolved and READING_OVERDUE gone, with no cycle owed. -/
theorem enterBall_resolves (holds : (s.entry l).holder = some i) (hx : s.session i = some x)
    (owed : (s.supervisor l).owed = none) : ∃ st, BallResolved s l i (billedAs st x)
      ((s.modTracker l resolveBall).removeLaneFault l .readingOverdue .entry) := by
  let u := s.modTracker l resolveBall
  have faults : (u.lane l).faults = (s.lane l).faults := by
    rw [lane_modTracker, if_pos rfl]
  unfold State.removeLaneFault
  rw [faults]
  split
  · next absent =>
    have same : s.overdueCleared l = s := by
      rw [State.overdueCleared, removeFault_of_absent absent]
      exact setLane_lane s l
    have resolved := ballResolved s l i x s.notices
    rw [setSession_session hx, same] at resolved
    exact ⟨x.billing.state, resolved⟩
  · have order : u.setLaneFaults l (removeFault .readingOverdue (s.lane l).faults) =
        (s.overdueCleared l).modTracker l resolveBall := by
      simp [u, State.overdueCleared, State.modTracker, State.setLaneFaults, setLane_setLane,
        State.tracker]
    rw [order]
    let v := ((s.overdueCleared l).modTracker l resolveBall).raiseLaneCleared l .readingOverdue .entry
    have resolved : BallResolved s l i x v := by
      have before := ballResolved s l i x v.notices
      rw [setSession_session hx] at before
      exact before
    have holder : (v.entry l).holder = some i := by
      rw [resolved.onPair.entry, setSession_session hx]
      exact (congrArg LaneEntry.holder (entry_setLaneFaults ..)).trans holds
    have told : v.tellFall l = v.setSession i
        (some (billedAs (followCredit (v.credit l) x.billing).state x)) := by
      rw [State.tellFall, runOwed_none (by rw [resolved.supervisor]; exact owed),
        armingCheck_resolved resolved.resolved, tellCredit_holder holder (x := x) hx]
    refine ⟨(followCredit (v.credit l) x.billing).state, ?_⟩
    show BallResolved s l i _ (v.tellFall l)
    rw [told]
    exact ballResolved s l i (billedAs (followCredit (v.credit l) x.billing).state x) v.notices

end

/-! ## The game charge (R44, R155) -/

/-- R155: the GAME line of a bowler-game. -/
def gameLine (s : State) (l : LaneId) (i : SessionId) (cls : Fin 8) (k game : Nat) : ChargeLine :=
  let g := lookupIn s.tariff cls s.clock.calendar
  ⟨l, i, .game, g.reference, g.version, 1, g.gamePrice, s.clock.calendar, some (k, game)⟩

/-- R154: an amount added to a lane's charged total. -/
def meterCharged (amount : Nat) (m : Meter) : Meter :=
  { m with
    chargedTotal := min 4294967295 (m.chargedTotal + amount)
    saturated := m.saturated || decide (4294967295 ≤ m.chargedTotal + amount) }

/-- R154, R155: a charge line appended, and the lane's charged total with it. -/
def State.withCharge (s : State) (x : ChargeLine) : State :=
  State.modMeter { s with charges := { s.charges with lines := s.charges.lines ++ [x] } } x.lane
    (meterCharged x.amount)

/-- R155: one more bowler-game charged to the session. -/
def gameBilled (x : Session) : Session :=
  { x with billing := { x.billing with gamesCharged := min 65535 (x.billing.gamesCharged + 1) } }

/-- R156: without a limit there is nothing to test. -/
theorem limitTests_none {s : State} {i : SessionId} {x : Session} (hx : s.session i = some x)
    (limit : x.terms.limit = .none) : s.limitTests i = s := by
  simp only [State.limitTests, State.limitTest, State.warningTest, hx, limitCount, limit]

/-- R161: a line that finds room for more than itself is appended, and nothing else changes. -/
theorem appendLine_appends {s : State} (room : s.charges.lines.length < 255) (x : ChargeLine) :
    s.appendLine x = { s with charges := { s.charges with lines := s.charges.lines ++ [x] } } := by
  have fits : s.charges.lines.length < 256 := by omega
  have notFull : s.charges.lines.length + 1 ≠ 256 := by omega
  rw [State.appendLine, if_pos fits]
  exact if_neg fun c => notFull c.1

/-- R155: a game charge with no commit pending, no limit and room in the list. -/
theorem chargeGame_eq {s : State} {i : SessionId} {x : Session} (hx : s.session i = some x)
    (pending : s.tariff.pending = none) (limit : x.terms.limit = .none)
    (room : s.charges.lines.length < 255) (l : LaneId) (k game : Nat) :
    s.chargeGame l i k game =
      (s.withCharge (gameLine s l i x.terms.tariffClass k game)).setSession i (some (gameBilled x)) := by
  have swap : s.swapForLookup = s := by simp only [State.swapForLookup, pending]
  let v := s.withCharge (gameLine s l i x.terms.tariffClass k game)
  have billed : v.modSession i (fun y => { y with billing :=
      { y.billing with gamesCharged := satAdd top16 y.billing.gamesCharged 1 } }) =
        v.setSession i (some (gameBilled x)) := modSession_eq (show v.session i = some x from hx) _
  simp only [State.chargeGame, hx, swap]
  rw [appendLine_appends (s := s.addCharged l _) room]
  show State.limitTests (v.modSession i _) i = _
  rw [billed]
  exact limitTests_none (session_setSession_self ..) limit

namespace OnPair

variable {p : PairId} {s t : State}

theorem modMeter_congr (h : OnPair p s t) (l : LaneId) (f : Meter → Meter) :
    OnPair p (s.modMeter l f) (t.modMeter l f) where
  others := by rw [h.others]; rfl
  lanes := fun k hk => by
    rw [lane_modMeter, lane_modMeter, h.lanes k hk, State.meter, h.lanes k hk, State.meter]
  pairs := h.pairs
  entry := fun k => by rw [entry_modMeter, entry_modMeter, h.entry]
  meter := fun k => by rw [meter_modMeter, meter_modMeter, h.meter]
  classes := fun k => by
    rw [lane_modMeter, lane_modMeter]; split
    · exact h.classes k
    · exact h.classes k
  pairFaults := h.pairFaults
  pitCount := fun k => by rw [tracker_modMeter, tracker_modMeter, h.pitCount]
  filter := h.filter
  track := h.track
  poll := h.poll

theorem setCharges_congr (h : OnPair p s t) (c : ChargeList) :
    OnPair p { s with charges := c } { t with charges := c } :=
  { h with others := by rw [h.others] }

theorem withCharge_congr (h : OnPair p s t) (x : ChargeLine) :
    OnPair p (s.withCharge x) (t.withCharge x) := by
  unfold State.withCharge
  rw [h.charges]
  exact (h.setCharges_congr _).modMeter_congr _ _

theorem gameLine_eq (h : OnPair p s t) : gameLine t = gameLine s := by
  unfold gameLine
  rw [h.others]

end OnPair

/-! ## A first ball that makes a game charge -/

section
variable {s u : State} {l : LaneId} {i : SessionId} {x y z : Session} {r : BallResult} {k f : Nat}
  {b c : Bowler}

theorem PlainFirstBall.chargeDue (plain : PlainFirstBall x r k f b) (due : ChargeDue x f b) :
    chargeDue x b.game f = true := by
  obtain ⟨game, rfl, fresh⟩ := due
  obtain ⟨fr, at_f, empty⟩ := plain.empty
  simp [Machine.chargeDue, game, fresh, frameBalls, at_f, empty]

/-- R27, stages 1 to 4: the records after a plain first ball that makes a game charge. -/
theorem PlainFirstBall.records_charged (plain : PlainFirstBall x r k f b) (due : ChargeDue x f b) :
    ballRecords x b r = afterFirstBall x r k f b := by
  have next := nextBallAfter_firstBall plain.frame.2 plain.leaves k
  rw [← plain.balls] at next
  have charge := plain.chargeDue due
  have marked : decide (x.terms.billing = .game ∧ f = 1) = true := decide_eq_true ⟨due.1, due.2.1⟩
  unfold ballRecords afterFirstBall
  dsimp only
  rw [plain.ball, plain.faces]
  dsimp only
  rw [next, charge, marked, modGame, modBowler_of_bowlerAt plain.bowler]
  rfl

/-- R27: a ball that leaves its frame to go on and makes a game charge, with no withdrawal and no resume
waiting for it. -/
theorem applyResult_charges (hx : s.session i = some x) (hb : bowlerAt x x.nextBall.slot = some b)
    (records : ballRecords x b r = y) (hc : bowlerAt y x.nextBall.slot = some c)
    (goesOn : progress x.nextBall.frame (frameBalls c.game x.nextBall.frame) ≠ .complete)
    (charge : chargeDue x b.game x.nextBall.frame = true) (stays : b.withdrawalPending = false)
    (charged : (s.setSession i (some y)).chargeGame l i x.nextBall.slot c.game.number = u)
    (hu : u.session i = some z) (noResume : z.pendingResume = none) :
    ∃ payload need, s.applyResult l i r = (u.raise (laneSource l) payload).takeNeed l need := by
  have ends : ∀ t : State, t.ballEnds i b x.nextBall false = t := fun t => by
    simp [State.ballEnds, stays]
  have pending : ∀ payload need, let t := (u.raise (laneSource l) payload).takeNeed l need
      t.applyPending i = t := fun payload need =>
    applyPending_none ((((OnPair.refl (pairOf l) _).takeNeed l need rfl).session i).trans hu) noResume
  simp only [State.applyResult, hx, hb, records, hc, Option.map_some, Option.getD_some, charge, stays,
    decide_eq_false goesOn, ends, Bool.or_self, Bool.false_eq_true, if_false, if_true, charged,
    State.raiseBallScored]
  rw [pending]
  exact ⟨_, _, rfl⟩

/-- R30: the bowler after a plain first ball, in the same game, with that ball in the frame. -/
theorem PlainFirstBall.bowlerAfter (plain : PlainFirstBall x r k f b) :
    ∃ c, bowlerAt (afterFirstBall x r k f b) k = some c ∧ c.game.number = b.game.number ∧
      frameBalls c.game f = [firstBall r] :=
  ⟨_, (bowlerAt_set plain.bowler k).trans (if_pos rfl), rfl, plain.balls⟩

theorem withCharge_setSession (s : State) (i : SessionId) (y : Option Session) (line : ChargeLine) :
    (s.setSession i y).withCharge line = (s.withCharge line).setSession i y := rfl

/-- R27, R155: a plain first ball that makes a game charge. -/
theorem applyResult_chargedFirstBall (hx : s.session i = some x) (plain : PlainFirstBall x r k f b)
    (due : ChargeDue x f b) (pending : s.tariff.pending = none) (limit : x.terms.limit = .none)
    (room : s.charges.lines.length < 255) :
    ∃ payload need, s.applyResult l i r =
      (((s.setSession i (some (gameBilled (afterFirstBall x r k f b)))).withCharge
        (gameLine s l i x.terms.tariffClass k b.game.number)).raise (laneSource l) payload).takeNeed l
          need := by
  obtain rfl : x.nextBall.slot = k := congrArg NextBall.slot plain.faces
  obtain rfl : x.nextBall.frame = f := congrArg NextBall.frame plain.faces
  have records := plain.records_charged due
  obtain ⟨c, hc, number, balls⟩ := plain.bowlerAfter
  generalize hy : afterFirstBall x r x.nextBall.slot x.nextBall.frame b = y at *
  have terms : y.terms = x.terms := by rw [← hy]; rfl
  have noResume : (gameBilled y).pendingResume = none := by rw [← hy]; exact plain.noResume
  have goesOn : progress x.nextBall.frame (frameBalls c.game x.nextBall.frame) ≠ .complete := by
    rw [balls, progress_firstBall plain.frame.2 plain.leaves]
    exact nofun
  have charged := chargeGame_eq (s := s.setSession i (some y)) (session_setSession_self ..) pending
    (terms ▸ limit) room l x.nextBall.slot c.game.number
  have line : gameLine (s.setSession i (some y)) = gameLine s := rfl
  rw [withCharge_setSession, setSession_setSession, line, terms] at charged
  rw [← number]
  exact applyResult_charges hx plain.bowler records hc goesOn (plain.chargeDue due) plain.stays charged
    (session_setSession_self ..) noResume

end

/-! ## The machine that runs the need (R92, R111) -/

theorem worstAction_none {fs : List FaultEntry} (h : ∀ e ∈ fs, e.action = .none) :
    worstAction fs = .none := by
  unfold worstAction
  induction fs with
  | nil => rfl
  | cons e fs ih =>
    obtain ⟨first, later⟩ := List.forall_mem_cons.1 h
    rw [List.foldl_cons, first]
    exact ih later

section
variable {s : State} {l : LaneId}

/-- R92: below HOLD, a READY machine runs the need FIRST. -/
theorem takeNeed_runsFirst (ready : (s.supervisor l).machine = .ready) (below : s.belowHold l = true)
    (empty : (s.pinsetter l).slot = none) :
    (s.takeNeed l .first).supervisor l =
      newSequence .firstCycle none { s.supervisor l with owed := none } := by
  let t := s.modSupervisor l fun v => { v with owed := none }
  have ht : t.supervisor l = { s.supervisor l with owed := none } :=
    (supervisor_modSupervisor ..).trans (if_pos rfl)
  obtain ⟨hv, _⟩ := beginSequence_takes (s := t) (l := l) (k := .firstCycle) none
    (slotTakes_of_empty empty _)
  have taken : s.takeNeed l .first =
      (((t.beginSequence l .firstCycle none).needTaken l).armingCheck l).followPark l := by
    unfold State.takeNeed
    rw [ready, below]
    rfl
  rw [taken, (afterNeed_leaves (.inr (by rw [hv]; rfl))).1, hv, ht]

/-- R27: a result handed on while a sequence is in progress is held; otherwise it is applied. -/
theorem handResult_holder {i : SessionId} (holds : (s.entry l).holder = some i) (r : BallResult) :
    s.handResult l r = if s.sequencing l then s.modSession i fun x => { x with held := some r }
      else s.applyResult l i r := by
  simp only [State.handResult, holds]

end

/-! ## ENTER_BALL -/

theorem reqEnterBall_accepted {s : State} {n m : Nat} {pins : List Nat} {l : LaneId} {i : SessionId}
    {x : Session} (run : s.device = .run) (hl : s.mappedLane? n = some l)
    (hi : s.sessionInUse? m = some (i, x)) (holds : (s.entry l).holder = some i)
    (closing : x.state ≠ .closing) (awaits : (s.tracker l).play = .awaitingEntry)
    (range : ∀ q ∈ pins, 1 ≤ q ∧ q ≤ 10) : reqEnterBall n m pins s =
      (s.enterBall l x (pinSetOf pins),
        ⟨.ok, .droppedPins (pinsOf (pinSetOf pins &&& ~~~x.nextBall.before))⟩) := by
  have inside : (pins.any fun n => decide (n = 0 ∨ 10 < n)) = false := by
    refine List.any_eq_false.2 fun q hq => ?_
    have := range q hq
    simp
    omega
  have held : s.holdsLane i l = true := by rw [State.holdsLane, holds]; exact beq_self_eq_true _
  simp only [reqEnterBall, run, hl, hi, held, awaits, inside, ne_eq, not_true_eq_false, if_false]
  rw [if_neg closing]
  rfl

/-! ## What ENTER_BALL makes of the state (R27, R58) -/

section
variable {s w : State} {l : LaneId} {i : SessionId} {x z : Session} {st : BillingState} {r : BallResult}

theorem BallResolved.session (h : BallResolved s l i z w) : w.session i = some z :=
  (h.onPair.session i).trans (session_setSession_self ..)

theorem BallResolved.holder (h : BallResolved s l i z w) : (w.entry l).holder = (s.entry l).holder :=
  congrArg LaneEntry.holder ((h.onPair.entry l).trans (entry_setLaneFaults ..))

/-- The session's record replaced once its ball is resolved. -/
theorem BallResolved.replace (h : BallResolved s l i z w) (y : Session) :
    OnPair (pairOf l) ((s.setSession i (some y)).overdueCleared l) (w.setSession i (some y)) := by
  rw [← overdueCleared_setSession s l i (some z)]
  exact h.onPair.setSession_congr i (some y)

/-- R18: nothing waits for the lanes of the pair to be quiet. -/
theorem settlePair_entered {u : State} {y : Session} (stays : s.NoneLeaving) (hx : s.session i = some x)
    (state : y.state = x.state)
    (h : OnPair (pairOf l) ((s.setSession i (some y)).overdueCleared l) u) :
    u.settlePair (pairOf l) = u :=
  settlePair_stays (h.noneLeaving (stays.setSession hx state))

/-- R27, R58: while a sequence is in progress the result is held. -/
theorem BallResolved.held (h : BallResolved s l i (billedAs st x) w) (hx : s.session i = some x)
    (holds : (s.entry l).holder = some i) (stays : s.NoneLeaving)
    (record : (s.supervisor l).record.isSome = true) :
    let t := (w.handResult l r).settlePair (pairOf l)
    OnPair (pairOf l)
      ((s.setSession i (some (billedAs st { x with held := some r }))).overdueCleared l) t ∧
      (t.tracker l).play = .resolved := by
  let y := billedAs st { x with held := some r }
  have sequencing : w.sequencing l = true := by rw [State.sequencing, h.supervisor, record]
  have handed : w.handResult l r = w.setSession i (some y) := by
    rw [handResult_holder (h.holder.trans holds), if_pos sequencing, modSession_eq h.session]
    rfl
  have onPair := h.replace y
  intro t
  have settled : t = w.setSession i (some y) := by
    rw [← handed] at onPair ⊢
    exact settlePair_entered (y := y) stays hx rfl onPair
  rw [settled]
  exact ⟨onPair, h.resolved⟩

variable {k f : Nat} {b : Bowler}

/-- R27, R155, R58: with no sequence in progress a plain first ball that makes a game charge is
applied. -/
theorem BallResolved.charged (h : BallResolved s l i (billedAs st x) w) (hx : s.session i = some x)
    (holds : (s.entry l).holder = some i) (stays : s.NoneLeaving)
    (record : (s.supervisor l).record = none) (plain : PlainFirstBall x r k f b)
    (due : ChargeDue x f b) (pending : s.tariff.pending = none) (limit : x.terms.limit = .none)
    (room : s.charges.lines.length < 255) :
    OnPair (pairOf l)
      (((s.setSession i (some (gameBilled (billedAs st (afterFirstBall x r k f b))))).overdueCleared
        l).withCharge (gameLine s l i x.terms.tariffClass k b.game.number))
      ((w.handResult l r).settlePair (pairOf l)) := by
  let y := gameBilled (billedAs st (afterFirstBall x r k f b))
  have sequencing : w.sequencing l = false := by rw [State.sequencing, h.supervisor, record]; rfl
  have tariff : w.tariff = s.tariff := by rw [h.onPair.others]; rfl
  obtain ⟨payload, need, applied⟩ := applyResult_chargedFirstBall (l := l) h.session
    (plainFirstBall_billedAs plain st) due (tariff ▸ pending) limit (h.onPair.charges ▸ room)
  have line : gameLine w = gameLine s := h.onPair.gameLine_eq
  have handed : w.handResult l r = (((w.setSession i (some y)).withCharge (gameLine s l i
      x.terms.tariffClass k b.game.number)).raise (laneSource l) payload).takeNeed l need := by
    rw [handResult_holder (h.holder.trans holds), sequencing, if_neg (by decide), applied, line]
    rfl
  have onPair := (((h.replace y).withCharge_congr (gameLine s l i x.terms.tariffClass k
    b.game.number)).raise (laneSource l) payload).takeNeed l need rfl
  have leaving : (s.setSession i (some y)).NoneLeaving := stays.setSession hx rfl
  rw [handed, settlePair_stays (onPair.noneLeaving leaving)]
  exact onPair

/-- R27, R58: with no sequence in progress a plain first ball is applied, and the machine runs its
need. -/
theorem BallResolved.scored (h : BallResolved s l i (billedAs st x) w) (hx : s.session i = some x)
    (holds : (s.entry l).holder = some i) (stays : s.NoneLeaving)
    (record : (s.supervisor l).record = none) (owed : (s.supervisor l).owed = none)
    (plain : PlainFirstBall x r k f b) (exhausted : x.state ≠ .exhausted)
    (deferred : (s.supervisor l).deferredNeed = none) (empty : (s.pinsetter l).slot = none)
    (free : ¬ ChargeDue x f b) :
    let t := (w.handResult l r).settlePair (pairOf l)
    OnPair (pairOf l)
      ((s.setSession i (some (billedAs st (afterFirstBall x r k f b)))).overdueCleared l) t ∧
      (t.tracker l).play = .notArmed ∧
      ((s.supervisor l).machine = .ready →
        (∀ e ∈ s.faultsOn l, e.cls ≠ .readingOverdue → e.action = .none) →
        (∀ e ∈ (s.pair (pairOf l)).faults, e.action = .none) →
        t.supervisor l = newSequence .firstCycle none (s.supervisor l)) := by
  let y := billedAs st (afterFirstBall x r k f b)
  have sequencing : w.sequencing l = false := by rw [State.sequencing, h.supervisor, record]; rfl
  obtain ⟨closing, moving⟩ := stays i x hx
  obtain ⟨payload, applied⟩ := applyResult_plainFirstBall (l := l) h.session
    (plainFirstBall_billedAs plain st) free closing moving exhausted
  let v := (w.setSession i (some y)).raise (laneSource l) payload
  have handed : w.handResult l r = v.takeNeed l .first := by
    rw [handResult_holder (h.holder.trans holds), sequencing, if_neg (by decide), applied]
    rfl
  have onPair := ((h.replace y).raise (laneSource l) payload).takeNeed l .first rfl
  have supervisor : v.supervisor l = s.supervisor l := h.supervisor
  have slot : (v.pinsetter l).slot = none := by
    have pairs : v.pairs = s.pairs := h.pairs
    simp only [State.pinsetter, State.node, State.poller, State.pair, pairs]
    exact empty
  have after := afterNeed_takeNeed (s := v) (l := l) h.resolved (supervisor ▸ record)
    (supervisor ▸ deferred) (supervisor ▸ owed) slot
  intro t
  have settled : t = v.takeNeed l .first := by
    show State.settlePair (w.handResult l r) (pairOf l) = _
    rw [handed]
    exact settlePair_entered (y := y) stays hx rfl onPair
  rw [settled]
  refine ⟨onPair, after.ball, fun ready lane pair => ?_⟩
  have below : v.belowHold l = true := by
    have faults : v.faultsOn l =
        removeFault .readingOverdue (s.lane l).faults ++ (s.pair (pairOf l)).faults :=
      congr_arg₂ (· ++ ·) h.faults (congrArg (fun q : Vector Pair 16 => (q[pairOf l]).faults) h.pairs)
    rw [State.belowHold, State.effective, faults, worstAction_none fun e he => ?_]
    · rfl
    · rcases List.mem_append.1 he with own | shared
      · obtain ⟨mem, other⟩ := List.mem_filter.1 own
        exact lane e (List.mem_append_left _ mem) (by simpa using other)
      · exact pair e shared
  rw [takeNeed_runsFirst (supervisor ▸ ready) below slot, supervisor, ← owed]

end

end Sys2Proof.Machine

open Sys2Proof Sys2Proof.Machine

/-- Settles O45: the ball resolved, then its result held behind a sequence, or applied with its game
charge and its need. -/
theorem enterBallHoldsOrScores : Obligations.EnterBallHoldsOrScores := by
  unfold Obligations.EnterBallHoldsOrScores
  intro s tag n m pins l i x trunk run hl hi holds closing awaits range stays owed foul stamp kept result
  have hx := sessionInUse_eq_some hi
  obtain ⟨st, resolved⟩ := enterBall_resolves holds hx owed
  have accepted := reqEnterBall_accepted run hl hi holds closing awaits range
  refine ⟨s.enterBall l x (pinSetOf pins), _,
    exec_of_act rfl trunk accepted ((Kept.refl s).enterBall l x _).trunk, mem_droppedPins range _,
    fun record => ?_, fun k f b record plain exhausted deferred empty =>
      ⟨fun due pending limit room => ?_, fun free => ?_⟩⟩
  · obtain ⟨onPair, play⟩ := resolved.held (r := result) hx holds stays record
    exact ⟨_, onPair, sameBut_billedAs st _, play⟩
  · exact ⟨gameBilled (billedAs st (afterFirstBall x result k f b)), rfl,
      resolved.charged hx holds stays record plain due pending limit room⟩
  · obtain ⟨onPair, play, runs⟩ := resolved.scored hx holds stays record owed plain exhausted deferred
      empty free
    refine ⟨_, onPair, sameBut_billedAs st _, play, fun ready lane pair => ?_⟩
    rw [show (s.enterBall l x (pinSetOf pins)).supervisor l = _ from runs ready lane pair]
    exact ⟨rfl, rfl⟩

end

section
/-! SUPPORT. A class raised with the action NONE or HOLD (R109 to R112): the effective action of a lane
rises to HOLD at most, so no HALT or PARK follows; the credit state is told and the arming checks are made. -/

namespace Sys2Proof.Machine

open Sys2Proof

/-! ## Severities (R106, R111) -/

theorem severity_moreSevere_le {a b : Action} {n : Nat} :
    severity (moreSevere a b) ≤ n ↔ severity a ≤ n ∧ severity b ≤ n := by
  unfold moreSevere
  split <;> omega

/-- The worst action of a set is as severe as its entries are at most. -/
theorem severity_worstAction_le {fs : List FaultEntry} {n : Nat} :
    severity (worstAction fs) ≤ n ↔ ∀ f ∈ fs, severity f.action ≤ n := by
  have fold : ∀ a, severity (fs.foldl (fun a f => moreSevere a f.action) a) ≤ n ↔
      severity a ≤ n ∧ ∀ f ∈ fs, severity f.action ≤ n := by
    induction fs with
    | nil => simp
    | cons f fs ih =>
      intro a
      rw [List.foldl_cons, ih, severity_moreSevere_le, List.forall_mem_cons, and_assoc]
  exact (fold .none).trans (and_iff_right (Nat.zero_le n))

/-- R109: a raise with a mild action adds nothing above HOLD. -/
theorem raiseInto_severity {a : FaultAction} (mild : a.action = .none ∨ a.action = .hold) {c : FaultClass}
    {now : Nat} {fs : List FaultEntry} {f : FaultEntry} (h : f ∈ raiseInto a c now fs) :
    severity f.action ≤ 1 ∨ ∃ g ∈ fs, f.action = g.action := by
  unfold raiseInto at h
  split at h
  · obtain ⟨g, hg, rfl⟩ := List.mem_map.1 h
    refine .inr ⟨g, hg, ?_⟩
    unfold refreshFault
    split <;> rfl
  · rcases List.mem_append.1 h with held | new
    · exact .inr ⟨f, held, rfl⟩
    · obtain rfl := List.mem_singleton.1 new
      refine .inl ?_
      show severity a.action ≤ 1
      rcases mild with e | e <;> rw [e] <;> decide

/-- R109: a class that is not in the set is entered at its end. -/
theorem raiseInto_new {a : FaultAction} {c : FaultClass} {now : Nat} {fs : List FaultEntry}
    (new : ∀ f ∈ fs, f.cls ≠ c) : raiseInto a c now fs = fs ++ [newFault a c now] := by
  have absent : findFault c fs = none := List.find?_eq_none.2 fun f hf => by simpa using new f hf
  simp [raiseInto, absent]

/-- R109: a class raised is in the set, present while its condition lasts. -/
theorem raiseInto_present (a : FaultAction) (c : FaultClass) (now : Nat) (fs : List FaultEntry) :
    ∃ f ∈ raiseInto a c now fs, f.cls = c ∧ f.present = lastingCondition c := by
  unfold raiseInto
  split
  · next held =>
    obtain ⟨f, hf⟩ := Option.isSome_iff_exists.1 held
    have cls : f.cls = c := by simpa using List.find?_some hf
    refine ⟨_, List.mem_map_of_mem (List.mem_of_find?_eq_some hf), ?_⟩
    rw [refreshFault, if_pos cls]
    exact ⟨cls, rfl⟩
  · exact ⟨_, List.mem_append_right _ (List.mem_singleton_self _), rfl, rfl⟩

/-! ## The credit state told (R112, R150) -/

section
variable (s : State) (l k : LaneId)

/-- Telling the credit state changes sessions alone. -/
theorem tellCredit_others : s.tellCredit l = { s with sessions := (s.tellCredit l).sessions } := by
  unfold State.tellCredit
  split <;> rfl

theorem lane_tellCredit : (s.tellCredit l).lane k = s.lane k := by rw [tellCredit_others]; rfl

theorem pair_tellCredit (q : PairId) : (s.tellCredit l).pair q = s.pair q := by
  rw [tellCredit_others]; rfl

theorem notices_tellCredit : (s.tellCredit l).notices = s.notices := by rw [tellCredit_others]

/-- Telling the credit state changes the billing state of a session at most. -/
theorem session_tellCredit (i : SessionId) :
    (s.tellCredit l).session i = s.session i ∨
      ∃ b, (s.tellCredit l).session i = (s.session i).map (billedAs b) := by
  unfold State.tellCredit
  split
  · exact .inl rfl
  · next j _ =>
    rw [State.modSession, session_setSession]
    split
    · next e =>
      subst e
      cases s.session i with
      | none => exact .inl rfl
      | some x =>
        refine .inr ⟨(followCredit (s.credit l) x.billing).state, ?_⟩
        rw [Option.map_some, followCredit_eq]
        rfl
    · exact .inl rfl

/-- A session in use keeps all but its billing state. -/
theorem session_tellCredit_some {i : SessionId} {x : Session} (hx : s.session i = some x) :
    ∃ b, (s.tellCredit l).session i = some (billedAs b x) := by
  rcases session_tellCredit s l i with e | ⟨b, e⟩
  · exact ⟨x.billing.state, e.trans hx⟩
  · exact ⟨b, by rw [e, hx]; rfl⟩

theorem session_tellCredit_none {i : SessionId} (hx : s.session i = none) :
    (s.tellCredit l).session i = none := by
  rcases session_tellCredit s l i with e | ⟨b, e⟩
  · exact e.trans hx
  · rw [e, hx]; rfl

theorem State.NoneLeaving.tellCredit {s : State} (h : s.NoneLeaving) (l : LaneId) :
    (s.tellCredit l).NoneLeaving := h.of_states fun i x hx => by
  cases hs : s.session i with
  | none => rw [session_tellCredit_none s l hs] at hx; cases hx
  | some y =>
    obtain ⟨b, e⟩ := session_tellCredit_some s l hs
    rw [e] at hx
    cases hx
    exact ⟨y, rfl, rfl⟩

end

/-! ## A mild raise (R109 to R112) -/

/-- R109, R119: a class entered into a lane's set, with FAULT_RAISED, before the lane is told. -/
def State.faultEntered (s : State) (l : LaneId) (c : FaultClass) : State :=
  let a := s.faultTable[faultIndex c]
  let fs := raiseInto a c s.deviceTime (s.lane l).faults
  let s1 := s.setLaneFaults l fs
  s1.raiseWith (laneSource l) (s1.faultRaised c (findFault c (s.lane l).faults).isNone fs [l]) a.priority

/-- R109, R119: a class entered into a pair's set, with FAULT_RAISED, before the lanes are told. -/
def State.pairFaultEntered (s : State) (p : PairId) (c : FaultClass) : State :=
  let a := s.faultTable[faultIndex c]
  let fs := raiseInto a c s.deviceTime (s.pair p).faults
  let s1 := s.setPairFaults p fs
  s1.raiseWith (pairSource p) (s1.faultRaised c (findFault c (s.pair p).faults).isNone fs
    [laneAt p .left, laneAt p .right]) a.priority

/-- R111: an effective action that has not risen, or to HOLD at most, has nothing carried out. -/
theorem carryRise_nothing {s : State} {l : LaneId} {before : Action}
    (h : severity (s.effective l) ≤ max 1 (severity before)) : s.carryRise l before = s := by
  unfold State.carryRise
  split
  · rfl
  · next rises =>
    have low : severity (s.effective l) ≤ 1 := by
      have := not_or.1 rises
      omega
    revert low
    cases s.effective l <;> simp [severity]

/-- R111, R112: then the lane is told its credit state, and its arming check is made. -/
theorem tellRise_nothing {s : State} {l : LaneId} {before : Action}
    (h : severity (s.effective l) ≤ max 1 (severity before)) :
    s.tellRise l before = (s.tellCredit l).armingCheck l := by
  have effective : (s.tellCredit l).effective l = s.effective l := by
    rw [State.effective, State.faultsOn, lane_tellCredit, pair_tellCredit]
    rfl
  rw [State.tellRise, carryRise_nothing (by rw [effective]; exact h)]

/-- R109 to R112: a class raised into a lane's set with the action NONE or HOLD. -/
theorem raiseLane_mild {s : State} {l : LaneId} {c : FaultClass}
    (mild : s.faultTable[faultIndex c].action = .none ∨ s.faultTable[faultIndex c].action = .hold) :
    s.raiseLane l c = ((s.faultEntered l c).tellCredit l).armingCheck l := by
  refine tellRise_nothing (s := s.faultEntered l c) (severity_worstAction_le.2 fun f hf => ?_)
  have old : ∀ g ∈ s.faultsOn l, severity g.action ≤ severity (s.effective l) :=
    severity_worstAction_le.1 le_rfl
  rcases List.mem_append.1 hf with own | shared
  · rw [State.faultEntered, lane_raiseWith, faults_setLaneFaults, if_pos rfl] at own
    rcases raiseInto_severity mild own with low | ⟨g, hg, e⟩
    · exact low.trans (le_max_left ..)
    · exact e ▸ (old g (List.mem_append_left _ hg)).trans (le_max_right ..)
  · exact (old f (List.mem_append_right _ shared)).trans (le_max_right ..)

/-- R109 to R112: a class raised into a pair's set with the action NONE or HOLD. -/
theorem raisePair_mild {s : State} {p : PairId} {c : FaultClass}
    (mild : s.faultTable[faultIndex c].action = .none ∨ s.faultTable[faultIndex c].action = .hold) :
    s.raisePair p c =
      ((((s.pairFaultEntered p c).tellCredit (laneAt p .left)).armingCheck (laneAt p .left)).tellCredit
        (laneAt p .right)).armingCheck (laneAt p .right) := by
  have rises : ∀ d, severity ((s.pairFaultEntered p c).effective (laneAt p d)) ≤
      max 1 (severity (s.effective (laneAt p d))) := fun d => severity_worstAction_le.2 fun f hf => by
    have old : ∀ g ∈ s.faultsOn (laneAt p d), severity g.action ≤ severity (s.effective (laneAt p d)) :=
      severity_worstAction_le.1 le_rfl
    rcases List.mem_append.1 hf with own | shared
    · exact (old f (List.mem_append_left _ own)).trans (le_max_right ..)
    · rw [State.pairFaultEntered, pair_raiseWith, pairOf_laneAt, State.setPairFaults,
        pair_setPair_self] at shared
      rcases raiseInto_severity mild shared with low | ⟨g, hg, e⟩
      · exact low.trans (le_max_left ..)
      · refine e ▸ (old g (List.mem_append_right _ ?_)).trans (le_max_right ..)
        rwa [pairOf_laneAt]
  have first := tellRise_nothing (rises .left)
  have same : (((s.pairFaultEntered p c).tellCredit (laneAt p .left)).armingCheck
      (laneAt p .left)).effective (laneAt p .right) =
        (s.pairFaultEntered p c).effective (laneAt p .right) := by
    rw [State.effective, State.faultsOn, faults_armingCheck, pair_armingCheck, lane_tellCredit,
      pair_tellCredit]
    rfl
  have second := tellRise_nothing (s := ((s.pairFaultEntered p c).tellCredit (laneAt p .left)).armingCheck
    (laneAt p .left)) (by rw [same]; exact rises .right)
  show ((s.pairFaultEntered p c).tellRise (laneAt p .left) (s.effective (laneAt p .left))).tellRise
    (laneAt p .right) (s.effective (laneAt p .right)) = _
  rw [first, second]

end Sys2Proof.Machine
end

section
/-! SUPPORT. The timers of the ball in play (O55): the READ that is placed or waits, and the reading that
is overdue. -/

namespace Sys2Proof.Machine

open Sys2Proof

theorem expectedStamp_eq (t : Tracker) :
    expectedStamp t = BitVec.ofNat 6 (t.pitCount.toNat % 64) := by
  apply BitVec.eq_of_toNat_eq
  simp [expectedStamp]

/-! ## READ commands (R75, R168) -/

/-- R168: a READ enters an empty slot or replaces a READ. -/
theorem slotTakes_read {n : Node} {c : Stamp} :
    slotTakes n (.read c) = true ↔ n.slot = none ∨ ∃ c q w, n.slot = some ⟨.read c, q, w⟩ := by
  rcases n with ⟨_, _, _ | ⟨d, q, w⟩⟩
  · simp [slotTakes]
  · cases d <;> simp [slotTakes, replaces]

section
variable {s : State} {l : LaneId}

/-- R75: a READ that the slot takes is placed and counted on the ball. -/
theorem placeRead_placed
    (free : (s.reader l).slot = none ∨ ∃ c q w, (s.reader l).slot = some ⟨.read c, q, w⟩) :
    s.placeRead l = (s.modNode (pairOf l) (readerAddr (sideOf l))
      (putCommand (.read (expectedStamp (s.tracker l))))).modTracker l countRead := by
  have takes := (slotTakes_read (c := expectedStamp (s.tracker l))).2 free
  unfold State.placeRead
  dsimp only
  rw [if_pos takes]
  exact congrArg (fun t : State => t.modTracker l countRead) (if_pos takes)

/-- R75: behind another command a READ waits. -/
theorem placeRead_waits
    (full : ¬ ((s.reader l).slot = none ∨ ∃ c q w, (s.reader l).slot = some ⟨.read c, q, w⟩)) :
    s.placeRead l = s.modTracker l fun x => { x with readWaiting := true } :=
  if_neg fun takes => full (slotTakes_read.1 takes)

/-! ## The reading deadline (R78) -/

/-- R78: the deadline in READING, with a mild READING_OVERDUE: the ball waits for an entry, the class is
in the lane's set, and the holder's credit state is told. -/
theorem deadlineExpires_mild
    (mild : s.faultTable[faultIndex .readingOverdue].action = .none ∨
      s.faultTable[faultIndex .readingOverdue].action = .hold) :
    s.deadlineExpires l = ((s.modTracker l fun t =>
      { t with
        play := .awaitingEntry, retryTimer := none, deadlineTimer := none
        readWaiting := false }).faultEntered l .readingOverdue).tellCredit l := by
  have raised := raiseLane_mild (s := s.modTracker l fun t =>
    { t with
      play := .awaitingEntry, retryTimer := none, deadlineTimer := none
      readWaiting := false }) (l := l) (c := .readingOverdue) mild
  rw [State.deadlineExpires, raised]
  have play : ((((s.modTracker l fun t =>
      { t with
        play := .awaitingEntry, retryTimer := none, deadlineTimer := none
        readWaiting := false }).faultEntered l .readingOverdue).tellCredit l).tracker l).play =
          .awaitingEntry := by
    rw [State.tracker, lane_tellCredit, State.faultEntered, lane_raiseWith]
    exact congrArg Tracker.play ((tracker_setLaneFaults ..).trans
      ((tracker_modTracker ..).trans (if_pos rfl)))
  simp only [State.armingCheck, play]

/-- R78, R109: what the deadline leaves: the class new in the lane's set, present, told by FAULT_RAISED. -/
theorem deadlineExpires_leaves
    (mild : s.faultTable[faultIndex .readingOverdue].action = .none ∨
      s.faultTable[faultIndex .readingOverdue].action = .hold)
    (new : ∀ e ∈ (s.lane l).faults, e.cls ≠ .readingOverdue) (stays : s.NoneLeaving) :
    let act := s.faultTable[faultIndex .readingOverdue]
    let t := (s.deadlineExpires l).settleLane l
    t.deviceTime = s.deviceTime ∧
    t.tracker l = { s.tracker l with
      play := .awaitingEntry, retryTimer := none, deadlineTimer := none, readWaiting := false } ∧
    (t.lane l).faults = (s.lane l).faults ++
      [⟨.readingOverdue, act.action, act.credit, true, false, 1, s.deviceTime, s.deviceTime⟩] ∧
    t.supervisor l = s.supervisor l ∧ t.charges = s.charges ∧
    (∀ i x, s.session i = some x → ∃ b, t.session i = some (billedAs b x)) ∧
    ∃ x ∈ t.notices, x.source = laneSource l ∧ payloadKind x.payload = .faultRaised := by
  intro act t
  let v := s.modTracker l fun t =>
    { t with play := .awaitingEntry, retryTimer := none, deadlineTimer := none, readWaiting := false }
  let e := v.faultEntered l .readingOverdue
  have eq : t = e.tellCredit l := by
    have stays' : (e.tellCredit l).NoneLeaving := State.NoneLeaving.tellCredit (s := e) stays l
    show (s.deadlineExpires l).settleLane l = _
    rw [deadlineExpires_mild mild]
    exact settleLane_stays (stays'.holderStays l)
  have lane : v.lane l = { s.lane l with tracker := v.tracker l } := by
    rw [lane_modTracker, if_pos rfl, tracker_modTracker, if_pos rfl]
  have faults : (e.lane l).faults = raiseInto act .readingOverdue s.deviceTime (s.lane l).faults := by
    refine (faults_setLaneFaults ..).trans ((if_pos rfl).trans ?_)
    rw [lane]
    rfl
  have raised := mem_keys_addNotice (n := laneSource l) (w := act.priority) (ns := s.notices)
    (x := (v.setLaneFaults l (raiseInto act .readingOverdue v.deviceTime (v.lane l).faults)).faultRaised
      .readingOverdue (findFault .readingOverdue (v.lane l).faults).isNone
      (raiseInto act .readingOverdue v.deviceTime (v.lane l).faults) [l]) (.inr rfl)
  obtain ⟨n, hn, key⟩ := List.mem_map.1 raised
  obtain ⟨source, kind⟩ := Prod.mk.inj key
  rw [eq]
  refine ⟨?_, ?_, ?_, ?_, ?_, fun i x hx => session_tellCredit_some e l hx, n, ?_, source, kind⟩
  · rw [tellCredit_others]
    rfl
  · rw [State.tracker, lane_tellCredit]
    exact (tracker_setLaneFaults ..).trans ((tracker_modTracker ..).trans (if_pos rfl))
  · rw [lane_tellCredit, faults, raiseInto_new new]
    rfl
  · rw [State.supervisor, lane_tellCredit]
    exact (supervisor_setLaneFaults ..).trans (supervisor_modTracker ..)
  · rw [tellCredit_others]
    rfl
  · rw [notices_tellCredit]
    exact hn

/-! ## The expiries -/

/-- R75: settle expiry of a lane in SETTLING. -/
theorem exec_settleExpiry {d : Nat} (play : (s.tracker l).play = .settling)
    (timer : (s.tracker l).settleTimer = some d) :
    exec (.settleExpiry l) s = .next ((s.passTo d).settleExpires l).settleTrunk := by
  show execSettleExpiry l s = _
  simp only [execSettleExpiry, timer, if_pos play, State.done]

theorem exec_settleExpiry_idle
    (idle : (s.tracker l).play ≠ .settling ∨ (s.tracker l).settleTimer = none) :
    exec (.settleExpiry l) s = .next s.settleTrunk := by
  show execSettleExpiry l s = _
  unfold execSettleExpiry
  split
  · rfl
  · next timer => exact if_neg (idle.resolve_right (by simp [timer]))

/-- R76: retry expiry of a lane whose retry timer runs. -/
theorem exec_retryExpiry {d : Nat} (timer : (s.tracker l).retryTimer = some d) :
    exec (.retryExpiry l) s = .next ((s.passTo d).retryExpires l).settleTrunk := by
  show execRetryExpiry l s = _
  simp only [execRetryExpiry, timer, State.done]

theorem exec_retryExpiry_stopped (timer : (s.tracker l).retryTimer = none) :
    exec (.retryExpiry l) s = .next s.settleTrunk := by
  show execRetryExpiry l s = _
  simp only [execRetryExpiry, timer, State.done]

/-- R78: deadline expiry of a lane in READING. -/
theorem exec_readingDeadlineExpiry {d : Nat} (play : (s.tracker l).play = .reading)
    (timer : (s.tracker l).deadlineTimer = some d) :
    exec (.readingDeadlineExpiry l) s =
      .next (((s.passTo d).deadlineExpires l).settleLane l).settleTrunk := by
  show execReadingDeadlineExpiry l s = _
  simp only [execReadingDeadlineExpiry, timer, if_pos play, State.done]

theorem exec_readingDeadlineExpiry_idle
    (idle : (s.tracker l).play ≠ .reading ∨ (s.tracker l).deadlineTimer = none) :
    exec (.readingDeadlineExpiry l) s = .next s.settleTrunk := by
  show execReadingDeadlineExpiry l s = _
  unfold execReadingDeadlineExpiry
  split
  · rfl
  · next timer => exact if_neg (idle.resolve_right (by simp [timer]))

/-- Device time at or past a deadline (log entry 2). -/
theorem deviceTime_passTo (d : Nat) : (s.passTo d).deviceTime = max s.deviceTime d := by
  show s.deviceTime + (d - s.deviceTime) = _
  omega

/-- R75: what settle expiry makes of the tracker, before its READ. -/
theorem settleExpires_eq (d : Nat) :
    (s.passTo d).settleExpires l = ((s.passTo d).modTracker l fun t =>
      { t with
        play := .reading, settleTimer := none
        deadlineTimer := some (max s.deviceTime d + (s.profileOf l).readingDeadline) }).placeRead l := by
  rw [← deviceTime_passTo]
  rfl

end

end Sys2Proof.Machine

open Sys2Proof Sys2Proof.Machine

/-- Settles O55: a READ placed or waiting at settle and retry expiry; at the deadline READING_OVERDUE is
raised with a mild action, which nothing follows but the credit state. -/
theorem ballTimersExpire : Obligations.BallTimersExpire := by
  unfold Obligations.BallTimersExpire
  intro s l d k f time now free read waits settled retried
  have stamp : ∀ g : Tracker → Tracker, (g k).pitCount = k.pitCount →
      expectedStamp ((now.modTracker l g).tracker l) = BitVec.ofNat 6 (k.pitCount.toNat % 64) :=
    fun g hg => by
      rw [tracker_modTracker, if_pos rfl, expectedStamp_eq]
      exact congrArg (fun n : BitVec 16 => BitVec.ofNat 6 (n.toNat % 64)) hg
  have placed : ∀ g : Tracker → Tracker, (g k).pitCount = k.pitCount → free →
      (now.modTracker l g).placeRead l = read (now.modTracker l g) := fun g hg takes => by
    refine (placeRead_placed (s := now.modTracker l g) takes).trans ?_
    rw [stamp g hg]
    rfl
  have waiting : ∀ g : Tracker → Tracker, ¬ free →
      (now.modTracker l g).placeRead l = waits (now.modTracker l g) :=
    fun g full => placeRead_waits (s := now.modTracker l g) full
  have retries : now.retryExpires l = if k.play = .reading then retried.placeRead l else retried := rfl
  refine ⟨fun play timer => ?_, exec_settleExpiry_idle, fun play timer => ?_, fun play timer => ?_,
    exec_retryExpiry_stopped, fun play timer stays => ?_, exec_readingDeadlineExpiry_idle⟩
  · rw [exec_settleExpiry play timer, settleExpires_eq]
    exact ⟨fun takes => congrArg _ (congrArg _ (placed _ rfl takes)),
      fun full => congrArg _ (congrArg _ (waiting _ full))⟩
  · rw [exec_retryExpiry timer, show (s.passTo d).retryExpires l = _ from retries, if_pos play]
    exact ⟨fun takes => congrArg _ (congrArg _ (placed _ rfl takes)),
      fun full => congrArg _ (congrArg _ (waiting _ full))⟩
  · rw [exec_retryExpiry timer, show (s.passTo d).retryExpires l = _ from retries, if_neg play]
  · intro act mild new
    have left := deadlineExpires_leaves (s := s.passTo d) (l := l) mild new stays
    rw [deviceTime_passTo] at left
    exact ⟨_, exec_readingDeadlineExpiry play timer, left⟩

end

section
/-! SUPPORT. A pair-link answer (R165, R169): an answer frame built from its parts is read as they stand, and
one from the address polled ends the poll. Beside it, two changes of one record as one. -/

namespace Sys2Proof.Machine

open Sys2Proof

/-! ## Updates one after another -/

theorem modTracker_modTracker (s : State) (l : LaneId) (f g : Tracker → Tracker) :
    (s.modTracker l f).modTracker l g = s.modTracker l fun t => g (f t) := by
  simp only [State.modTracker, State.tracker, lane_setLane_self, setLane_setLane]

theorem modPoller_modPoller (s : State) (p : PairId) (f g : Poller → Poller) :
    (s.modPoller p f).modPoller p g = s.modPoller p fun q => g (f q) := by
  simp [State.modPoller, State.setPair, State.poller, State.pair]

theorem modNode_modNode (s : State) (p : PairId) (a : NodeAddr) (f g : Node → Node) :
    (s.modNode p a f).modNode p a g = s.modNode p a fun n => g (f n) := by
  simp [State.modNode, modPoller_modPoller]

theorem modNode_modTracker (s : State) (l : LaneId) (f : Tracker → Tracker) (p : PairId) (a : NodeAddr)
    (g : Node → Node) : (s.modTracker l f).modNode p a g = (s.modNode p a g).modTracker l f := rfl

theorem node_modNode_self (s : State) (p : PairId) (a : NodeAddr) (f : Node → Node) :
    (s.modNode p a f).node p a = f (s.node p a) := (node_modNode ..).trans (if_pos ⟨rfl, rfl⟩)

theorem tracker_modTracker_self (s : State) (l : LaneId) (f : Tracker → Tracker) :
    (s.modTracker l f).tracker l = f (s.tracker l) := (tracker_modTracker ..).trans (if_pos rfl)

/-! ## The bytes of an answer (section 11.7) -/

/-- Two bytes of a word stand for it. -/
theorem word2_bytes {n : Nat} (h : n < 65536) :
    word2 (BitVec.ofNat 8 (n / 256)) (BitVec.ofNat 8 n) = n := by
  simp only [word2, BitVec.toNat_ofNat]
  omega

theorem addressOf_succ (a : NodeAddr) : addressOf? (BitVec.ofNat 8 (a.val + 1)).toNat = some a := by
  revert a
  decide

/-- R169: the command field of an ACK. -/
theorem commandResult_ack (q : Serial) : commandResult (BitVec.ofNat 8 (16 + q.toNat)) = .ack q := by
  have small := q.isLt
  have value : (BitVec.ofNat 8 (16 + q.toNat)).toNat = 16 + q.toNat := by
    rw [BitVec.toNat_ofNat]
    omega
  have serial : (BitVec.ofNat 8 (16 + q.toNat)).truncate 3 = q := by
    apply BitVec.eq_of_toNat_eq
    rw [BitVec.truncate_eq_setWidth, BitVec.toNat_setWidth, value]
    omega
  have field : (16 + q.toNat) / 16 % 4 = 1 := by omega
  simp only [commandResult, value, serial, field]

/-- An answer frame whose address names a node and whose body fits the node's role is an answer. -/
theorem readAnswer_answer {address result count : Byte} {body : List Byte} {a : NodeAddr}
    {c : AnswerContents} (ha : addressOf? address.toNat = some a)
    (hc : contentsOf (roleOf a) count.toNat body = some c) :
    let covered := [address, 2#8, result, count] ++ body
    readAnswer ([0x5A#8] ++ covered ++ bytes2 (crc16 covered).toNat) =
      .answer ⟨a, commandResult result, c⟩ := by
  intro covered
  obtain ⟨hi, hhi⟩ : ∃ hi, hi = BitVec.ofNat 8 ((crc16 covered).toNat / 256) := ⟨_, rfl⟩
  obtain ⟨lo, hlo⟩ : ∃ lo, lo = BitVec.ofNat 8 (crc16 covered).toNat := ⟨_, rfl⟩
  have holds : answerCrcHolds (address :: 2#8 :: result :: count :: body) hi lo = true := by
    rw [answerCrcHolds, hhi, hlo, word2_bytes (crc16 covered).isLt]
    exact beq_self_eq_true _
  have tail : (body ++ [hi, lo]).reverse = lo :: hi :: body.reverse := by simp
  rw [bytes2, ← hhi, ← hlo]
  show readAnswer (0x5A#8 :: address :: 2#8 :: result :: count :: (body ++ [hi, lo])) = _
  simp only [readAnswer, tail, List.reverse_reverse, holds, ha, hc]
  rfl

/-- R165: an answer from the address polled ends the poll and is taken. -/
theorem exec_answerReceived {s : State} {p : PairId} {q : Poll} {frame : List Byte} {x : Answer}
    (polled : (s.poller p).poll = some q) (waits : q.abandoned = false)
    (read : readAnswer frame = .answer x) (source : x.address = q.address) :
    exec (.answerReceived p frame) s = .next (s.takeAnswer p q x).settleTrunk := by
  have ensured : s.ensurePoll p = s := by simp only [State.ensurePoll, polled]
  show State.done ((s.ensurePoll p).linkFrame p frame) = _
  rw [ensured]
  simp only [State.linkFrame, polled, State.answerFrame, read, if_pos source, waits, State.done]
  rfl

/-! ## Roles that have no part in what an answer brings -/

@[simp] theorem roleOf_readerAddr (d : Side) : roleOf (readerAddr d) = .reader d := by cases d <;> rfl

/-- R166: an answer of a node that is ALIVE and no pinsetter clears its misses. -/
theorem nodeAnswers_alive {s : State} {p : PairId} {a : NodeAddr} (alive : (s.node p a).state = .alive)
    (role : ∀ d, roleOf a ≠ .pinsetter d) :
    s.nodeAnswers p a = s.modNode p a fun n => { n with misses := 0 } := by
  rw [State.nodeAnswers, if_pos alive, State.placeOwedOf]
  split
  · next d h => exact absurd h (role d)
  all_goals rfl

end Sys2Proof.Machine
end

section
/-! SUPPORT. RESYNC_READER (O47): the SET_COUNT that is placed or waits, and its ACK. -/

namespace Sys2Proof.Machine

open Sys2Proof

variable {s : State} {l : LaneId}

/-! ## The request (R80) -/

/-- R80: what makes a resynchronisation BUSY. -/
theorem resyncBusy_iff : s.resyncBusy l = true ↔
    (s.tracker l).play = .settling ∨ (s.tracker l).play = .reading ∨ (s.tracker l).resync = .sent ∨
      ∃ c q u, (s.reader l).slot = some ⟨.read c, q, u⟩ := by
  have slot : (match (s.reader l).slot with
      | some ⟨.read _, _, _⟩ => true
      | _ => false) = true ↔ ∃ c q u, (s.reader l).slot = some ⟨.read c, q, u⟩ := by
    rcases (s.reader l).slot with _ | ⟨d, q, u⟩
    · simp
    · cases d <;> simp
  simp only [State.resyncBusy, Bool.or_eq_true, beq_iff_eq, or_assoc]
  exact or_congr_right (or_congr_right (or_congr_right slot))

/-- R80: a RESYNC_READER for a lane whose reader is ALIVE is refused BUSY or accepted. -/
theorem reqResyncReader_alive {n : Nat} (run : s.device = .run) (hl : s.mappedLane? n = some l)
    (alive : (s.reader l).state = .alive) :
    reqResyncReader n s = if s.resyncBusy l then (s, refuse .busy) else (s.resync l, accept) := by
  simp only [reqResyncReader, run, hl, alive, ne_eq, not_true_eq_false, if_false]

/-! ## The SET_COUNT (R80, R168) -/

/-- R80, R168: in an empty slot the SET_COUNT is placed, with the pit count of the moment. -/
theorem resync_placed (empty : (s.reader l).slot = none) :
    s.resync l = (s.modNode (pairOf l) (readerAddr (sideOf l))
      (putCommand (.setCount (BitVec.ofNat 6 ((s.tracker l).pitCount.toNat % 64))))).modTracker l
        fun t => { t with resync := .sent } := by
  rw [← expectedStamp_eq]
  have takes := slotTakes_of_empty empty (.setCount (expectedStamp (s.tracker l)))
  unfold State.resync
  dsimp only
  rw [if_pos takes]
  exact congrArg (fun t : State => t.modTracker l fun t => { t with resync := .sent }) (if_pos takes)

/-- R168: behind a SET_COUNT another waits. -/
theorem resync_waits {c : Stamp} {q : Serial} {u : Option Nat}
    (full : (s.reader l).slot = some ⟨.setCount c, q, u⟩) :
    s.resync l = s.modTracker l fun t => { t with resync := .sent, countWaiting := true } := by
  unfold State.resync
  dsimp only
  rw [if_neg (by simp [slotTakes, full, replaces])]

/-- R168: a SET_COUNT that waited goes into the slot that has emptied. -/
theorem placeWaitingCount_placed (waiting : (s.tracker l).countWaiting = true)
    (empty : (s.reader l).slot = none) :
    s.placeWaitingCount l = (s.modNode (pairOf l) (readerAddr (sideOf l))
      (putCommand (.setCount (BitVec.ofNat 6 ((s.tracker l).pitCount.toNat % 64))))).modTracker l
        fun t => { t with resync := .sent, countWaiting := false } := by
  rw [State.placeWaitingCount, if_pos waiting,
    resync_placed (s := s.modTracker l fun t => { t with countWaiting := false }) empty,
    tracker_modTracker_self]
  exact modTracker_modTracker (s.modNode ..) l (fun t => { t with countWaiting := false }) _

theorem placeWaitingCount_none (h : (s.tracker l).countWaiting = false) : s.placeWaitingCount l = s :=
  if_neg (by simp [h])

theorem placeWaitingRead_none (h : (s.tracker l).readWaiting = false) : s.placeWaitingRead l = s :=
  if_neg (by simp [h])

/-! ## The ACK (R169) -/

theorem readWaiting_resync : ((s.resync l).tracker l).readWaiting = (s.tracker l).readWaiting := by
  unfold State.resync
  dsimp only
  split
  · rw [tracker_modTracker_self, tracker_place]
  · rw [tracker_modTracker_self]

theorem readWaiting_placeWaitingCount :
    ((s.placeWaitingCount l).tracker l).readWaiting = (s.tracker l).readWaiting := by
  unfold State.placeWaitingCount
  split
  · rw [readWaiting_resync, tracker_modTracker_self]
  · rfl

/-- R169: with no READ waiting, a reader's slot that has emptied takes the SET_COUNT that waits. -/
theorem slotEmptied_reader (noRead : (s.tracker l).readWaiting = false) :
    s.slotEmptied (pairOf l) (readerAddr (sideOf l)) = s.placeWaitingCount l := by
  simp only [State.slotEmptied, roleOf_readerAddr, laneAt_pairOf]
  exact placeWaitingRead_none (readWaiting_placeWaitingCount.trans noRead)

/-- R169: the ACK of the reader's SET_COUNT empties the slot, and the resync is DONE. -/
theorem resolveCommand_acksCount {c : Stamp} {q : Serial} {k d : Nat}
    (slot : (s.reader l).slot = some ⟨.setCount c, q, some k⟩)
    (noRead : (s.tracker l).readWaiting = false) :
    s.resolveCommand (pairOf l) ⟨readerAddr (sideOf l), some (.setCount c, q), d, false⟩ (.ack q) =
      ((s.clearSlot (pairOf l) (readerAddr (sideOf l))).resyncDone l).placeWaitingCount l := by
  have held : stillInSlot (s.node (pairOf l) (readerAddr (sideOf l))) (.setCount c) q = true :=
    stillInSlot_iff.2 ⟨k, slot⟩
  have acked : (s.clearSlot (pairOf l) (readerAddr (sideOf l))).acked (pairOf l)
      (readerAddr (sideOf l)) (.setCount c) =
        (s.clearSlot (pairOf l) (readerAddr (sideOf l))).resyncDone l := by
    simp only [State.acked, roleOf_readerAddr, laneAt_pairOf]
  have noRead' : (((s.clearSlot (pairOf l) (readerAddr (sideOf l))).resyncDone l).tracker
      l).readWaiting = false := by
    rw [State.resyncDone, tracker_modTracker_self]
    exact noRead
  simp only [State.resolveCommand, if_pos held, if_true, acked, slotEmptied_reader noRead',
    State.placeOwedOf, roleOf_readerAddr]

/-- R169, R170: an answer of the reader that ACKs its SET_COUNT and carries no reading. -/
theorem takeAnswer_acksCount {c : Stamp} {q : Serial} {k d : Nat}
    (alive : (s.reader l).state = .alive)
    (slot : (s.reader l).slot = some ⟨.setCount c, q, some k⟩) (stays : s.NoneLeaving)
    (noRead : (s.tracker l).readWaiting = false) :
    let p := pairOf l
    let a := readerAddr (sideOf l)
    s.takeAnswer p ⟨a, some (.setCount c, q), d, false⟩ ⟨a, .ack q, .reader none⟩ =
      (((s.modNode p a fun n => { n with misses := 0, slot := none }).resyncDone
        l).placeWaitingCount l).nextPoll p := by
  intro p a
  have answers : s.nodeAnswers p a = s.modNode p a fun n => { n with misses := 0 } :=
    nodeAnswers_alive alive fun d h => by rw [roleOf_readerAddr] at h; cases h
  have resolved := resolveCommand_acksCount (s := s.modNode p a fun n => { n with misses := 0 })
    (l := l) (c := c) (q := q) (k := k) (d := d) (by rw [State.reader, node_modNode_self]; exact slot)
    noRead
  rw [State.clearSlot, modNode_modNode] at resolved
  have stays' : (((s.modNode p a fun n => { n with misses := 0, slot := none }).resyncDone
      l).placeWaitingCount l).NoneLeaving :=
    OnPair.noneLeaving ((((OnPair.refl p s).modNode p a _ rfl).modTracker l rfl rfl).placeWaitingCount l
      rfl) stays
  rw [State.takeAnswer, answers, resolved]
  simp only [State.handContents, State.takeContents, State.examineAt, a, roleOf_readerAddr, ite_self]
  rw [settlePair_stays stays']

end Sys2Proof.Machine

open Sys2Proof Sys2Proof.Machine

/-- Settles O47: the request refused or its SET_COUNT placed or kept waiting; then the ACK of the one in
the slot. -/
theorem resyncReaderPlacesSetCount : Obligations.ResyncReaderPlacesSetCount := by
  unfold Obligations.ResyncReaderPlacesSetCount
  intro s tag n l trunk run hl alive
  have answered := reqResyncReader_alive run hl alive
  have accepted : (s.tracker l).play ≠ .settling → (s.tracker l).play ≠ .reading →
      (s.tracker l).resync ≠ .sent → (¬ ∃ c q u, (s.reader l).slot = some ⟨.read c, q, u⟩) →
      exec (.resyncReader tag n) s = .next (State.reply (s.resync l) ⟨tag, 42, ⟨.ok, .nothing⟩⟩) :=
    fun settling reading sent slot => by
      have free : ¬ s.resyncBusy l = true := fun busy =>
        (resyncBusy_iff.1 busy).elim settling fun h => h.elim reading fun h => h.elim sent slot
      exact exec_of_act rfl trunk (answered.trans (if_neg free)) ((Kept.refl s).resync l).trunk
  refine ⟨fun busy => ?_, fun settling reading sent empty => ?_,
    fun c q u settling reading sent full => ?_, ?_⟩
  · exact exec_of_act rfl trunk (answered.trans (if_pos (resyncBusy_iff.2 busy))) rfl
  · rw [accepted settling reading sent (by simp [empty]), resync_placed empty]
    rfl
  · rw [accepted settling reading sent (by simp [full]), resync_waits full]
  · intro c q u d p a slot tried stays polled noRead covered exec_run
    obtain ⟨k, rfl⟩ := Option.isSome_iff_exists.1 tried
    have read := readAnswer_answer (result := BitVec.ofNat 8 (16 + q.toNat)) (count := 0#8) (body := [])
      (addressOf_succ a) (c := .reader none) (by rw [roleOf_readerAddr]; rfl)
    rw [commandResult_ack] at read
    have taken := exec_answerReceived polled rfl read rfl
    rw [takeAnswer_acksCount alive slot stays noRead] at taken
    rw [show exec_run = _ from taken]
    let v := (s.modNode p a fun n => { n with misses := 0, slot := none }).resyncDone l
    have tracker : v.tracker l = { s.tracker l with resync := .done } := tracker_modTracker_self ..
    refine ⟨fun none_ => ?_, fun waiting => ?_⟩
    · rw [placeWaitingCount_none (s := v) (by rw [tracker]; exact none_)]
      rfl
    · have empty : (v.reader l).slot = none := by
        show ((s.modNode p a fun n => { n with misses := 0, slot := none }).node p a).slot = none
        rw [node_modNode_self]
      rw [placeWaitingCount_placed (s := v) (by rw [tracker]; exact waiting) empty, tracker]
      refine congrArg (fun t : State => Host.Outcome.next (t.nextPoll p).settleTrunk) ?_
      rw [show v = (s.modNode p a _).modTracker l _ from rfl, modNode_modTracker, modNode_modNode,
        modTracker_modTracker]
      rfl

end

section
/-! SUPPORT. The arming check as a function of the lane's tracker (R90), and what it looks at. -/

namespace Sys2Proof.Machine

open Sys2Proof

/-- R90, R70: what an arming check that passes or fails makes of a tracker. -/
def rearm (passes : Bool) (x : Tracker) : Tracker :=
  match x.play with
  | .notArmed => if passes then { x with play := .armed } else x
  | .armed => if passes then x else { x with play := .notArmed, foulPending := none }
  | .settling | .reading | .awaitingEntry | .resolved => x

theorem rearmed_rearm (b : Bool) (x : Tracker) : Rearmed x (rearm b x) := by
  unfold rearm
  split
  · next h =>
    split
    · exact .inr (.inl ⟨h, rfl⟩)
    · exact .inl rfl
  · next h =>
    split
    · exact .inl rfl
    · exact .inr (.inr ⟨h, rfl⟩)
  all_goals exact .inl rfl

/-- A second check with the same answer changes nothing. -/
theorem rearm_rearm (b : Bool) (x : Tracker) : rearm b (rearm b x) = rearm b x := by
  cases b <;> cases h : x.play <;> simp [rearm, h]

/-- A check that fails leaves no lane ARMED. -/
theorem play_rearm_false (x : Tracker) : (rearm false x).play ≠ .armed := by
  cases h : x.play <;> simp [rearm, h]

section
variable (s : State) (l k : LaneId)

theorem modTracker_congr {f g : Tracker → Tracker} (h : f (s.tracker l) = g (s.tracker l)) :
    s.modTracker l f = s.modTracker l g := by
  simp only [State.modTracker, h]

theorem armingCheck_eq : s.armingCheck l = s.modTracker l (rearm (s.armingPasses l)) := by
  have stands : rearm (s.armingPasses l) (s.tracker l) = s.tracker l →
      s = s.modTracker l (rearm (s.armingPasses l)) := fun h =>
    (modTracker_tracker s l).symm.trans (modTracker_congr s l h.symm)
  unfold State.armingCheck
  split
  · next h =>
    split
    · next passes => exact modTracker_congr s l (by simp [rearm, h, passes])
    · next fails => exact stands (by simp [rearm, h, fails])
  · next h =>
    split
    · next passes => exact stands (by simp [rearm, h, passes])
    · next fails => exact modTracker_congr s l (by simp [rearm, h, fails])
  all_goals next h => exact stands (by simp [rearm, h])

/-- R90: what an arming check looks at. -/
theorem armingPasses_congr {s t : State} {l : LaneId} (entry : t.entry l = s.entry l)
    (supervisor : t.supervisor l = s.supervisor l) (holder : t.holderPlays l = s.holderPlays l)
    (faults : (t.lane l).faults = (s.lane l).faults)
    (pair : t.pair (pairOf l) = s.pair (pairOf l)) : t.armingPasses l = s.armingPasses l := by
  have below := (faultsOn_congr faults (congrArg Pair.faults pair)).1
  have ret : t.ballReturn (pairOf l) = s.ballReturn (pairOf l) := congrArg Pair.ballReturn pair
  simp only [State.armingPasses, entry, supervisor, holder, below, ret]

/-- R90: no arming check looks at a tracker. -/
@[simp] theorem armingPasses_modTracker (f : Tracker → Tracker) :
    (s.modTracker k f).armingPasses l = s.armingPasses l := by
  refine armingPasses_congr (entry_modTracker ..) (supervisor_modTracker ..) ?_ ?_ rfl
  · simp only [State.holderPlays, State.holder, entry_modTracker, session_modTracker]
  · rw [lane_modTracker]
    split <;> rfl

/-- R90, R150: nor at a billing state. -/
@[simp] theorem armingPasses_tellCredit : (s.tellCredit k).armingPasses l = s.armingPasses l := by
  have entry : (s.tellCredit k).entry l = s.entry l := congrArg Lane.entry (lane_tellCredit s k l)
  refine armingPasses_congr entry (congrArg Lane.supervisor (lane_tellCredit s k l)) ?_
    (congrArg Lane.faults (lane_tellCredit s k l)) (pair_tellCredit s k _)
  simp only [State.holderPlays, State.holder, entry]
  cases (s.entry l).holder with
  | none => rfl
  | some i =>
    dsimp only
    cases hs : s.session i with
    | none => rw [session_tellCredit_none s k hs]
    | some x =>
      obtain ⟨b, e⟩ := session_tellCredit_some s k hs
      rw [e]
      rfl

/-- R90: the arming checks of a pair, as functions of its trackers. -/
theorem armPair_eq (p : PairId) : s.armPair p =
    (s.modTracker (laneAt p .left) (rearm (s.armingPasses (laneAt p .left)))).modTracker
      (laneAt p .right) (rearm (s.armingPasses (laneAt p .right))) := by
  rw [State.armPair, armingCheck_eq, armingCheck_eq, armingPasses_modTracker]

/-- R130: at capacity no lane of the pair stays ARMED. -/
theorem armPair_full {p : PairId} (full : (s.ballReturn p).capacity ≤ (s.ballReturn p).track.length)
    (d : Side) : ((s.armPair p).tracker (laneAt p d)).play ≠ .armed := by
  have fails : ∀ c, s.armingPasses (laneAt p c) = false := fun c => by
    have : decide ((s.ballReturn p).track.length < (s.ballReturn p).capacity) = false :=
      decide_eq_false (by omega)
    simp only [State.armingPasses, pairOf_laneAt, this, Bool.and_false, Bool.false_and]
  rw [armPair_eq, fails, fails, tracker_modTracker]
  split
  · exact play_rearm_false _
  · next other =>
    rw [tracker_modTracker, if_pos (by cases d <;> simp_all)]
    exact play_rearm_false _

theorem pairs_armPair (p : PairId) : (s.armPair p).pairs = s.pairs := by rw [armPair_eq]; rfl

theorem notices_armPair (p : PairId) : (s.armPair p).notices = s.notices := by rw [armPair_eq]; rfl

end

end Sys2Proof.Machine
end

section
/-! SUPPORT. `CreditFollows` (R112, R150): what decisions about a pair, with the credit states that follow
them, compose to, and the operations that keep to it. -/

namespace Sys2Proof.Machine

open Sys2Proof

/-- Decisions about the equipment of a pair change no session. -/
theorem OnPair.creditFollows {p : PairId} {s t : State} (h : OnPair p s t) : CreditFollows p s t where
  others := by rw [h.others]
  lanes := h.lanes
  pairs := h.pairs
  entry := h.entry
  meter := h.meter
  filter := h.filter
  free := fun i hi => (h.session i).trans hi
  used := fun i x hx => ⟨x, (h.session i).trans hx, rfl⟩

/-- A change of a return with its arming changes no session. -/
theorem ReturnAlone.creditFollows {p : PairId} {s t : State} (h : ReturnAlone p s t) :
    CreditFollows p s t where
  others := by rw [h.others]
  lanes := fun k hk => by
    rw [h.lanes, (h.trackers k).resolve_right fun c => hk c.1]
    rfl
  pairs := fun q hq => (h.pairs q).trans (if_neg hq)
  entry := fun k => by rw [State.entry, h.lanes]; rfl
  meter := fun k => by rw [State.meter, h.lanes]; rfl
  filter := fun q => by
    rw [State.filter, h.pairs]
    split
    · next e => rw [e]; rfl
    · rfl
  free := fun i hi => by rw [h.others]; exact hi
  used := fun i x hx => ⟨x, by rw [h.others]; exact hx, rfl⟩

namespace CreditFollows

variable {p : PairId} {s t u : State}

theorem trans (h : CreditFollows p s t) (k : CreditFollows p t u) : CreditFollows p s u where
  others := by rw [k.others, h.others]
  lanes := fun x hx => (k.lanes x hx).trans (h.lanes x hx)
  pairs := fun q hq => (k.pairs q hq).trans (h.pairs q hq)
  entry := fun x => (k.entry x).trans (h.entry x)
  meter := fun x => (k.meter x).trans (h.meter x)
  filter := fun q => (k.filter q).trans (h.filter q)
  free := fun i hi => k.free i (h.free i hi)
  used := fun i x hx => by
    obtain ⟨y, hy, e⟩ := h.used i x hx
    obtain ⟨z, hz, e'⟩ := k.used i y hy
    exact ⟨z, hz, by rw [SameButBillingState, e', e]⟩

/-- Nobody comes to leave by it. -/
theorem noneLeaving (h : CreditFollows p s t) (stays : s.NoneLeaving) : t.NoneLeaving :=
  stays.of_states fun i x hx => by
    cases hs : s.session i with
    | none => rw [h.free i hs] at hx; cases hx
    | some y =>
      obtain ⟨z, hz, e⟩ := h.used i y hs
      rw [hz] at hx
      cases hx
      exact ⟨y, rfl, by rw [e]⟩

theorem tellCredit (h : CreditFollows p s u) (l : LaneId) : CreditFollows p s (u.tellCredit l) :=
  h.trans {
    others := by rw [tellCredit_others]
    lanes := fun k _ => lane_tellCredit u l k
    pairs := fun q _ => pair_tellCredit u l q
    entry := fun k => congrArg Lane.entry (lane_tellCredit u l k)
    meter := fun k => congrArg Lane.meter (lane_tellCredit u l k)
    filter := fun q => congrArg Pair.filter (pair_tellCredit u l q)
    free := fun _ hi => session_tellCredit_none u l hi
    used := fun _ x hx => by
      obtain ⟨b, e⟩ := session_tellCredit_some u l hx
      exact ⟨_, e, sameBut_billedAs b x⟩ }

/-- The pair's records replaced, with the filter as it was. -/
theorem setPair (h : CreditFollows p s u) (x : Pair) (hx : x.filter = u.filter p) :
    CreditFollows p s (u.setPair p x) :=
  h.trans {
    others := rfl
    lanes := fun _ _ => rfl
    pairs := fun q hq => (pair_setPair ..).trans (if_neg hq)
    entry := fun _ => rfl
    meter := fun _ => rfl
    filter := fun q => by
      rw [State.filter, pair_setPair]
      split
      · next e => rw [e]; exact hx
      · rfl
    free := fun _ hi => hi
    used := fun _ x hx => ⟨x, hx, rfl⟩ }

end CreditFollows

end Sys2Proof.Machine
end

section
/-! SUPPORT. A class raised into a pair's set with a mild action, and the end of a pair's condition (R109 to
R114): what they leave of the pair's return, its faults and its trackers. -/

namespace Sys2Proof.Machine

open Sys2Proof

/-! ## A mild raise and the arming that follows (R109, R130) -/

section
variable {s : State} {p : PairId}

theorem pairs_tellFlags (b : BallReturn) : (s.tellFlags p b).pairs = s.pairs := by
  rw [tellFlags_notices]

/-- What is pending stays pending when the flags are told. -/
theorem keys_tellFlags (b : BallReturn) {k : Nat × NoticeKind} (h : k ∈ s.notices.map noticeKey) :
    k ∈ (s.tellFlags p b).notices.map noticeKey := by
  unfold State.tellFlags
  split
  · exact h
  · exact mem_keys_addNotice (.inl h)

theorem armingPasses_tellFlags (b : BallReturn) (l : LaneId) :
    (s.tellFlags p b).armingPasses l = s.armingPasses l := by
  rw [tellFlags_notices]
  rfl

/-- R109 to R112, R130: a mild RETURN_JAM and the arming checks after it. -/
structure JamRaised (p : PairId) (s t : State) : Prop where
  pairs : t.pairs = (s.pairFaultEntered p .returnJam).pairs
  trackers : ∀ k, t.tracker k = s.tracker k ∨ pairOf k = p ∧ Rearmed (s.tracker k) (t.tracker k)
  follows : CreditFollows p s t
  keys : ∀ k ∈ s.notices.map noticeKey, k ∈ t.notices.map noticeKey

theorem raisePair_returnChanged (before : BallReturn)
    (mild : s.faultTable[faultIndex .returnJam].action = .none ∨
      s.faultTable[faultIndex .returnJam].action = .hold) :
    JamRaised p s ((s.raisePair p .returnJam).returnChanged p before) := by
  have entered : CreditFollows p s (s.pairFaultEntered p .returnJam) :=
    have entry : CreditFollows p s (s.setPairFaults p
        (raiseInto s.faultTable[faultIndex .returnJam] .returnJam s.deviceTime (s.pair p).faults)) :=
      (OnPair.refl p s).creditFollows.setPair _ rfl
    entry.trans ((OnPair.refl p _).raiseWith _ _ _).creditFollows
  have lanes : ∀ k, (s.pairFaultEntered p .returnJam).tracker k = s.tracker k := fun _ => rfl
  have notices : ∀ k ∈ s.notices.map noticeKey,
      k ∈ (s.pairFaultEntered p .returnJam).notices.map noticeKey :=
    fun k hk => mem_keys_addNotice (.inl hk)
  rw [raisePair_mild mild]
  generalize he : s.pairFaultEntered p .returnJam = e at *
  let y := (((e.tellCredit (laneAt p .left)).armingCheck (laneAt p .left)).tellCredit
    (laneAt p .right)).armingCheck (laneAt p .right)
  have armed : y = (((e.tellCredit (laneAt p .left)).modTracker (laneAt p .left)
      (rearm (e.armingPasses (laneAt p .left)))).tellCredit (laneAt p .right)).modTracker
        (laneAt p .right) (rearm (e.armingPasses (laneAt p .right))) := by
    simp only [y, armingCheck_eq, armingPasses_modTracker, armingPasses_tellCredit]
  have again : y.returnChanged p before = ((y.tellFlags p before).modTracker (laneAt p .left)
      (rearm (e.armingPasses (laneAt p .left)))).modTracker (laneAt p .right)
        (rearm (e.armingPasses (laneAt p .right))) := by
    rw [State.returnChanged, armPair_eq, armingPasses_tellFlags, armingPasses_tellFlags, armed]
    simp only [armingPasses_modTracker, armingPasses_tellCredit]
  have tracker : ∀ k, y.tracker k = if k = laneAt p .right then
      rearm (e.armingPasses (laneAt p .right)) (s.tracker k) else if k = laneAt p .left then
      rearm (e.armingPasses (laneAt p .left)) (s.tracker k) else s.tracker k := fun k => by
    have told : ∀ (v : State) l, (v.tellCredit l).tracker k = v.tracker k := fun v l =>
      congrArg Lane.tracker (lane_tellCredit v l k)
    have ne : laneAt p .right ≠ laneAt p .left := by simp
    rw [armed, tracker_modTracker, told, tracker_modTracker, told, lanes]
    split
    · next e => rw [if_neg (e ▸ ne)]
    · rfl
  constructor
  case pairs =>
    rw [State.returnChanged, pairs_armPair, pairs_tellFlags]
    show y.pairs = _
    rw [armed]
    show (State.tellCredit _ _).pairs = _
    rw [tellCredit_others]
    show (State.tellCredit _ _).pairs = _
    rw [tellCredit_others, he]
  case trackers =>
    intro k
    show (y.returnChanged p before).tracker k = _ ∨ _ ∧ Rearmed _ ((y.returnChanged p before).tracker k)
    have flags : (y.tellFlags p before).tracker k = y.tracker k := by rw [tellFlags_notices]; rfl
    rw [again, tracker_modTracker, tracker_modTracker, flags, tracker]
    split
    · next e =>
      refine .inr ⟨e ▸ pairOf_laneAt .., ?_⟩
      rw [if_neg (by rw [e]; simp), rearm_rearm]
      exact rearmed_rearm _ _
    · split
      · next e =>
        refine .inr ⟨e ▸ pairOf_laneAt .., ?_⟩
        rw [rearm_rearm]
        exact rearmed_rearm _ _
      · exact .inl rfl
  case follows =>
    have left := (entered.tellCredit (laneAt p .left)).trans
      ((OnPair.refl p _).armingCheck (laneAt p .left) (pairOf_laneAt ..)).creditFollows
    have right := (left.tellCredit (laneAt p .right)).trans
      ((OnPair.refl p _).armingCheck (laneAt p .right) (pairOf_laneAt ..)).creditFollows
    exact right.trans ((OnPair.refl p _).returnChanged p before rfl).creditFollows
  case keys =>
    intro k hk
    rw [State.returnChanged, notices_armPair]
    refine keys_tellFlags before ?_
    rw [notices_armingCheck, notices_tellCredit, notices_armingCheck, notices_tellCredit]
    exact notices k hk

end

end Sys2Proof.Machine
end

section
/-! SUPPORT. The end of a pair's condition (R113, R114): a lane told of a fall runs what it owes, which moves
the lift and its jam watch at most; and what becomes of the entry of the class. -/

namespace Sys2Proof.Machine

open Sys2Proof

/-! ## A fall told to a lane (R111) -/

/-- Decisions about pair `p`, with the credit states that follow, that leave the pair's faults, and of its
return all but the lift and the jam watch. -/
structure FallTold (p : PairId) (s t : State) : Prop where
  follows : CreditFollows p s t
  faults : (t.pair p).faults = (s.pair p).faults
  ballReturn : ∃ used on w,
    t.ballReturn p = { s.ballReturn p with inUse := used, liftOn := on, watch := w }

namespace FallTold

variable {p : PairId} {s t u : State} {l : LaneId}

theorem trans (h : FallTold p s t) (k : FallTold p t u) : FallTold p s u := by
  obtain ⟨used, on, w, e⟩ := h.ballReturn
  obtain ⟨used', on', w', e'⟩ := k.ballReturn
  exact ⟨h.follows.trans k.follows, k.faults.trans h.faults, used', on', w', by rw [e', e]⟩

/-- What leaves the pair's records stands. -/
theorem of_pair (follows : CreditFollows p s t) (pair : t.pair p = s.pair p) : FallTold p s t :=
  ⟨follows, by rw [pair], _, _, _, by rw [State.ballReturn, pair]; rfl⟩

theorem decideLift : FallTold p s (s.decideLift p) :=
  have decided := (OnPair.refl p s).decideLift p rfl
  ⟨decided.creditFollows, decided.pairFaults p, _, _, _, (liftDecided_decideLift s p).ballReturn⟩

theorem armingCheck (hl : pairOf l = p) : FallTold p s (s.armingCheck l) :=
  of_pair ((OnPair.refl p s).armingCheck l hl).creditFollows (pair_armingCheck s l p)

theorem beginSequence (hl : pairOf l = p) (k : Sequence) (m : Option RestartMark) :
    FallTold p s (s.beginSequence l k m) := by
  subst hl
  unfold State.beginSequence
  dsimp only
  split
  · let v := ((s.modSupervisor l (newSequence k m)).place (pairOf l) (pinsetterAddr (sideOf l))
      (sequenceCommand k ((s.supervisor l).cycle + 1))).raiseMachineState l
    have begun : OnPair (pairOf l) s v :=
      (((OnPair.refl _ s).modSupervisor l _ rfl).place _ _ _ rfl).raiseMachineState l rfl
    have placed : FallTold (pairOf l) s v :=
      ⟨begun.creditFollows, begun.pairFaults _, _, _, _,
        ballReturn_place (s.modSupervisor l (newSequence k m)) (pairOf l) _ _⟩
    exact (placed.trans decideLift).trans (armingCheck rfl)
  · exact of_pair (OnPair.refl _ s).creditFollows rfl

theorem runOwed (hl : pairOf l = p) : FallTold p s (s.runOwed l) := by
  have same : FallTold p s s := of_pair (OnPair.refl _ s).creditFollows rfl
  unfold State.runOwed
  split
  · exact same
  · split
    · have owed := fun f => of_pair (p := p) ((OnPair.refl p s).modSupervisor l f hl).creditFollows rfl
      exact (owed _).trans (beginSequence hl _ _)
    · exact same

theorem tellFall (hl : pairOf l = p) : FallTold p s (s.tellFall l) :=
  ((runOwed hl).trans (armingCheck hl)).trans
    (of_pair ((OnPair.refl p _).creditFollows.tellCredit l) (pair_tellCredit _ l p))

end FallTold

/-! ## The entry of the class (R114) -/

section
variable {c : FaultClass} {f : FaultEntry} {before after : List FaultEntry}

/-- The only entry of a class in a set. -/
theorem findFault_only (cls : f.cls = c) (only : ∀ g ∈ before ++ after, g.cls ≠ c) :
    findFault c (before ++ f :: after) = some f := by
  have none_ : before.find? (fun g => g.cls == c) = none :=
    List.find?_eq_none.2 fun g hg => by simpa using only g (List.mem_append_left _ hg)
  rw [findFault, List.find?_append, none_, Option.none_or, List.find?_cons_of_pos (by simp [cls])]

theorem removeFault_only (cls : f.cls = c) (only : ∀ g ∈ before ++ after, g.cls ≠ c) :
    removeFault c (before ++ f :: after) = before ++ after := by
  have keeps : ∀ gs : List FaultEntry, (∀ g ∈ gs, g.cls ≠ c) → gs.filter (fun g => g.cls != c) = gs :=
    fun gs h => List.filter_eq_self.2 fun g hg => by simpa using h g hg
  rw [removeFault, List.filter_append, List.filter_cons_of_neg (by simp [cls]),
    keeps before fun g hg => only g (List.mem_append_left _ hg),
    keeps after fun g hg => only g (List.mem_append_right _ hg)]

theorem latch_only (cls : f.cls = c) (only : ∀ g ∈ before ++ after, g.cls ≠ c) :
    (before ++ f :: after).map (latch c) =
      before ++ { f with present := false, latched := true } :: after := by
  have keeps : ∀ gs : List FaultEntry, (∀ g ∈ gs, g.cls ≠ c) → gs.map (latch c) = gs :=
    fun gs h =>
      (List.map_congr_left (g := id) fun g hg => if_neg (h g hg)).trans (List.map_id gs)
  rw [List.map_append, List.map_cons, latch, if_pos cls,
    keeps before fun g hg => only g (List.mem_append_left _ hg),
    keeps after fun g hg => only g (List.mem_append_right _ hg)]

end

section
variable {s : State} {p : PairId} {c : FaultClass}

/-- A pair's fault set replaced, and its lanes told of the fall. -/
theorem removePairFault_told (h : (findFault c (s.pair p).faults).isSome = true) (cause : ClearCause) :
    FallTold p (s.setPairFaults p (removeFault c (s.pair p).faults)) (s.removePairFault p c cause) := by
  obtain ⟨f, hf⟩ := Option.isSome_iff_exists.1 h
  simp only [State.removePairFault, hf]
  have told : FallTold p (s.setPairFaults p (removeFault c (s.pair p).faults))
      ((s.setPairFaults p (removeFault c (s.pair p).faults)).raisePairCleared p c cause) :=
    .of_pair ((OnPair.refl p _).raisePairCleared p c cause rfl).creditFollows rfl
  exact (told.trans (.tellFall (pairOf_laneAt ..))).trans (.tellFall (pairOf_laneAt ..))

/-- R114: the end of a pair's condition: credit follows, and of the return all but the lift and the jam
watch stands. -/
theorem pairConditionEnds_follows :
    CreditFollows p s (s.pairConditionEnds p c) ∧ ∃ used on w, (s.pairConditionEnds p c).ballReturn p =
      { s.ballReturn p with inUse := used, liftOn := on, watch := w } := by
  have replaced : ∀ fs, CreditFollows p s (s.setPairFaults p fs) :=
    fun fs => (OnPair.refl p s).creditFollows.setPair _ rfl
  have same : ∀ fs, (s.setPairFaults p fs).ballReturn p = s.ballReturn p :=
    fun fs => ballReturn_setPairFaults s p p fs
  unfold State.pairConditionEnds
  split
  · exact ⟨(OnPair.refl p s).creditFollows, _, _, _, rfl⟩
  · next f hf =>
    split
    · exact ⟨replaced _, _, _, _, same _⟩
    · have told := removePairFault_told (by rw [hf]; rfl) .conditionEnded
      obtain ⟨used, on, w, e⟩ := told.ballReturn
      exact ⟨(replaced _).trans told.follows, used, on, w, by rw [e, same]⟩

/-- R114: the entry of the class goes, or latches where its action is STOP or PARK. -/
theorem pairConditionEnds_faults {f : FaultEntry} {before after : List FaultEntry}
    (set : (s.pair p).faults = before ++ f :: after) (cls : f.cls = c)
    (only : ∀ g ∈ before ++ after, g.cls ≠ c) :
    (f.action = .none ∨ f.action = .hold →
      ((s.pairConditionEnds p c).pair p).faults = before ++ after) ∧
    (f.action = .stop ∨ f.action = .park → ((s.pairConditionEnds p c).pair p).faults =
      before ++ { f with present := false, latched := true } :: after) := by
  have found : findFault c (s.pair p).faults = some f := by rw [set, findFault_only cls only]
  have replaced : ∀ fs, ((s.setPairFaults p fs).pair p).faults = fs :=
    fun fs => by rw [State.setPairFaults, pair_setPair_self]
  unfold State.pairConditionEnds
  simp only [found]
  refine ⟨fun mild => ?_, fun severe => ?_⟩
  · have stays : ¬ latches f.action = true := by rcases mild with e | e <;> simp [latches, e]
    rw [if_neg stays, (removePairFault_told (by rw [found]; rfl) .conditionEnded).faults, replaced, set,
      removeFault_only cls only]
  · have latched : latches f.action = true := by rcases severe with e | e <;> simp [latches, e]
    rw [if_pos latched, replaced, set, latch_only cls only]

end

end Sys2Proof.Machine
end

section
/-! SUPPORT. What the Detector Filter hands on (O59): a foul and a pit passage at the lane's tracker, a ball
that enters the track or leaves it, and the rack level (R72 to R74, R124 to R128). -/

namespace Sys2Proof.Machine

open Sys2Proof

/-- A key in the pending notice set is that of a notice there. -/
theorem exists_of_noticeKey {ns : List Notice} {n : Nat} {k : NoticeKind}
    (h : (n, k) ∈ ns.map noticeKey) : ∃ x ∈ ns, x.source = n ∧ payloadKind x.payload = k := by
  obtain ⟨x, hx, key⟩ := List.mem_map.1 h
  obtain ⟨source, kind⟩ := Prod.mk.inj key
  exact ⟨x, hx, source, kind⟩

/-! ## Foul passages (R72) -/

/-- R72: foul detection acts where the holder's terms say so. -/
theorem foulDetected_iff {s : State} {l : LaneId} : s.foulDetected l = true ↔
    ∃ i x, (s.entry l).holder = some i ∧ s.session i = some x ∧ x.terms.foulDetection = true := by
  simp only [State.foulDetected, Option.any_eq_true, Prod.exists, holder_eq_some, and_assoc]

theorem foulPassed (w : State) (l : LaneId) (stamp : NodeTime) :
    FoulPassed l stamp w (w.foulPassage l stamp) := by
  refine ⟨fun ⟨armed, manual, disabled, detects⟩ => ?_, fun ignored => ?_⟩
  · exact if_pos ⟨armed, foulDetected_iff.2 detects, manual, disabled⟩
  · exact if_neg fun ⟨armed, detects, manual, disabled⟩ =>
      ignored ⟨armed, manual, disabled, foulDetected_iff.1 detects⟩

/-! ## Pit passages at the tracker (R73, R74) -/

section
variable (w : State) (l : LaneId) (stamp : NodeTime)

/-- R73, R74: a pit passage changes the lane's tracker, and raises STRAY_BALL at most. -/
theorem pitPassage_eq : w.pitPassage l stamp =
    { w.modTracker l (fun _ => pitTaken w l stamp) with notices := (w.pitPassage l stamp).notices } := by
  have made : ∀ (g : Tracker → Tracker) (ns : List Notice), g (w.tracker l) = pitTaken w l stamp →
      w.pitPassage l stamp = { w.modTracker l g with notices := ns } → w.pitPassage l stamp =
        { w.modTracker l (fun _ => pitTaken w l stamp) with
          notices := (w.pitPassage l stamp).notices } := fun g ns hg e => by
    rw [e, modTracker_congr w l (g := fun _ => pitTaken w l stamp) hg]
  by_cases armed : (w.tracker l).play = .armed
  · refine made _ w.notices ?_ (if_pos armed)
    rw [pitTaken, if_pos armed]
    rfl
  · have stray : w.pitPassage l stamp = w.strayBall l stamp := if_neg armed
    cases state : (w.entry l).state
    case manual | disabled =>
      refine made (fun t => { t with pitCount := t.pitCount + 1 }) w.notices ?_ ?_
      · rw [pitTaken, if_neg armed, state]
      · simp only [stray, State.strayBall, state]
        rfl
    case closed | opened | pairPlay =>
      refine made (fun t => { t with pitCount := t.pitCount + 1, strays := bump t.strays })
        (w.strayBall l stamp).notices ?_ ?_
      · rw [pitTaken, if_neg armed, state]
        rfl
      · simp only [stray, State.strayBall, state]
        rfl

/-- R74: a stray ball of a lane in the desk's hands is told. -/
theorem pitPassage_stray (unarmed : (w.tracker l).play ≠ .armed) (manual : (w.entry l).state ≠ .manual)
    (disabled : (w.entry l).state ≠ .disabled) :
    (laneSource l, .strayBall) ∈ (w.pitPassage l stamp).notices.map noticeKey := by
  rw [State.pitPassage, if_neg unarmed]
  unfold State.strayBall
  split
  · exact mem_keys_addNotice (.inr rfl)
  · exact mem_keys_addNotice (.inr rfl)
  · exact mem_keys_addNotice (.inr rfl)
  · next h => exact absurd h manual
  · next h => exact absurd h disabled

end

/-! ## Pit passages at the track (R124, R128, R130) -/

theorem keys_returnChanged {s : State} {p : PairId} (b : BallReturn) {k : Nat × NoticeKind}
    (h : k ∈ s.notices.map noticeKey) : k ∈ (s.returnChanged p b).notices.map noticeKey := by
  rw [State.returnChanged, notices_armPair]
  exact keys_tellFlags b h

section
variable {p : PairId} {l : LaneId} (v : State)

/-- R124: with room, the ball enters the track, and the jam watch is decided. -/
theorem trackAppend_room (hl : pairOf l = p) (room : (v.ballReturn p).track.length < 16) :
    let r := v.ballReturn p
    let longer := { r with
      track := r.track ++ [⟨l, v.deviceTime⟩], atCapacity := decide (r.capacity ≤ r.track.length + 1) }
    let t := v.trackAppend l
    ReturnAlone p v t ∧ t.ballReturn p = { longer with watch := (t.ballReturn p).watch } ∧
    WatchDecided v.deviceTime ((v.node p laneIoAddr).state = .alive) longer (t.ballReturn p).watch ∧
    (longer.atCapacity = true → ∀ d, (t.tracker (laneAt p d)).play ≠ .armed) ∧
    ∀ k ∈ v.notices.map noticeKey, k ∈ t.notices.map noticeKey := by
  subst hl
  intro r longer t
  let x := v.modReturn (pairOf l) (appendEntry l v.deviceTime)
  have entered : x.ballReturn (pairOf l) = longer := by
    refine (ballReturn_modReturn ..).trans ((if_pos rfl).trans ?_)
    simp [appendEntry, withCapacity, longer, r]
  have node : x.node (pairOf l) laneIoAddr = v.node (pairOf l) laneIoAddr := node_modReturn ..
  have eq : t = (x.decideWatch (pairOf l) false).returnChanged (pairOf l) r := if_pos room
  let f : BallReturn → BallReturn := fun b =>
    let b := appendEntry l v.deviceTime b
    { b with watch := nextWatch (x.jamWatchMayRun (pairOf l)) false b.watchExpired v.deviceTime
               b.jamSeconds b.watch }
  have one : x.decideWatch (pairOf l) false = v.modReturn (pairOf l) f := modReturn_modReturn ..
  obtain ⟨alone, ret⟩ := returnChanged_spec v (pairOf l) f r
  rw [← one, ← eq] at alone ret
  have made : appendEntry l v.deviceTime (v.ballReturn (pairOf l)) = longer :=
    ((ballReturn_modReturn ..).trans (if_pos rfl)).symm.trans entered
  refine ⟨alone, ?_, ?_, fun full d => ?_, fun k hk => ?_⟩
  · rw [ret]
    simp only [f, made]
  · have decided := nextWatch_decided x (pairOf l)
    dsimp only at decided
    rw [entered, node] at decided
    rw [ret]
    simp only [f, made]
    exact decided
  · rw [eq, State.returnChanged]
    have held : ((x.decideWatch (pairOf l) false).tellFlags (pairOf l) r).ballReturn (pairOf l) =
        f (v.ballReturn (pairOf l)) := by
      rw [tellFlags_notices]
      show (x.decideWatch (pairOf l) false).ballReturn (pairOf l) = _
      rw [one, ballReturn_modReturn, if_pos rfl]
    refine armPair_full _ ?_ d
    rw [held]
    simp only [f, made]
    simpa [longer] using full
  · rw [eq]
    exact keys_returnChanged r hk

/-- R124: at 16 entries overflow is set, and RETURN_JAM raised, here with a mild action. -/
theorem trackAppend_overflow (hl : pairOf l = p) (full : 16 ≤ (v.ballReturn p).track.length)
    (mild : v.faultTable[faultIndex .returnJam].action = .none ∨
      v.faultTable[faultIndex .returnJam].action = .hold) :
    let r := v.ballReturn p
    let t := v.trackAppend l
    t.ballReturn p = { r with overflow := true, overflows := min 65535 (r.overflows + 1) } ∧
    (∃ f ∈ (t.pair p).faults, f.cls = .returnJam ∧ f.present = true) ∧
    (∀ k, t.tracker k = v.tracker k ∨ pairOf k = p ∧ Rearmed (v.tracker k) (t.tracker k)) ∧
    CreditFollows p v t ∧ ∀ k ∈ v.notices.map noticeKey, k ∈ t.notices.map noticeKey := by
  subst hl
  intro r t
  let x := v.modReturn (pairOf l) overflowTrack
  have eq : t = (x.raisePair (pairOf l) .returnJam).returnChanged (pairOf l) r :=
    if_neg (Nat.not_lt.2 full)
  have raised := raisePair_returnChanged (s := x) (p := pairOf l) r mild
  have changed : CreditFollows (pairOf l) v x := (OnPair.refl _ v).creditFollows.setPair _ rfl
  have pair : t.pair (pairOf l) = (x.pairFaultEntered (pairOf l) .returnJam).pair (pairOf l) := by
    rw [State.pair, eq, raised.pairs]
    rfl
  rw [← eq] at raised
  refine ⟨?_, ?_, raised.trackers, changed.trans raised.follows, raised.keys⟩
  · rw [State.ballReturn, pair]
    exact (ballReturn_setPairFaults ..).trans ((ballReturn_modReturn ..).trans (if_pos rfl))
  · have faults : (t.pair (pairOf l)).faults = raiseInto x.faultTable[faultIndex .returnJam] .returnJam
        x.deviceTime (x.pair (pairOf l)).faults := by
      rw [pair]
      exact congrArg Pair.faults (pair_setPair_self ..)
    rw [faults]
    exact raiseInto_present _ _ _ _

end

end Sys2Proof.Machine
end

section
/-! SUPPORT. Passages and rack levels handed on, as the statement about detectors tells them (O59): each is
what `PitPassed`, `LiftPassed` and `RackBecomes` say, and lets nobody leave. -/

namespace Sys2Proof.Machine

open Sys2Proof

/-! ## Pit passages (R73, R74, R124) -/

section
variable {p : PairId} {l : LaneId} {w : State} {stamp : NodeTime}

/-- R124: a pit passage whose RETURN_JAM has a severe action is none that the statement tells of. -/
theorem pitPassed_severe (full : ¬ (w.ballReturn p).track.length < 16)
    (severe : ¬ (w.faultTable[faultIndex .returnJam].action = .none ∨
      w.faultTable[faultIndex .returnJam].action = .hold)) (t : State) : PitPassed p l stamp w t :=
  ⟨fun _ _ _ h => (h.elim full severe).elim, fun h => absurd h full, fun _ h => absurd h severe⟩

/-- R73, R74, R124: a pit passage with room in the track, or with a mild RETURN_JAM. -/
theorem pitPassed_mild (hl : pairOf l = p) (mild : (w.ballReturn p).track.length < 16 ∨
      w.faultTable[faultIndex .returnJam].action = .none ∨
      w.faultTable[faultIndex .returnJam].action = .hold) :
    PitPassed p l stamp w (w.handPit l stamp) ∧
      CreditFollows p (w.modTracker l fun _ => pitTaken w l stamp) (w.handPit l stamp) := by
  have stray := pitPassage_stray w l stamp
  have told := pitPassage_eq w l stamp
  let u := w.modTracker l fun _ => pitTaken w l stamp
  obtain ⟨ns, taken⟩ : ∃ ns, w.pitPassage l stamp = { u with notices := ns } := ⟨_, told⟩
  let v : State := { u with notices := ns }
  rw [taken] at stray
  have eq : w.handPit l stamp = v.trackAppend l := by rw [State.handPit, taken]
  have quiet : CreditFollows p u v := (OnPair.of_notices rfl).creditFollows
  rw [eq]
  by_cases room : (w.ballReturn p).track.length < 16
  · obtain ⟨alone, ret, watch, full, keys⟩ := trackAppend_room v hl room
    have alone' : ReturnAlone p u (v.trackAppend l) :=
      ⟨by rw [alone.others], alone.pairs, alone.lanes, alone.trackers⟩
    exact ⟨⟨fun unarmed manual disabled _ =>
        exists_of_noticeKey (keys _ (stray unarmed manual disabled)),
      fun _ => ⟨alone', ret, watch, full⟩, fun h => absurd room (Nat.not_lt.2 h)⟩,
      quiet.trans alone.creditFollows⟩
  · obtain ⟨ret, jam, trackers, follows, keys⟩ :=
      trackAppend_overflow v hl (Nat.not_lt.1 room) (mild.resolve_left room)
    exact ⟨⟨fun unarmed manual disabled _ =>
        exists_of_noticeKey (keys _ (stray unarmed manual disabled)),
      fun h => absurd h room, fun _ _ => ⟨ret, jam, trackers, quiet.trans follows⟩⟩,
      quiet.trans follows⟩

/-- R18, R73, R74, R124: a pit passage, and the lanes tested after it. -/
theorem pitPassed (hl : pairOf l = p) (stays : w.NoneLeaving) :
    PitPassed p l stamp w ((w.handPit l stamp).settlePair p) := by
  by_cases mild : (w.ballReturn p).track.length < 16 ∨
      w.faultTable[faultIndex .returnJam].action = .none ∨
      w.faultTable[faultIndex .returnJam].action = .hold
  · obtain ⟨passed, follows⟩ := pitPassed_mild (stamp := stamp) hl mild
    rw [settlePair_stays (follows.noneLeaving stays)]
    exact passed
  · exact pitPassed_severe (fun h => mild (.inl h)) (fun h => mild (.inr h)) _

end

/-! ## LIFT passages (R125, R128, R129) -/

/-- R128: the jam watch after the oldest entry has left. -/
theorem nextWatch_removed (may : Bool) (now js : Nat) (watch : JamWatch) :
    nextWatch may true false now js watch =
      if may then .running now (now + js * 1000) else pausedWatch watch := by
  cases may <;> cases watch <;> rfl

section
variable {p : PairId} {w : State}

/-- R125: the oldest entry removed, before the end of the jam condition is told. -/
theorem removeEntry_alone {e : TrackEntry} {rest : List TrackEntry}
    (track : (w.ballReturn p).track = e :: rest) :
    let r := w.ballReturn p
    let shorter := { r with
      track := rest, watchExpired := false, overflow := false
      atCapacity := decide (r.capacity ≤ rest.length) }
    ∃ v, w.removeEntry p true = v.jamEnds p r ∧ ReturnAlone p w v ∧
      v.ballReturn p = { shorter with
        watch := if rest ≠ [] ∧ r.liftOn = true ∧ r.rackFull = false ∧
            (w.node p laneIoAddr).state = .alive then
          .running w.deviceTime (w.deviceTime + r.jamSeconds * 1000) else pausedWatch r.watch } := by
  intro r shorter
  let x := w.modReturn p removeOldest
  have removed : removeOldest (w.ballReturn p) = shorter := by
    simp [removeOldest, withCapacity, track, shorter, r]
  have held : x.ballReturn p = shorter :=
    (ballReturn_modReturn ..).trans ((if_pos rfl).trans removed)
  have node : x.node p laneIoAddr = w.node p laneIoAddr := node_modReturn ..
  let f : BallReturn → BallReturn := fun b =>
    let b := removeOldest b
    { b with watch := nextWatch (x.jamWatchMayRun p) true b.watchExpired w.deviceTime b.jamSeconds
               b.watch }
  have one : x.decideWatch p true = w.modReturn p f := modReturn_modReturn ..
  obtain ⟨alone, ret⟩ := returnChanged_spec w p f r
  refine ⟨(w.modReturn p f).returnChanged p r, ?_, alone, ?_⟩
  · rw [← one]
    rfl
  · have may : x.jamWatchMayRun p = true ↔ rest ≠ [] ∧ r.liftOn = true ∧ r.rackFull = false ∧
        (w.node p laneIoAddr).state = .alive := by
      simp [State.jamWatchMayRun, held, node, shorter, and_assoc]
    rw [ret]
    simp only [f, removed]
    rw [show shorter.watchExpired = false from rfl, nextWatch_removed]
    simp only [may]
    rfl

theorem liftPassed (stays : w.NoneLeaving) : LiftPassed p w ((w.liftPassage p).settlePair p) := by
  let r := w.ballReturn p
  cases track : r.track with
  | nil =>
    have empty : w.liftPassage p = w.modReturn p fun r => { r with phantoms := bump r.phantoms } :=
      if_pos (by rw [show (w.ballReturn p).track = [] from track]; rfl)
    refine ⟨fun _ => ?_, fun e rest h => absurd (track.symm.trans h) (by simp)⟩
    rw [empty]
    exact settlePair_stays (s := w.modReturn p _) stays
  | cons e rest =>
    refine ⟨fun h => absurd (track.symm.trans h) (by simp), fun e' rest' h => ?_⟩
    obtain ⟨rfl, rfl⟩ := List.cons.inj (track.symm.trans h)
    obtain ⟨v, eq, alone, ret⟩ := removeEntry_alone track
    have lifted : w.liftPassage p = v.jamEnds p r :=
      (if_neg (by rw [show (w.ballReturn p).track = _ from track]; simp)).trans eq
    have gone : jamCondition (v.ballReturn p) = false := by rw [ret]; rfl
    have jam : jamCondition r = true ↔ r.watchExpired = true ∨ r.overflow = true := by
      simp [jamCondition]
    by_cases jammed : r.watchExpired = true ∨ r.overflow = true
    · have ends : w.liftPassage p = v.pairConditionEnds p .returnJam :=
        lifted.trans (if_pos ⟨jam.2 jammed, by simp [gone]⟩)
      obtain ⟨follows, used, on, watch, ret'⟩ := pairConditionEnds_follows (s := v) (p := p)
        (c := .returnJam)
      have follows' := alone.creditFollows.trans follows
      rw [ends, settlePair_stays (follows'.noneLeaving stays), ret', ret]
      have same : (v.pair p).faults = (w.pair p).faults := by rw [alone.pairs, if_pos rfl]
      refine ⟨rfl, rfl, rfl, rfl, fun h => absurd jammed h, fun _ =>
        ⟨follows', fun before f after set cls only => ?_⟩⟩
      exact pairConditionEnds_faults (same.trans set) cls only
    · have stands : w.liftPassage p = v := lifted.trans (if_neg fun h => jammed (jam.1 h.1))
      rw [stands, settlePair_stays (alone.creditFollows.noneLeaving stays), ret]
      refine ⟨rfl, rfl, rfl, rfl, fun _ => ⟨alone, rfl, fun may => if_pos may, fun may => ?_⟩,
        fun h => absurd h jammed⟩
      refine (if_neg may).trans ?_
      cases r.watch <;> rfl

end

/-! ## The rack level (R126 to R128) -/

/-- R128: a watch decided twice is decided once. -/
theorem WatchDecided.again {now : Nat} {alive : Prop} {r : BallReturn} {w v : JamWatch}
    (h : WatchDecided now alive r w) (k : WatchDecided now alive { r with watch := w } v) :
    WatchDecided now alive r v := by
  obtain ⟨expired, runs, pauses⟩ := h
  obtain ⟨expired', runs', pauses'⟩ := k
  refine ⟨expired', fun off may => ?_, fun off may => ?_⟩
  · rw [runs' off may, runs off may]
    cases r.watch <;> rfl
  · rw [pauses' off may, pauses off may]
    cases r.watch <;> rfl

section
variable (s : State) (p : PairId)

theorem ballReturn_raiseReturnState : (s.raiseReturnState p).ballReturn p = s.ballReturn p := rfl
theorem poller_raiseReturnState : (s.raiseReturnState p).poller p = s.poller p := rfl

/-- R127: the lift speaks to its node where its level changes and the node is ALIVE. -/
theorem poller_decideLift :
    (liftWanted s p = (s.ballReturn p).liftOn ∨ (s.node p laneIoAddr).state ≠ .alive →
      (s.decideLift p).poller p = s.poller p) ∧
    (liftWanted s p ≠ (s.ballReturn p).liftOn → (s.node p laneIoAddr).state = .alive →
      (s.decideLift p).poller p = (s.place p laneIoAddr (.setOutputs (liftWanted s p))).poller p) := by
  let used := s.modReturn p fun r => { r with inUse := s.pairInUse p }
  let turned := (used.modReturn p fun r => { r with liftOn := liftWanted s p }).raiseReturnState p
  have poller : turned.poller p = s.poller p := by
    rw [poller_raiseReturnState, poller_modReturn, poller_modReturn]
  have node : ∀ a, turned.node p a = s.node p a := fun a => by rw [State.node, poller]; rfl
  have outputs : (turned.ballReturn p).liftOn = liftWanted s p := by
    rw [ballReturn_raiseReturnState, ballReturn_modReturn, if_pos rfl]
  have moves : liftWanted s p ≠ (s.ballReturn p).liftOn →
      (s.decideLift p).poller p = (turned.placeOutputs p).poller p := fun h => by
    rw [show s.decideLift p = (turned.placeOutputs p).decideWatch p false from if_neg h]
    exact poller_modReturn ..
  refine ⟨fun h => ?_, fun changed alive => ?_⟩
  · by_cases same : liftWanted s p = (s.ballReturn p).liftOn
    · rw [show s.decideLift p = used from if_pos same]
      exact poller_modReturn ..
    · rw [moves same, placeOutputs_silent turned p (by rw [node]; exact h.resolve_left same), poller]
  · rw [moves changed, State.placeOutputs, if_pos (by rw [node]; exact alive), outputs]
    unfold State.place
    rw [node]
    split
    · simp only [State.modNode, poller_modPoller, poller]
    · exact poller

/-- R127: the state of the lane I/O node is no matter of the lift. -/
theorem nodeState_decideLift :
    ((s.decideLift p).node p laneIoAddr).state = (s.node p laneIoAddr).state := by
  obtain ⟨stands, moves⟩ := poller_decideLift s p
  have node : ∀ {t u : State}, t.poller p = u.poller p → t.node p laneIoAddr = u.node p laneIoAddr :=
    fun h => by simp only [State.node, h]
  by_cases h : liftWanted s p = (s.ballReturn p).liftOn ∨ (s.node p laneIoAddr).state ≠ .alive
  · rw [node (stands h)]
  · obtain ⟨changed, alive⟩ := not_or.1 h
    rw [node (moves changed (not_not.1 alive))]
    unfold State.place
    split
    · rw [node_modNode_self]
      rfl
    · rfl

end

section
variable {p : PairId} {full : Bool} {w : State}

theorem rackBecomes : RackBecomes p full w (w.rackLevel p full) := by
  refine ⟨fun same => if_pos same, fun other => ?_⟩
  let b := (w.modReturn p fun r => { r with rackFull := full }).raiseReturnState p
  let v := b.decideLift p
  have eq : w.rackLevel p full = v.decideWatch p false := if_neg other
  have decided : OnPair p w (w.rackLevel p full) := (OnPair.refl p w).rackLevel p full rfl
  have bRet : b.ballReturn p = { w.ballReturn p with rackFull := full } := by
    rw [ballReturn_raiseReturnState, ballReturn_modReturn, if_pos rfl]
  have bPoller : b.poller p = w.poller p := by rw [poller_raiseReturnState, poller_modReturn]
  have bNode : b.node p laneIoAddr = w.node p laneIoAddr := by rw [State.node, bPoller]; rfl
  have wanted : liftWanted b p = (w.pairInUse p && !full) := by
    rw [liftWanted, bRet]
    rfl
  have lift := liftDecided_decideLift b p
  have moved : liftMoved b p = { w.ballReturn p with
      rackFull := full, inUse := w.pairInUse p, liftOn := w.pairInUse p && !full } := by
    rw [liftMoved, bRet, wanted]
    rfl
  have time : v.deviceTime = w.deviceTime := by
    rw [show v = b.decideLift p from rfl, ((OnPair.refl p b).decideLift p rfl).others]
    rfl
  have alive : (v.node p laneIoAddr).state = (w.node p laneIoAddr).state :=
    (nodeState_decideLift b p).trans (by rw [bNode])
  have lanes : (w.rackLevel p full).lanes = w.lanes := by
    rw [eq]
    exact lanes_decideLift b p
  have poller : (w.rackLevel p full).poller p = v.poller p := by
    rw [eq]
    exact poller_modReturn ..
  have onOff : (b.ballReturn p).liftOn = (w.ballReturn p).liftOn := by rw [bRet]
  obtain ⟨stands, moves⟩ := poller_decideLift b p
  rw [wanted, onOff, bNode, bPoller] at stands
  rw [wanted, onOff, bNode] at moves
  have ret : (w.rackLevel p full).ballReturn p = { v.ballReturn p with
      watch := nextWatch (v.jamWatchMayRun p) false (v.ballReturn p).watchExpired v.deviceTime
        (v.ballReturn p).jamSeconds (v.ballReturn p).watch } := by
    rw [eq]
    exact (ballReturn_modReturn ..).trans (if_pos rfl)
  have watch := nextWatch_decided v p
  dsimp only at watch
  rw [alive, time] at watch
  refine ⟨?_, decided.pairs, decided.pairFaults p, decided.filter p, ?_, ?_, ?_, fun h => ?_,
    fun changed on empty => ?_⟩
  · rw [decided.others, lanes]
  · rw [ret, lift.ballReturn, moved]
  · rw [ret, time]
    by_cases same : liftWanted b p = (b.ballReturn p).liftOn
    · have vRet : v.ballReturn p = liftMoved b p := by
        rw [lift.ballReturn, (lift.stands same).1]
        rfl
      rw [← moved, ← vRet]
      exact watch
    · have first := lift.watch same
      rw [bNode, moved] at first
      rw [lift.ballReturn, moved] at watch
      refine WatchDecided.again first ?_
      rw [lift.ballReturn, moved]
      exact watch
  · have raised : (pairSource p, .returnState) ∈ b.notices.map noticeKey := mem_keys_addNotice (.inr rfl)
    rw [eq]
    exact exists_of_noticeKey (((Decides.refl.decideLift (p := p) (s := b)).modReturn _).keys raised)
  · rw [poller]
    exact stands h
  · rw [poller, moves changed on, State.place, if_pos (slotTakes_of_empty (bNode ▸ empty) _)]
    simp only [State.modNode, poller_modPoller, bPoller]
    rfl

/-- R18: nobody leaves a lane by a rack level. -/
theorem rackSettled (stays : w.NoneLeaving) :
    RackBecomes p full w ((w.rackLevel p full).settlePair p) := by
  rw [settlePair_stays (OnPair.noneLeaving ((OnPair.refl p w).rackLevel p full rfl) stays)]
  exact rackBecomes

end

end Sys2Proof.Machine
end

section
/-! SUPPORT. One active detector in the midst of an answer (O59): with every other detector CLEAR, what a
transition and node now make of its record, and what they declare (R65 to R67). -/

namespace Sys2Proof.Machine

open Sys2Proof

/-! ## The filter in the midst of an answer -/

/-- The filter while an answer is taken, detector `e` in record `x`, with what has been declared. -/
def midst (f : Filter) (e : Detector) (x : DetectorState) (latest : NodeTime)
    (declared : List Declaration) : Taking :=
  ⟨f.setDetector e x, latest, declared, []⟩

section
variable {f : Filter} {e : Detector} {x : DetectorState} {u : NodeTime} {ds : List Declaration}

@[simp] theorem detector_midst : (midst f e x u ds).filter.detector e = x := by simp [midst]

theorem debounce_midst : (midst f e x u ds).filter.debounce = f.debounce := debounce_setDetector ..

/-- Another record in the place of the detector's. -/
theorem midst_setDetector (y : DetectorState) :
    { midst f e x u ds with filter := (midst f e x u ds).filter.setDetector e y } = midst f e y u ds := by
  simp [midst]

theorem midst_detector (f : Filter) (e : Detector) (u : NodeTime) :
    midst f e (f.detector e) u [] = ⟨f, u, [], []⟩ := by
  simp [midst]

/-- The counters of a filter lie beside its detectors. -/
theorem midst_mismatches (n : Nat) :
    ({ midst f e x u ds with filter := { (midst f e x u ds).filter with mismatches := n } } : Taking) =
      midst { f with mismatches := n } e x u ds := by
  cases e <;> rfl

theorem midst_discarded (n : Nat) :
    ({ midst f e x u ds with filter := { (midst f e x u ds).filter with discarded := n } } : Taking) =
      midst { f with discarded := n } e x u ds := by
  cases e <;> rfl

end

/-! ## A wait settled (R66) -/

/-- R66: at a time, the wait of a detector in record `x` is settled to record `y`, with declarations. -/
def Settles (b : Debounce) (e : Detector) (t : NodeTime) (x y : DetectorState)
    (ds : List Declaration) : Prop :=
  ∀ f u before, f.debounce = b →
    settleWait e t (midst f e x u before) = midst f e y u (before ++ ds)

/-- R66: what the re-arming of a detector declares, with its release edge and its declaration time. -/
def rearming (e : Detector) (stamp at_ : NodeTime) : List Declaration :=
  if e = .rack then [.rackClear stamp at_] else []

section
variable {b : Debounce} {e : Detector} {t : NodeTime} {x : DetectorState}

theorem settles_none (h : x.state = .clear ∨ x.state = .dark) : Settles b e t x x [] :=
  fun f u before _ => by
    rw [settleWait_none (by rw [detector_midst]; exact h), List.append_nil]

theorem settles_pressing (h : x.state = .pressWait) (hw : ¬ debounceOf b e ≤ (t - x.darkEdge).toNat) :
    Settles b e t x x [] := fun f u before hb => by
  rw [settleWait_pressing (by rw [detector_midst]; exact h)
    (by rw [detector_midst, debounce_midst, hb]; exact hw), List.append_nil]

theorem settles_pressed (h : x.state = .pressWait) (hw : debounceOf b e ≤ (t - x.darkEdge).toNat) :
    Settles b e t x { x with state := .dark, passages := bump x.passages }
      [.passage e x.darkEdge (x.darkEdge + BitVec.ofNat 16 (debounceOf b e))] := fun f u before hb => by
  have settled := settleWait_pressed (d := e) (t := t) (k := midst f e x u before)
    (by rw [detector_midst]; exact h) (by rw [detector_midst, debounce_midst, hb]; exact hw)
  rw [detector_midst, debounce_midst, hb] at settled
  rw [settled]
  simp [midst]

theorem settles_releasing (h : x.state = .releaseWait)
    (hw : ¬ debounceOf b e ≤ (t - x.releaseEdge).toNat) : Settles b e t x x [] := fun f u before hb => by
  rw [settleWait_releasing (by rw [detector_midst]; exact h)
    (by rw [detector_midst, debounce_midst, hb]; exact hw), List.append_nil]

theorem settles_released (h : x.state = .releaseWait) (free : x.blocked = false)
    (hw : debounceOf b e ≤ (t - x.releaseEdge).toNat) :
    Settles b e t x { x with state := .clear }
      (rearming e x.releaseEdge (x.releaseEdge + BitVec.ofNat 16 (debounceOf b e))) :=
  fun f u before hb => by
    have settled := settleWait_released (d := e) (t := t) (k := midst f e x u before)
      (by rw [detector_midst]; exact h) (by rw [detector_midst]; exact free)
      (by rw [detector_midst, debounce_midst, hb]; exact hw)
    rw [detector_midst, debounce_midst, hb] at settled
    rw [settled]
    simp [midst, rearming]

end

/-! ## The blocked test, edges and node now (R66 to R68) -/

/-- R68: a DARK detector that is not blocked lies within its blocked limit at a time. -/
def WithinLimit (e : Detector) (t : NodeTime) (x : DetectorState) : Prop :=
  x.state = .dark → x.blocked = false → ∀ n, blockedLimit e = some n → (t - x.darkSince).toNat ≤ n

/-- A detector that is not DARK meets the blocked limit. -/
theorem withinLimit_of_ne {e : Detector} {t : NodeTime} {x : DetectorState} (h : x.state ≠ .dark) :
    WithinLimit e t x := fun dark => absurd dark h

section
variable {f : Filter} {e : Detector} {t now u : NodeTime} {x y : DetectorState}
  {before ds : List Declaration} {dark : Bool} {levels : Byte}

theorem testBlocked_midst (h : WithinLimit e t x) :
    testBlocked e t (midst f e x u ds) = midst f e x u ds :=
  testBlocked_passes (by rw [detector_midst]; exact h)

/-- R66: an edge moves the record that the settled wait leaves. -/
theorem takeEdge_midst (settled : Settles f.debounce e t x y ds) (first : WithinLimit e t y)
    (then_ : WithinLimit e t (applyEdge dark t y)) :
    takeEdge e dark t (midst f e x u before) = midst f e (applyEdge dark t y) u (before ++ ds) := by
  simp only [takeEdge, settled f u before rfl, testBlocked_midst first, detector_midst, midst_setDetector,
    testBlocked_midst then_]

/-- R67: a level that agrees with the settled record. -/
theorem applyNodeNow_agrees (settled : Settles f.debounce e now x y ds) (limit : WithinLimit e now y)
    (agrees : impliedDark y.state = levelOf levels e) :
    applyNodeNow now levels (midst f e x u before) e = midst f e y u (before ++ ds) := by
  simp only [applyNodeNow, settled f u before rfl, testBlocked_midst limit, detector_midst, if_pos agrees]

/-- R67: a level that differs from the record counts a mismatch, and is an edge at node now. -/
theorem applyNodeNow_differs (settled : Settles f.debounce e now x x []) (limit : WithinLimit e now x)
    (differs : impliedDark x.state ≠ levelOf levels e)
    (then_ : WithinLimit e now (applyEdge (levelOf levels e) now x)) :
    applyNodeNow now levels (midst f e x u before) e =
      midst { f with mismatches := bump f.mismatches } e (applyEdge (levelOf levels e) now x) u before := by
  have count : (midst f e x u before).filter.mismatches = f.mismatches := by cases e <;> rfl
  simp only [applyNodeNow, settled f u before rfl, List.append_nil, testBlocked_midst limit,
    detector_midst, if_neg differs, count, midst_mismatches]
  rw [takeEdge_midst (f := { f with mismatches := bump f.mismatches }) settled limit then_,
    List.append_nil]

/-- R66: a transition before the latest node time is discarded. -/
theorem takeTransition_late (late : 1 ≤ (u - t).toNat ∧ (u - t).toNat ≤ 30000) :
    takeTransition (midst f e x u ds) ⟨some e, dark, t⟩ =
      midst { f with discarded := bump f.discarded } e x u ds := by
  have count : (midst f e x u ds).filter.discarded = f.discarded := by cases e <;> rfl
  have before : liesBefore (midst f e x u ds).latest t = true := decide_eq_true late
  simp only [takeTransition, before, if_true, count, midst_discarded]

/-- R66: a repeated level is a glitch. -/
theorem takeTransition_repeated (inTime : ¬ (1 ≤ (u - t).toNat ∧ (u - t).toNat ≤ 30000))
    (repeated : impliedDark x.state = dark) :
    takeTransition (midst f e x u ds) ⟨some e, dark, t⟩ =
      midst f e { x with glitches := bump x.glitches } u ds := by
  have notBefore : liesBefore (midst f e x u ds).latest t = false := decide_eq_false inTime
  simp only [takeTransition, notBefore, Bool.false_eq_true, if_false, detector_midst, if_pos repeated,
    midst_setDetector]

/-- R66: any other transition is an edge, and its time the latest node time. -/
theorem takeTransition_edge (inTime : ¬ (1 ≤ (u - t).toNat ∧ (u - t).toNat ≤ 30000))
    (edge : impliedDark x.state ≠ dark) (settled : Settles f.debounce e t x y ds)
    (first : WithinLimit e t y) (then_ : WithinLimit e t (applyEdge dark t y)) :
    takeTransition (midst f e x u before) ⟨some e, dark, t⟩ =
      midst f e (applyEdge dark t y) t (before ++ ds) := by
  have notBefore : liesBefore (midst f e x u before).latest t = false := decide_eq_false inTime
  simp only [takeTransition, notBefore, Bool.false_eq_true, if_false, detector_midst, if_neg edge]
  exact takeEdge_midst (u := t) settled first then_

end

/-! ## An answer as a whole (R66, R67) -/

/-- R66, R67: an answer leaves filter `g` with detector `e` in record `y`, declares `ds` and no change of a
blocked flag. -/
def Takes (f : Filter) (now : NodeTime) (levels : Byte) (ts : List Transition) (e : Detector) (g : Filter)
    (y : DetectorState) (ds : List Declaration) : Prop :=
  ∃ latest, takeAnswerTimes f now levels ts =
    ⟨{ g.setDetector e y with lastNodeTime := now }, latest, ds, []⟩

section
variable {f f' g : Filter} {e : Detector} {now u u' : NodeTime} {levels : Byte} {x y : DetectorState}
  {before ds : List Declaration} {tr : Transition}

/-- R67: an answer without a transition. -/
theorem takes_none (others : ∀ c, c ≠ e → (f.detector c).state = .clear)
    (clear : ∀ c, c ≠ e → levelOf levels c = false)
    (taken : applyNodeNow now levels (midst f e (f.detector e) f.lastNodeTime []) e = midst g e y u ds) :
    Takes f now levels [] e g y ds := by
  rw [midst_detector] at taken
  refine ⟨u, ?_⟩
  simp only [takeAnswerTimes, List.foldl_nil]
  rw [foldl_applyNodeNow (d := e) others clear, taken]
  rfl

/-- R66, R67: an answer with one transition. -/
theorem takes_one (others : ∀ c, c ≠ e → (f.detector c).state = .clear)
    (clear : ∀ c, c ≠ e → levelOf levels c = false)
    (moved : takeTransition (midst f e (f.detector e) f.lastNodeTime []) tr = midst f' e x u' before)
    (same : ∀ c, f'.detector c = f.detector c)
    (taken : applyNodeNow now levels (midst f' e x u' before) e = midst g e y u ds) :
    Takes f now levels [tr] e g y ds := by
  rw [midst_detector] at moved
  refine ⟨u, ?_⟩
  simp only [takeAnswerTimes, List.foldl_cons, List.foldl_nil]
  rw [moved, foldl_applyNodeNow (d := e) (fun c hc => ?_) clear, taken]
  · rfl
  · rw [midst, detector_setDetector, if_neg hc, same]
    exact others c hc

end

end Sys2Proof.Machine
end

section
/-! SUPPORT. An answer of the lane I/O node (O59): the frame read, the filter re-initialised, and what an
ordered answer hands on, with the lanes tested after it (R65 to R69). -/

namespace Sys2Proof.Machine

open Sys2Proof

/-! ## The frame (section 11.7) -/

theorem word2_ofNat {hi lo : Nat} (hhi : hi < 256) (hlo : lo < 256) :
    word2 (BitVec.ofNat 8 hi) (BitVec.ofNat 8 lo) = hi * 256 + lo := by
  simp only [word2, BitVec.toNat_ofNat]
  omega

theorem levelOf_ofNat (levels : Nat) (e : Detector) :
    levelOf (BitVec.ofNat 8 levels) e = levels.testBit (detectorBit e) := by
  have low : detectorBit e < 8 := by cases e <;> decide
  rw [levelOf, BitVec.getLsbD_ofNat, decide_eq_true low, Bool.true_and]

/-- The level byte in which one detector alone is dark. -/
theorem levelOf_bit (c e : Detector) : levelOf (BitVec.ofNat 8 (2 ^ detectorBit e)) c = decide (c = e) := by
  cases c <;> cases e <;> decide

theorem levelOf_zero (e : Detector) : levelOf (BitVec.ofNat 8 0) e = false := by cases e <;> decide

/-- The transition that three bytes stand for (log entry 8). -/
theorem transitionsOf_one (e : Detector) (dark : Bool) {thi tlo : Nat} (hhi : thi < 256)
    (hlo : tlo < 256) :
    transitionsOf ([(if dark then 128 else 0) + detectorBit e, thi, tlo].map (BitVec.ofNat 8)) =
      some [⟨some e, dark, BitVec.ofNat 16 (thi * 256 + tlo)⟩] := by
  have named : detectorOf? ((BitVec.ofNat 8 ((if dark then 128 else 0) + detectorBit e)).toNat % 8) =
      some e := by cases e <;> cases dark <;> rfl
  have level : (BitVec.ofNat 8 ((if dark then 128 else 0) + detectorBit e)).getLsbD 7 = dark := by
    cases e <;> cases dark <;> decide
  simp only [List.map_cons, List.map_nil, transitionsOf, transitionOf, named, level,
    word2_ofNat hhi hlo, Option.map_some]

/-- An answer of an ALIVE lane I/O node to a poll without a command, while no session is leaving a lane. -/
structure LaneIoAnswer (s : State) (p : PairId) (d hi lo levels : Nat) : Prop where
  stays : s.NoneLeaving
  highByte : hi < 256
  lowByte : lo < 256
  polled : (s.poller p).poll = some ⟨laneIoAddr, none, d, false⟩
  alive : (s.node p laneIoAddr).state = .alive

/-- The command of that answer, its bytes behind the levels being `items`. -/
def laneIoRun (s : State) (p : PairId) (hi lo levels : Nat) (items : List Nat) :
    Host.Outcome State Fault Refusal :=
  let covered := [5#8, 2#8, 0#8, BitVec.ofNat 8 (items.length / 3)] ++
    ([hi, lo, levels] ++ items).map (BitVec.ofNat 8)
  exec (.answerReceived p ([0x5A#8] ++ covered ++ bytes2 (crc16 covered).toNat)) s

/-- The misses of a lane I/O node that has answered are none (R166). -/
def State.laneIoHeard (s : State) (p : PairId) : State :=
  s.modNode p laneIoAddr fun n => { n with misses := 0 }

section
variable {s : State} {p : PairId} {d hi lo levels : Nat} {items : List Nat} {ts : List Transition}

/-- R170: the answer is taken by the Detector Filter, and the next POLL is sent. -/
theorem laneIoRun_eq (h : LaneIoAnswer s p d hi lo levels)
    (parsed : transitionsOf (items.map (BitVec.ofNat 8)) = some ts) (count : items.length / 3 = ts.length)
    (few : ts.length ≤ 8) :
    laneIoRun s p hi lo levels items = .next (((((s.laneIoHeard p).filterAnswer p
      (BitVec.ofNat 16 (hi * 256 + lo)) (BitVec.ofNat 8 levels) ts).settlePair p).nextPoll
        p).settleTrunk) := by
  have counted : (BitVec.ofNat 8 (items.length / 3)).toNat = ts.length := by
    rw [BitVec.toNat_ofNat, count]
    omega
  have contents : contentsOf (roleOf laneIoAddr) (BitVec.ofNat 8 (items.length / 3)).toNat
      (([hi, lo, levels] ++ items).map (BitVec.ofNat 8)) =
        some (.laneIo (BitVec.ofNat 16 (hi * 256 + lo)) (BitVec.ofNat 8 levels) ts) := by
    rw [counted]
    show contentsOf .laneIo ts.length (BitVec.ofNat 8 hi :: BitVec.ofNat 8 lo :: BitVec.ofNat 8 levels ::
      items.map (BitVec.ofNat 8)) = _
    simp only [contentsOf, if_pos few, parsed, Option.bind_some, if_true, word2_ofNat h.highByte h.lowByte]
  have read := readAnswer_answer (address := 5#8) (result := 0#8) (a := laneIoAddr) (by decide) contents
  have taken : s.takeAnswer p ⟨laneIoAddr, none, d, false⟩ ⟨laneIoAddr, commandResult 0#8,
      .laneIo (BitVec.ofNat 16 (hi * 256 + lo)) (BitVec.ofNat 8 levels) ts⟩ =
        (((s.laneIoHeard p).filterAnswer p (BitVec.ofNat 16 (hi * 256 + lo)) (BitVec.ofNat 8 levels)
          ts).settlePair p).nextPoll p := by
    rw [State.takeAnswer, nodeAnswers_alive h.alive (fun _ k => by cases k)]
    rfl
  exact (exec_answerReceived h.polled rfl read rfl).trans (by rw [taken])

end

/-! ## Re-initialisation (R65) -/

section
variable {now : NodeTime} {levels : Byte}

/-- R65: the record of a detector that takes its reported level. -/
def reinitRecord (now : NodeTime) (levels : Byte) (e : Detector) (x : DetectorState) : DetectorState :=
  if levelOf levels e then { x with state := .dark, darkSince := now } else { x with state := .clear }

theorem reinitRecord_blocked (e : Detector) (x : DetectorState) :
    (reinitRecord now levels e x).blocked = x.blocked := by
  unfold reinitRecord
  split <;> rfl

theorem clearBlocked_free {k : Taking} {e : Detector} {y : DetectorState}
    (free : (k.filter.detector e).blocked = false) (hy : y.blocked = false) :
    clearBlocked e y k = { k with filter := k.filter.setDetector e y } := by
  have same : { y with blocked := false } = y := by rw [← hy]
  rw [clearBlocked, if_neg (by rw [free]; exact Bool.false_ne_true), same]

/-- R65: a detector that is not blocked takes its reported level. -/
theorem reinitDetector_free {k : Taking} {e : Detector} (free : (k.filter.detector e).blocked = false) :
    reinitDetector now levels k e = { k with
      filter := k.filter.setDetector e (reinitRecord now levels e (k.filter.detector e)) } := by
  unfold reinitDetector reinitRecord
  split
  · rfl
  · exact clearBlocked_free free free

/-- R65: re-initialisation takes each detector once, and changes no blocked flag where none is set. -/
theorem foldl_reinitDetector (ds : List Detector) : ∀ k : Taking, ds.Nodup →
    (∀ e, (k.filter.detector e).blocked = false) →
    let t := ds.foldl (reinitDetector now levels) k
    t.blocks = k.blocks ∧ t.filter.reinits = k.filter.reinits ∧
    ∀ e, t.filter.detector e = if e ∈ ds then
      reinitRecord now levels e (k.filter.detector e) else k.filter.detector e := by
  induction ds with
  | nil => exact fun k _ _ => ⟨rfl, rfl, fun e => by simp⟩
  | cons c ds ih =>
    intro k nodup free
    obtain ⟨fresh, nodup⟩ := List.nodup_cons.1 nodup
    have first := reinitDetector_free (now := now) (levels := levels) (free c)
    have reinits : ∀ (g : Filter) (e : Detector) (x : DetectorState),
        (g.setDetector e x).reinits = g.reinits := fun g e x => by cases e <;> rfl
    obtain ⟨blocks, count, detectors⟩ := ih (reinitDetector now levels k c) nodup fun e => by
      rw [first, detector_setDetector]
      split
      · exact (reinitRecord_blocked ..).trans (free c)
      · exact free e
    refine ⟨blocks.trans (by rw [first]), count.trans (by rw [first]; exact reinits _ _ _), fun e => ?_⟩
    rw [List.foldl_cons, detectors e, first]
    simp only [detector_setDetector, List.mem_cons]
    by_cases h : e = c
    · subst h
      simp [fresh]
    · simp [h]

/-- R65: the filter after an answer that re-initialises it, with no detector blocked. -/
theorem reinitFilter_free {f : Filter} (free : ∀ e, (f.detector e).blocked = false) :
    let k := reinitFilter f now levels []
    k.blocks = [] ∧ k.filter.initialised = true ∧ k.filter.lastNodeTime = now ∧
    k.filter.reinits = min 65535 (f.reinits + 1) ∧
    ∀ e, k.filter.detector e = reinitRecord now levels e (f.detector e) := by
  obtain ⟨blocks, reinits, taken⟩ := foldl_reinitDetector (now := now) (levels := levels) detectors
    ⟨f, now, [], []⟩ (by decide) free
  refine ⟨blocks, rfl, rfl, congrArg bump reinits, fun e => ?_⟩
  have all : e ∈ detectors := by cases e <;> decide
  have kept : (reinitFilter f now levels []).filter.detector e =
      (detectors.foldl (reinitDetector now levels) ⟨f, now, [], []⟩).filter.detector e := by
    cases e <;> rfl
  rw [kept, taken e, if_pos all]

end

section
variable {s : State} {p : PairId}

/-- A rack level handed on is the rack level held. -/
theorem rackFull_rackLevel (full : Bool) : ((s.rackLevel p full).ballReturn p).rackFull = full := by
  obtain ⟨same, other⟩ := rackBecomes (p := p) (full := full) (w := s)
  by_cases h : (s.ballReturn p).rackFull = full
  · rw [same h, h]
  · obtain ⟨_, _, _, _, ret, _⟩ := other h
    rw [ret]

/-- R65: an uninitialised filter with no detector blocked takes every level, the rack's is handed on, and
foul pending of both lanes is cleared. -/
theorem reinitAnswer_free {now : NodeTime} {levels : Byte}
    (free : ∀ e, ((s.filter p).detector e).blocked = false) :
    let k := reinitFilter (s.filter p) now levels []
    let t := s.reinitAnswer p now levels []
    t.filter p = k.filter ∧ (t.ballReturn p).rackFull = levelOf levels .rack ∧
    (∀ d, (t.tracker (laneAt p d)).foulPending = none) ∧ OnPair p (s.modFilter p fun _ => k.filter) t := by
  intro k t
  obtain ⟨blocks, _⟩ := reinitFilter_free (now := now) (levels := levels) free
  let v := ((s.modFilter p fun _ => k.filter).modTracker (laneAt p .left) clearFoul).modTracker
    (laneAt p .right) clearFoul
  have eq : t = v.rackLevel p (levelOf levels .rack) := by
    show k.blocks.foldl _ (v.rackLevel p (levelOf levels .rack)) = _
    rw [blocks]
    rfl
  have onPair : OnPair p (s.modFilter p fun _ => k.filter) t := by
    rw [eq]
    exact (((OnPair.refl p _).modTracker _ (pairOf_laneAt ..) rfl).modTracker _ (pairOf_laneAt ..)
      rfl).rackLevel p _ rfl
  refine ⟨(onPair.filter p).trans ((filter_modFilter ..).trans (if_pos rfl)), ?_, fun d => ?_, onPair⟩
  · rw [eq]
    exact rackFull_rackLevel _
  · have lane : ∀ k, t.lane k = v.lane k := fun k => by
      rw [eq]
      unfold State.rackLevel
      split
      · rfl
      · exact lane_decideLift _ p k
    rw [State.tracker, lane]
    show (v.tracker (laneAt p d)).foulPending = none
    rw [tracker_modTracker, tracker_modTracker]
    cases d <;> simp [clearFoul]

/-- R65: such a filter re-initialised by an answer without a transition. -/
theorem laneIoRun_reinit {d hi lo levels : Nat} (h : LaneIoAnswer s p d hi lo levels)
    (fresh : (s.filter p).initialised = false)
    (free : ∀ e, ((s.filter p).detector e).blocked = false) :
    let now : NodeTime := BitVec.ofNat 16 (hi * 256 + lo)
    ∃ t : State, laneIoRun s p hi lo levels [] = .next (t.nextPoll p).settleTrunk ∧
      (t.filter p).initialised = true ∧ (t.filter p).lastNodeTime = now ∧
      (t.filter p).reinits = min 65535 ((s.filter p).reinits + 1) ∧
      (∀ e, (t.filter p).detector e =
        if levels.testBit (detectorBit e) then
          { (s.filter p).detector e with state := .dark, darkSince := now }
        else { (s.filter p).detector e with state := .clear }) ∧
      (t.ballReturn p).rackFull = levels.testBit 5 ∧
      ∀ k, (t.tracker (laneAt p k)).foulPending = none := by
  intro now
  have heard : (s.laneIoHeard p).filter p = s.filter p := filter_modPoller ..
  have free' : ∀ e, (((s.laneIoHeard p).filter p).detector e).blocked = false :=
    fun e => by rw [heard]; exact free e
  obtain ⟨_, initialised, last, reinits, taken⟩ :=
    reinitFilter_free (now := now) (levels := BitVec.ofNat 8 levels) free
  obtain ⟨filter, rack, fouls, onPair⟩ :=
    reinitAnswer_free (now := now) (levels := BitVec.ofNat 8 levels) free'
  rw [heard] at filter
  have run := laneIoRun_eq (items := []) (ts := []) h rfl rfl (Nat.zero_le _)
  have reinit : (s.laneIoHeard p).filterAnswer p now (BitVec.ofNat 8 levels) [] =
      (s.laneIoHeard p).reinitAnswer p now (BitVec.ofNat 8 levels) [] :=
    if_pos (by simp [reinitialises, heard, fresh])
  rw [reinit, settlePair_stays (onPair.noneLeaving h.stays)] at run
  refine ⟨_, run, ?_, ?_, ?_, fun e => ?_, ?_, fouls⟩
  · rw [filter, initialised]
  · rw [filter, last]
  · rw [filter, reinits]
  · rw [filter, taken e, reinitRecord, levelOf_ofNat]
  · rw [rack, levelOf_ofNat]
    rfl

end

/-! ## Handing on (R69) -/

section
variable {p : PairId} {w : State}

theorem foulSettled {l : LaneId} (hl : pairOf l = p) (stays : w.NoneLeaving) (stamp : NodeTime) :
    FoulPassed l stamp w ((w.foulPassage l stamp).settlePair p) := by
  rw [settlePair_stays (OnPair.noneLeaving ((OnPair.refl p w).foulPassage l stamp hl) stays)]
  exact foulPassed w l stamp

/-- R69: a passage handed on to the blocks its detector serves. -/
theorem passed_handOn (stays : w.NoneLeaving) (e : Detector) (stamp at_ : NodeTime) :
    Passed p e stamp w ((w.handOn p (.passage e stamp at_)).settlePair p) := by
  cases e with
  | foulLeft => exact foulSettled (pairOf_laneAt ..) stays stamp
  | foulRight => exact foulSettled (pairOf_laneAt ..) stays stamp
  | pitLeft => exact pitPassed (pairOf_laneAt ..) stays
  | pitRight => exact pitPassed (pairOf_laneAt ..) stays
  | lift => exact liftPassed stays
  | rack => exact rackSettled stays

/-- R66: a re-arming, which the rack alone hands on. -/
theorem released_handOn (stays : w.NoneLeaving) (e : Detector) (stamp at_ : NodeTime) :
    Released p e w (((rearming e stamp at_).foldl (fun t x => t.handOn p x) w).settlePair p) := by
  cases e with
  | rack => exact rackSettled stays
  | foulLeft | foulRight | pitLeft | pitRight | lift => exact settlePair_stays stays

end

/-! ## Ordered answers (R66 to R69) -/

/-- R66 to R69: the answer leaves filter `g` with detector `e` in record `y` and node now as the last node
time, and `handed` says what is handed on from there. -/
def AnswerEnds (s : State) (p : PairId) (hi lo levels : Nat) (items : List Nat) (e : Detector) (g : Filter)
    (y : DetectorState) (handed : State → State → Prop) : Prop :=
  ∃ t : State, laneIoRun s p hi lo levels items = .next (t.nextPoll p).settleTrunk ∧
    handed ((s.laneIoHeard p).modFilter p fun _ =>
      { g.setDetector e y with lastNodeTime := BitVec.ofNat 16 (hi * 256 + lo) }) t

/-- An answer to an initialised filter within 30 seconds, its transitions being `ts`. -/
structure OrderedAnswer (s : State) (p : PairId) (d hi lo levels : Nat) (items : List Nat)
    (ts : List Transition) : Prop extends LaneIoAnswer s p d hi lo levels where
  initialised : (s.filter p).initialised = true
  recent : (BitVec.ofNat 16 (hi * 256 + lo) - (s.filter p).lastNodeTime).toNat ≤ 30000
  parsed : transitionsOf (items.map (BitVec.ofNat 8)) = some ts
  count : items.length / 3 = ts.length
  few : ts.length ≤ 8

namespace OrderedAnswer

variable {s : State} {p : PairId} {d hi lo levels : Nat} {items : List Nat} {ts : List Transition}
  {e : Detector} {g : Filter} {y : DetectorState} {ds : List Declaration}

/-- R69: what an ordered answer declares is handed on, and the pair's lanes are tested. -/
theorem ends (h : OrderedAnswer s p d hi lo levels items ts)
    (taken : Takes (s.filter p) (BitVec.ofNat 16 (hi * 256 + lo)) (BitVec.ofNat 8 levels) ts e g y ds)
    {handed : State → State → Prop}
    (hands : ∀ w : State, w.NoneLeaving → handed w (((inOrder (s.filter p).lastNodeTime ds).foldl
      (fun t x => t.handOn p x) w).settlePair p)) :
    AnswerEnds s p hi lo levels items e g y handed := by
  obtain ⟨latest, taken⟩ := taken
  have heard : (s.laneIoHeard p).filter p = s.filter p := filter_modPoller ..
  have ordered : (s.laneIoHeard p).filterAnswer p (BitVec.ofNat 16 (hi * 256 + lo))
      (BitVec.ofNat 8 levels) ts = (inOrder (s.filter p).lastNodeTime ds).foldl (fun t x => t.handOn p x)
        ((s.laneIoHeard p).modFilter p fun _ =>
          { g.setDetector e y with lastNodeTime := BitVec.ofNat 16 (hi * 256 + lo) }) := by
    have not_ : ¬ reinitialises ((s.laneIoHeard p).filter p) (BitVec.ofNat 16 (hi * 256 + lo)) = true := by
      simpa [reinitialises, heard, h.initialised] using h.recent
    rw [State.filterAnswer, if_neg not_, State.orderedAnswer, heard, taken]
    rfl
  have run := laneIoRun_eq h.toLaneIoAnswer h.parsed h.count h.few
  rw [ordered] at run
  exact ⟨_, run, hands _ h.stays⟩

theorem ends_stands (h : OrderedAnswer s p d hi lo levels items ts)
    (taken : Takes (s.filter p) (BitVec.ofNat 16 (hi * 256 + lo)) (BitVec.ofNat 8 levels) ts e g y []) :
    AnswerEnds s p hi lo levels items e g y fun w t => t = w :=
  h.ends taken fun _ stays => settlePair_stays stays

theorem ends_passed (h : OrderedAnswer s p d hi lo levels items ts) {stamp at_ : NodeTime}
    (taken : Takes (s.filter p) (BitVec.ofNat 16 (hi * 256 + lo)) (BitVec.ofNat 8 levels) ts e g y
      [.passage e stamp at_]) :
    AnswerEnds s p hi lo levels items e g y (Passed p e stamp) :=
  h.ends taken fun _ stays => passed_handOn stays e stamp at_

theorem ends_released (h : OrderedAnswer s p d hi lo levels items ts) {stamp at_ : NodeTime}
    (taken : Takes (s.filter p) (BitVec.ofNat 16 (hi * 256 + lo)) (BitVec.ofNat 8 levels) ts e g y
      (rearming e stamp at_)) :
    AnswerEnds s p hi lo levels items e g y (Released p e) :=
  h.ends taken fun w stays => by
    have order : inOrder (s.filter p).lastNodeTime (rearming e stamp at_) = rearming e stamp at_ := by
      cases e <;> rfl
    rw [order]
    exact released_handOn stays e stamp at_

end OrderedAnswer

end Sys2Proof.Machine
end

section
/-! SUPPORT. One active detector (O59): what an answer takes from each state of its record, without a
transition and with one (R66, R67). -/

namespace Sys2Proof.Machine

open Sys2Proof

/-! ## Edges (R66) -/

section
variable {t : NodeTime} {x : DetectorState}

theorem applyEdge_clear (h : x.state = .clear) :
    applyEdge true t x = { x with state := .pressWait, darkEdge := t, darkSince := t } := by
  simp only [applyEdge, h]

theorem applyEdge_pressWait (h : x.state = .pressWait) :
    applyEdge false t x = { x with state := .clear, glitches := bump x.glitches } := by
  simp only [applyEdge, h]

theorem applyEdge_dark (h : x.state = .dark) :
    applyEdge false t x = { x with state := .releaseWait, releaseEdge := t } := by
  simp only [applyEdge, h]

theorem applyEdge_releaseWait (h : x.state = .releaseWait) :
    applyEdge true t x = { x with state := .dark } := by
  simp only [applyEdge, h]

end

/-! ## The one active detector -/

/-- Every detector of the filter but `e` is CLEAR and reported clear; `e` stands in record `x` and is reported
dark or clear. -/
structure Lone (f : Filter) (e : Detector) (x : DetectorState) (levels : Byte) (dark : Bool) : Prop where
  others : ∀ c, c ≠ e → (f.detector c).state = .clear
  record : f.detector e = x
  quiet : ∀ c, c ≠ e → levelOf levels c = false
  level : levelOf levels e = dark

namespace Lone

variable {f : Filter} {e : Detector} {now t : NodeTime} {levels : Byte} {x y z : DetectorState}
  {before after : List Declaration} {dark edge : Bool}

/-- R67: an answer without a transition, whose level agrees with the settled record. -/
theorem agrees (h : Lone f e x levels dark) (settled : Settles f.debounce e now x y after)
    (limit : WithinLimit e now y) (same : impliedDark y.state = dark) :
    Takes f now levels [] e f y after :=
  takes_none h.others h.quiet
    (by rw [h.record, applyNodeNow_agrees settled limit (same.trans h.level.symm), List.nil_append])

/-- R67: an answer without a transition, whose level differs from the record. -/
theorem differs (h : Lone f e x levels dark) (settled : Settles f.debounce e now x x [])
    (limit : WithinLimit e now x) (other : impliedDark x.state ≠ dark)
    (then_ : WithinLimit e now (applyEdge dark now x)) :
    Takes f now levels [] e { f with mismatches := bump f.mismatches } (applyEdge dark now x) [] := by
  obtain ⟨others, rfl, quiet, rfl⟩ := h
  exact takes_none others quiet (applyNodeNow_differs settled limit other then_)

/-- R66: a transition before the latest node time, then a level that agrees. -/
theorem late (h : Lone f e x levels dark)
    (late : 1 ≤ (f.lastNodeTime - t).toNat ∧ (f.lastNodeTime - t).toNat ≤ 30000)
    (settled : Settles f.debounce e now x x []) (limit : WithinLimit e now x)
    (same : impliedDark x.state = dark) :
    Takes f now levels [⟨some e, edge, t⟩] e { f with discarded := bump f.discarded } x [] := by
  obtain ⟨others, rfl, quiet, rfl⟩ := h
  exact takes_one others quiet (takeTransition_late late) (fun c => detector_discarded f c _)
    (applyNodeNow_agrees settled limit same)

section
variable (h : Lone f e x levels dark)
  (inTime : ¬ (1 ≤ (f.lastNodeTime - t).toNat ∧ (f.lastNodeTime - t).toNat ≤ 30000))
include h inTime

/-- R66: a repeated level, which the level reported agrees with. -/
theorem repeated (settled : Settles f.debounce e now { x with glitches := bump x.glitches }
      { x with glitches := bump x.glitches } [])
    (limit : WithinLimit e now x) (same : impliedDark x.state = dark) :
    Takes f now levels [⟨some e, dark, t⟩] e f { x with glitches := bump x.glitches } [] := by
  obtain ⟨others, rfl, quiet, rfl⟩ := h
  exact takes_one others quiet (takeTransition_repeated inTime same) (fun _ => rfl)
    (applyNodeNow_agrees settled limit same)

/-- R66: an edge, then a level that agrees with what node now settles. -/
theorem moves (differs : impliedDark x.state ≠ edge) (first : Settles f.debounce e t x y before)
    (limit : WithinLimit e t y) (moved : WithinLimit e t (applyEdge edge t y))
    (then_ : Settles f.debounce e now (applyEdge edge t y) z after) (stays : WithinLimit e now z)
    (same : impliedDark z.state = dark) :
    Takes f now levels [⟨some e, edge, t⟩] e f z (before ++ after) := by
  obtain ⟨others, rfl, quiet, rfl⟩ := h
  exact takes_one others quiet (takeTransition_edge inTime differs first limit moved) (fun _ => rfl)
    (applyNodeNow_agrees then_ stays same)

end

/-! ## Without a transition (R67) -/

theorem pressing (h : Lone f e x levels true) (st : x.state = .pressWait)
    (hw : ¬ debounceOf f.debounce e ≤ (now - x.darkEdge).toNat) : Takes f now levels [] e f x [] :=
  h.agrees (settles_pressing st hw) (withinLimit_of_ne (by simp [st])) (by rw [st]; rfl)

theorem pressed (h : Lone f e x levels true) (st : x.state = .pressWait)
    (hw : debounceOf f.debounce e ≤ (now - x.darkEdge).toNat)
    (limit : WithinLimit e now { x with state := .dark }) :
    Takes f now levels [] e f { x with state := .dark, passages := bump x.passages }
      [.passage e x.darkEdge (x.darkEdge + BitVec.ofNat 16 (debounceOf f.debounce e))] :=
  h.agrees (settles_pressed st hw) limit rfl

theorem releasing (h : Lone f e x levels false) (st : x.state = .releaseWait)
    (hw : ¬ debounceOf f.debounce e ≤ (now - x.releaseEdge).toNat) : Takes f now levels [] e f x [] :=
  h.agrees (settles_releasing st hw) (withinLimit_of_ne (by simp [st])) (by rw [st]; rfl)

theorem released (h : Lone f e x levels false) (st : x.state = .releaseWait) (free : x.blocked = false)
    (hw : debounceOf f.debounce e ≤ (now - x.releaseEdge).toNat) :
    Takes f now levels [] e f { x with state := .clear }
      (rearming e x.releaseEdge (x.releaseEdge + BitVec.ofNat 16 (debounceOf f.debounce e))) :=
  h.agrees (settles_released st free hw) (withinLimit_of_ne (by simp)) rfl

theorem staysClear (h : Lone f e x levels false) (st : x.state = .clear) : Takes f now levels [] e f x [] :=
  h.agrees (settles_none (.inl st)) (withinLimit_of_ne (by simp [st])) (by rw [st]; rfl)

theorem staysDark (h : Lone f e x levels true) (st : x.state = .dark) (limit : WithinLimit e now x) :
    Takes f now levels [] e f x [] :=
  h.agrees (settles_none (.inr st)) limit (by rw [st]; rfl)

theorem foundDark (h : Lone f e x levels true) (st : x.state = .clear) :
    Takes f now levels [] e { f with mismatches := bump f.mismatches }
      { x with state := .pressWait, darkEdge := now, darkSince := now } [] := by
  rw [← applyEdge_clear st]
  exact h.differs (settles_none (.inl st)) (withinLimit_of_ne (by simp [st])) (by simp [st, impliedDark])
    (withinLimit_of_ne (by simp [applyEdge_clear st]))

theorem foundClear (h : Lone f e x levels false) (st : x.state = .dark) (limit : WithinLimit e now x) :
    Takes f now levels [] e { f with mismatches := bump f.mismatches }
      { x with state := .releaseWait, releaseEdge := now } [] := by
  rw [← applyEdge_dark st]
  exact h.differs (settles_none (.inr st)) limit (by simp [st, impliedDark])
    (withinLimit_of_ne (by simp [applyEdge_dark st]))

/-! ## With one transition (R66) -/

theorem lateClear (h : Lone f e x levels false)
    (late : 1 ≤ (f.lastNodeTime - t).toNat ∧ (f.lastNodeTime - t).toNat ≤ 30000) (st : x.state = .clear) :
    Takes f now levels [⟨some e, dark, t⟩] e { f with discarded := bump f.discarded } x [] :=
  h.late late (settles_none (.inl st)) (withinLimit_of_ne (by simp [st])) (by rw [st]; rfl)

theorem lateDark (h : Lone f e x levels true)
    (late : 1 ≤ (f.lastNodeTime - t).toNat ∧ (f.lastNodeTime - t).toNat ≤ 30000) (st : x.state = .dark)
    (limit : WithinLimit e now x) :
    Takes f now levels [⟨some e, dark, t⟩] e { f with discarded := bump f.discarded } x [] :=
  h.late late (settles_none (.inr st)) limit (by rw [st]; rfl)

section
variable (inTime : ¬ (1 ≤ (f.lastNodeTime - t).toNat ∧ (f.lastNodeTime - t).toNat ≤ 30000))
include inTime

/-! ### From CLEAR -/

theorem repeatedClear (h : Lone f e x levels false) (st : x.state = .clear) :
    Takes f now levels [⟨some e, false, t⟩] e f { x with glitches := bump x.glitches } [] :=
  h.repeated inTime (settles_none (.inl st)) (withinLimit_of_ne (by simp [st])) (by rw [st]; rfl)

theorem presses (h : Lone f e x levels true) (st : x.state = .clear)
    (hw : ¬ debounceOf f.debounce e ≤ (now - t).toNat) :
    Takes f now levels [⟨some e, true, t⟩] e f
      { x with state := .pressWait, darkEdge := t, darkSince := t } [] := by
  have moved := applyEdge_clear (t := t) st
  refine h.moves inTime (by simp [st, impliedDark]) (settles_none (.inl st))
    (withinLimit_of_ne (by simp [st])) (withinLimit_of_ne (by simp [moved])) ?_
    (withinLimit_of_ne (by simp)) rfl
  rw [moved]
  exact settles_pressing rfl hw

theorem pressesThrough (h : Lone f e x levels true) (st : x.state = .clear)
    (hw : debounceOf f.debounce e ≤ (now - t).toNat)
    (limit : WithinLimit e now { x with state := .dark, darkSince := t }) :
    Takes f now levels [⟨some e, true, t⟩] e f
      { x with state := .dark, darkEdge := t, darkSince := t, passages := bump x.passages }
      [.passage e t (t + BitVec.ofNat 16 (debounceOf f.debounce e))] := by
  have moved := applyEdge_clear (t := t) st
  refine h.moves inTime (by simp [st, impliedDark]) (settles_none (.inl st))
    (withinLimit_of_ne (by simp [st])) (withinLimit_of_ne (by simp [moved])) ?_ limit rfl
  rw [moved]
  exact settles_pressed rfl hw

/-! ### From PRESS_WAIT -/

theorem glitches (h : Lone f e x levels false) (st : x.state = .pressWait)
    (hw : ¬ debounceOf f.debounce e ≤ (t - x.darkEdge).toNat) :
    Takes f now levels [⟨some e, false, t⟩] e f
      { x with state := .clear, glitches := bump x.glitches } [] := by
  have moved := applyEdge_pressWait (t := t) st
  refine h.moves inTime (by simp [st, impliedDark]) (settles_pressing st hw)
    (withinLimit_of_ne (by simp [st])) (withinLimit_of_ne (by simp [moved])) ?_
    (withinLimit_of_ne (by simp)) rfl
  rw [moved]
  exact settles_none (.inl rfl)

theorem pressedThenReleases (h : Lone f e x levels false) (st : x.state = .pressWait)
    (hw : debounceOf f.debounce e ≤ (t - x.darkEdge).toNat)
    (limit : WithinLimit e t { x with state := .dark })
    (hn : ¬ debounceOf f.debounce e ≤ (now - t).toNat) :
    Takes f now levels [⟨some e, false, t⟩] e f
      { x with state := .releaseWait, passages := bump x.passages, releaseEdge := t }
      [.passage e x.darkEdge (x.darkEdge + BitVec.ofNat 16 (debounceOf f.debounce e))] := by
  have moved := applyEdge_dark (t := t)
    (x := { x with state := .dark, passages := bump x.passages }) rfl
  refine h.moves inTime (by simp [st, impliedDark]) (settles_pressed st hw) limit
    (withinLimit_of_ne (by simp [moved])) ?_ (withinLimit_of_ne (by simp)) rfl
  rw [moved]
  exact settles_releasing rfl hn

/-! ### From DARK -/

theorem repeatedDark (h : Lone f e x levels true) (st : x.state = .dark) (limit : WithinLimit e now x) :
    Takes f now levels [⟨some e, true, t⟩] e f { x with glitches := bump x.glitches } [] :=
  h.repeated inTime (settles_none (.inr st)) limit (by rw [st]; rfl)

theorem releases (h : Lone f e x levels false) (st : x.state = .dark) (limit : WithinLimit e t x)
    (hw : ¬ debounceOf f.debounce e ≤ (now - t).toNat) :
    Takes f now levels [⟨some e, false, t⟩] e f { x with state := .releaseWait, releaseEdge := t } [] := by
  have moved := applyEdge_dark (t := t) st
  refine h.moves inTime (by simp [st, impliedDark]) (settles_none (.inr st)) limit
    (withinLimit_of_ne (by simp [moved])) ?_ (withinLimit_of_ne (by simp)) rfl
  rw [moved]
  exact settles_releasing rfl hw

theorem releasesThrough (h : Lone f e x levels false) (st : x.state = .dark) (free : x.blocked = false)
    (limit : WithinLimit e t x) (hw : debounceOf f.debounce e ≤ (now - t).toNat) :
    Takes f now levels [⟨some e, false, t⟩] e f { x with state := .clear, releaseEdge := t }
      (rearming e t (t + BitVec.ofNat 16 (debounceOf f.debounce e))) := by
  have moved := applyEdge_dark (t := t) st
  refine h.moves inTime (by simp [st, impliedDark]) (settles_none (.inr st)) limit
    (withinLimit_of_ne (by simp [moved])) ?_ (withinLimit_of_ne (by simp)) rfl
  rw [moved]
  exact settles_released rfl free hw

/-! ### From RELEASE_WAIT -/

theorem darkAgain (h : Lone f e x levels true) (st : x.state = .releaseWait)
    (hw : ¬ debounceOf f.debounce e ≤ (t - x.releaseEdge).toNat)
    (first : WithinLimit e t { x with state := .dark })
    (then_ : WithinLimit e now { x with state := .dark }) :
    Takes f now levels [⟨some e, true, t⟩] e f { x with state := .dark } [] := by
  have moved := applyEdge_releaseWait (t := t) st
  refine h.moves inTime (by simp [st, impliedDark]) (settles_releasing st hw)
    (withinLimit_of_ne (by simp [st])) (by rw [moved]; exact first) ?_ then_ rfl
  rw [moved]
  exact settles_none (.inr rfl)

theorem releasedThenPresses (h : Lone f e x levels true) (st : x.state = .releaseWait)
    (free : x.blocked = false) (hw : debounceOf f.debounce e ≤ (t - x.releaseEdge).toNat)
    (hn : ¬ debounceOf f.debounce e ≤ (now - t).toNat) :
    Takes f now levels [⟨some e, true, t⟩] e f
      { x with state := .pressWait, darkEdge := t, darkSince := t }
      (rearming e x.releaseEdge (x.releaseEdge + BitVec.ofNat 16 (debounceOf f.debounce e))) := by
  have moved := applyEdge_clear (t := t) (x := { x with state := .clear }) rfl
  have taken := h.moves (now := now) inTime (edge := true) (by simp [st, impliedDark])
    (settles_released st free hw) (withinLimit_of_ne (by simp)) (withinLimit_of_ne (by simp [moved]))
    (by rw [moved]; exact settles_pressing rfl hn) (withinLimit_of_ne (by simp)) rfl
  rwa [List.append_nil] at taken

end

end Lone

end Sys2Proof.Machine
end

section
/-! SUPPORT. The answers of a lane I/O node whose filter has one active detector (O59). -/

namespace Sys2Proof.Machine

open Sys2Proof

/-- An answer to an initialised filter within 30 seconds, with every detector but `e` CLEAR. -/
structure LoneAnswer (s : State) (p : PairId) (d hi lo levels : Nat) (e : Detector) : Prop
    extends LaneIoAnswer s p d hi lo levels where
  initialised : (s.filter p).initialised = true
  recent : (BitVec.ofNat 16 (hi * 256 + lo) - (s.filter p).lastNodeTime).toNat ≤ 30000
  others : ∀ c, c ≠ e → ((s.filter p).detector c).state = .clear

namespace LoneAnswer

variable {s : State} {p : PairId} {d hi lo levels : Nat} {e : Detector}

theorem bare (h : LoneAnswer s p d hi lo levels e) : OrderedAnswer s p d hi lo levels [] [] where
  toLaneIoAnswer := h.toLaneIoAnswer
  initialised := h.initialised
  recent := h.recent
  parsed := rfl
  count := rfl
  few := Nat.zero_le _

section
variable {thi tlo : Nat}

theorem darkEdge (h : LoneAnswer s p d hi lo levels e) (hhi : thi < 256) (hlo : tlo < 256) :
    OrderedAnswer s p d hi lo levels [128 + detectorBit e, thi, tlo]
      [⟨some e, true, BitVec.ofNat 16 (thi * 256 + tlo)⟩] where
  toLaneIoAnswer := h.toLaneIoAnswer
  initialised := h.initialised
  recent := h.recent
  parsed := transitionsOf_one e true hhi hlo
  count := by simp
  few := by simp

theorem clearEdge (h : LoneAnswer s p d hi lo levels e) (hhi : thi < 256) (hlo : tlo < 256) :
    OrderedAnswer s p d hi lo levels [detectorBit e, thi, tlo]
      [⟨some e, false, BitVec.ofNat 16 (thi * 256 + tlo)⟩] where
  toLaneIoAnswer := h.toLaneIoAnswer
  initialised := h.initialised
  recent := h.recent
  parsed := by
    rw [← Nat.zero_add (detectorBit e)]
    exact transitionsOf_one e false hhi hlo
  count := by simp
  few := by simp

end

/-- The level byte in which `e` alone is dark. -/
theorem reportedDark (h : LoneAnswer s p d hi lo levels e) (hl : levels = 2 ^ detectorBit e) :
    Lone (s.filter p) e ((s.filter p).detector e) (BitVec.ofNat 8 levels) true where
  others := h.others
  record := rfl
  quiet c hc := by rw [hl, levelOf_bit]; exact decide_eq_false hc
  level := by rw [hl, levelOf_bit]; exact decide_eq_true rfl

/-- The level byte in which no detector is dark. -/
theorem reportedClear (h : LoneAnswer s p d hi lo levels e) (hl : levels = 0) :
    Lone (s.filter p) e ((s.filter p).detector e) (BitVec.ofNat 8 levels) false where
  others := h.others
  record := rfl
  quiet c _ := by rw [hl]; exact levelOf_zero c
  level := by rw [hl]; exact levelOf_zero e

end LoneAnswer

end Sys2Proof.Machine

open Sys2Proof Sys2Proof.Machine

/-- Settles O59: a re-initialising answer by the fold over the detectors, each ordered answer by what it takes
from the state of the one active detector (`Lone`) and what is handed on from there. -/
theorem detectorLevelsMakePassages : Obligations.DetectorLevelsMakePassages := by
  intro s p d hi lo levels stays hhi hlo _ polled alive now run u f
  have answer : LaneIoAnswer s p d hi lo levels := ⟨stays, hhi, hlo, polled, alive⟩
  refine ⟨laneIoRun_reinit answer, fun e initialised recent others => ?_⟩
  have lone : LoneAnswer s p d hi lo levels e := ⟨answer, initialised, recent, others⟩
  have bare := lone.bare
  have dark := lone.reportedDark
  have clear := lone.reportedClear
  intro x b bit waited within pressed ends stands mismatched
  refine ⟨fun st hl => ⟨?_, ?_⟩, fun st hl => ⟨?_, ?_⟩, fun st => ⟨fun hl => ?_, fun hl => ?_⟩,
    fun st limit => ⟨fun hl => ?_, fun hl => ?_⟩, ?_⟩
  · exact fun hw => bare.ends_stands ((dark hl).pressing st hw)
  · exact fun hw limit => bare.ends_passed ((dark hl).pressed st hw fun _ => limit)
  · exact fun hw => bare.ends_stands ((clear hl).releasing st hw)
  · exact fun hw free => bare.ends_released ((clear hl).released st free hw)
  · exact bare.ends_stands ((clear hl).staysClear st)
  · exact bare.ends_stands ((dark hl).foundDark st)
  · exact bare.ends_stands ((dark hl).staysDark st fun _ => limit)
  · exact bare.ends_stands ((clear hl).foundClear st fun _ => limit)
  intro thi tlo hthi htlo edge darkItems clearItems late discarded glitch
  have darkEdge := lone.darkEdge hthi htlo
  have clearEdge := lone.clearEdge hthi htlo
  refine ⟨fun isLate items which => ⟨fun st hl => ?_, fun st limit hl => ?_⟩, fun inTime =>
    ⟨fun st => ⟨fun hl => ?_, fun hl hw => ?_, fun hl hw limit => ?_⟩,
      fun st hl => ⟨fun hw => ?_, fun hw limit hn => ?_⟩,
      fun st => ⟨fun hl limit => ?_, fun hl limit hw => ?_, fun hl free limit hw => ?_⟩,
      fun st hl => ⟨fun hw first then_ => ?_, fun hw free hn => ?_⟩⟩⟩
  · rcases which with rfl | rfl
    · exact darkEdge.ends_stands ((clear hl).lateClear isLate st)
    · exact clearEdge.ends_stands ((clear hl).lateClear isLate st)
  · rcases which with rfl | rfl
    · exact darkEdge.ends_stands ((dark hl).lateDark isLate st fun _ => limit)
    · exact clearEdge.ends_stands ((dark hl).lateDark isLate st fun _ => limit)
  · exact clearEdge.ends_stands ((clear hl).repeatedClear inTime st)
  · exact darkEdge.ends_stands ((dark hl).presses inTime st hw)
  · have taken := (dark hl).pressesThrough inTime st hw fun _ => limit
    exact darkEdge.ends_passed taken
  · exact clearEdge.ends_stands ((clear hl).glitches inTime st hw)
  · exact clearEdge.ends_passed ((clear hl).pressedThenReleases inTime st hw (fun _ => limit) hn)
  · exact darkEdge.ends_stands ((dark hl).repeatedDark inTime st fun _ => limit)
  · exact clearEdge.ends_stands ((clear hl).releases inTime st (fun _ => limit) hw)
  · exact clearEdge.ends_released ((clear hl).releasesThrough inTime st free (fun _ => limit) hw)
  · exact darkEdge.ends_stands
      ((dark hl).darkAgain inTime st hw (fun _ => first) fun _ => then_)
  · exact darkEdge.ends_released ((dark hl).releasedThenPresses inTime st free hw hn)

end

section
/-! SUPPORT. SET_PROFILE (O17): the profile as it is stored. -/

namespace Sys2Proof.Machine

open Sys2Proof

/-- R83: the fourteen parameters, each at the nearest limit of its range. -/
theorem clampProfile_eq (f : Profile) : clampProfile f =
    { deckDown := max 1 (min 200 f.deckDown), lift := max 1 (min 200 f.lift)
      sweep := max 1 (min 200 f.sweep), respot := max 1 (min 200 f.respot)
      newRack := max 1 (min 200 f.newRack), home := max 1 (min 200 f.home)
      powerUp := max 1 (min 60 f.powerUp), halt := max 1 (min 200 f.halt)
      guardDown := max 1 (min 200 f.guardDown), deckUp := max 1 (min 200 f.deckUp)
      powerDown := max 1 (min 200 f.powerDown), settle := max 500 (min 5000 f.settle)
      readingDeadline := max 200 (min 5000 f.readingDeadline)
      retry := max 100 (min 1000 f.retry) } := by
  have tenths := fun n => clampTo_eq n (show 1 ≤ 200 by decide)
  have seconds := fun n => clampTo_eq n (show 1 ≤ 60 by decide)
  simp only [clampProfile, tenths, seconds, clampTo_eq _ (show 500 ≤ 5000 by decide),
    clampTo_eq _ (show 200 ≤ 5000 by decide), clampTo_eq _ (show 100 ≤ 1000 by decide)]

end Sys2Proof.Machine

open Sys2Proof Sys2Proof.Machine

/-- Settles O17: the number is checked, and the clamped profile stored in its place. -/
theorem setProfileReplacesProfile : Obligations.SetProfileReplacesProfile := by
  unfold Obligations.SetProfileReplacesProfile
  intro s tag n f free
  refine ⟨fun large => ?_, fun h => ⟨profileClamps f, ?_⟩⟩
  · have refused : reqSetProfile n f s = (s, refuse .range) := dif_neg (by omega)
    exact exec_of_act rfl free refused rfl
  · have stored : reqSetProfile n f s = ({ s with profiles := s.profiles.set n (clampProfile f) h },
        ⟨.ok, .clampedProfile (profileClamps f)⟩) := dif_pos h
    rw [clampProfile_eq] at stored
    exact exec_of_act rfl free stored rfl

end

section
/-! SUPPORT. The Machine Supervisor's decisions on one lane: what its own updates leave, what a sequence
begun leaves of the ball, and a HALT or PARK that is placed or awaits its slot. -/

namespace Sys2Proof.Machine

open Sys2Proof

/-! ## Updates of one supervisor -/

theorem supervisor_modSupervisor_self (s : State) (l : LaneId) (f : Supervisor → Supervisor) :
    (s.modSupervisor l f).supervisor l = f (s.supervisor l) :=
  (supervisor_modSupervisor ..).trans (if_pos rfl)

/-- The pinsetter is read from the pairs alone. -/
theorem pinsetter_of_pairs {s t : State} (h : t.pairs = s.pairs) (l : LaneId) :
    t.pinsetter l = s.pinsetter l := by
  simp only [State.pinsetter, State.node, State.poller, State.pair, h]

/-- `t` comes from `s` with `v` as the supervisor of lane `l`, and the lane's ball and every pair as
they were. -/
structure Supervised (l : LaneId) (v : Supervisor) (s t : State) : Prop where
  supervisor : t.supervisor l = v
  tracker : t.tracker l = s.tracker l
  pairs : t.pairs = s.pairs

namespace Supervised

variable {l : LaneId} {v w : Supervisor} {s t u : State}

theorem refl (l : LaneId) (s : State) : Supervised l (s.supervisor l) s s := ⟨rfl, rfl, rfl⟩

theorem trans (h : Supervised l v s t) (k : Supervised l w t u) : Supervised l w s u :=
  ⟨k.supervisor, k.tracker.trans h.tracker, k.pairs.trans h.pairs⟩

theorem pinsetter (h : Supervised l v s t) : t.pinsetter l = s.pinsetter l :=
  pinsetter_of_pairs h.pairs l

theorem modSupervisor {f : Supervisor → Supervisor} (h : f (s.supervisor l) = v) :
    Supervised l v s (s.modSupervisor l f) :=
  ⟨(supervisor_modSupervisor_self ..).trans h, tracker_modSupervisor .., rfl⟩

theorem raiseMachineState (h : Supervised l v s t) : Supervised l v s (t.raiseMachineState l) :=
  ⟨h.supervisor, h.tracker, h.pairs⟩

/-- R81: a follow-on set. -/
theorem setFollowOn (s : State) (l : LaneId) (f : FollowOn) :
    Supervised l { s.supervisor l with followOn := f } s (s.setFollowOn l f) := by
  unfold State.setFollowOn
  split
  · next same => exact ⟨by rw [← same], rfl, rfl⟩
  · exact (modSupervisor (by rfl)).raiseMachineState

/-- R97 to R99: a follow-on of START cleared, or none there. -/
theorem clearStart (s : State) (l : LaneId) :
    ∃ f, Supervised l { s.supervisor l with followOn := f } s (s.clearStart l) := by
  unfold State.clearStart
  split
  · exact ⟨_, setFollowOn s l _⟩
  · exact ⟨_, refl l s⟩

/-- R118: a follow-on of START that CLEAR_FAULT set cleared, or none there. -/
theorem clearRestart (s : State) (l : LaneId) :
    ∃ f, Supervised l { s.supervisor l with followOn := f } s (s.clearRestart l) := by
  unfold State.clearRestart
  split
  · exact ⟨_, setFollowOn s l _⟩
  all_goals exact ⟨_, refl l s⟩

end Supervised

/-- R85, R87: the supervisor once the sequence in progress, if any, has ended unfinished. -/
def unfinished (v : Supervisor) : Supervisor :=
  { v with record := none, superseded := (v.record.map (·.number)).or v.superseded }

theorem Supervised.endUnfinished (s : State) (l : LaneId) :
    Supervised l (unfinished (s.supervisor l)) s (s.endUnfinished l) := by
  unfold State.endUnfinished
  split
  · next idle =>
    refine ⟨?_, rfl, rfl⟩
    rw [unfinished, idle, Option.map_none, Option.none_or, ← idle]
  · next r running =>
    refine ⟨?_, ?_, rfl⟩
    · rw [State.endStepConditions, supervisor_setLaneFaults, supervisor_modSupervisor_self, unfinished,
        running]
      rfl
    · rw [State.endStepConditions, tracker_setLaneFaults, tracker_modSupervisor]

/-- R93: the supervisor once an owed cycle, if any, is discarded: its park is kept as the follow-on. -/
def discarded (v : Supervisor) : Supervisor :=
  { v with owed := none, followOn := if v.owed = some .fullThenPark then .park else v.followOn }

theorem Supervised.discardOwed (s : State) (l : LaneId) :
    Supervised l (discarded (s.supervisor l)) s (s.discardOwed l) := by
  unfold State.discardOwed
  split
  · next idle =>
    refine ⟨?_, rfl, rfl⟩
    rw [discarded, idle, if_neg nofun, ← idle]
  · next owed => exact raiseMachineState (modSupervisor (by rw [discarded, owed]; rfl))
  · next n other owed =>
    refine raiseMachineState (modSupervisor ?_)
    rw [discarded, owed, if_neg fun e => other (Option.some.inj e)]

/-! ## A sequence begun (R82, R91) -/

section
variable {s : State} {l : LaneId}

/-- R91: where its machine is not READY, a lane that has changed is not left ARMED. -/
theorem tracker_laneChanged_unready (h : Unready (s.supervisor l)) :
    (s.laneChanged l).tracker l = rearm false (s.tracker l) := by
  have lane := lane_decideLift s (pairOf l) l
  have supervisor : (s.decideLift (pairOf l)).supervisor l = s.supervisor l :=
    congrArg Lane.supervisor lane
  rw [State.laneChanged, armingCheck_eq, armingPasses_unready (supervisor ▸ h), tracker_modTracker_self]
  exact congrArg (rearm false) (congrArg Lane.tracker lane)

theorem runningState_ne_ready (k : Sequence) : runningState k ≠ .ready := by cases k <;> nofun

/-- R82, R91: a sequence that begins leaves no ball to be bowled. -/
theorem tracker_beginSequence_takes {k : Sequence} (m : Option RestartMark)
    (h : slotTakes (s.pinsetter l) (sequenceCommand k ((s.supervisor l).cycle + 1)) = true) :
    (s.beginSequence l k m).tracker l = rearm false (s.tracker l) := by
  let c := sequenceCommand k ((s.supervisor l).cycle + 1)
  let u := ((s.modSupervisor l (newSequence k m)).place (pairOf l) (pinsetterAddr (sideOf l))
    c).raiseMachineState l
  have begun : s.beginSequence l k m = u.laneChanged l := if_pos h
  have tracker : u.tracker l = s.tracker l :=
    (tracker_raise ..).trans ((tracker_place ..).trans (tracker_modSupervisor ..))
  have supervisor : u.supervisor l = newSequence k m (s.supervisor l) := by
    refine (supervisor_raise ..).trans (Eq.trans ?_ (supervisor_modSupervisor_self ..))
    simp only [State.supervisor, State.lane, lanes_place]
  rw [begun, tracker_laneChanged_unready (.inl (by rw [supervisor]; exact runningState_ne_ready k)),
    tracker]

/-- A ball at rest is not armed by a check that fails. -/
theorem play_rearm_restful {x : Tracker} (h : x.play = .notArmed ∨ x.play = .armed) :
    (rearm false x).play = .notArmed := by
  rcases h with h | h <;> simp [rearm, h]

theorem rearm_resolved {x : Tracker} (h : x.play = .resolved) (b : Bool) : rearm b x = x := by
  simp only [rearm, h]

/-! ## HALT and PARK (R94, R95) -/

/-- R168: a HALT or PARK enters an empty slot or replaces a CYCLE. -/
theorem slotTakes_stop {n : Node} {k : StopKind} {m : CycleNo} :
    slotTakes n (sequenceCommand (stopSequence k) m) = true ↔
      n.slot = none ∨ ∃ j c q u, n.slot = some ⟨.cycle j c, q, u⟩ := by
  rcases n with ⟨_, _, _ | ⟨d, q, u⟩⟩
  · simp [slotTakes]
  · cases d <;> cases k <;> simp [slotTakes, replaces, stopSequence, sequenceCommand]

/-- R85, R94, R95: the supervisor once a HALT or PARK has begun in place of the sequence in progress. -/
def stopBegun (k : StopKind) (v : Supervisor) : Supervisor :=
  discarded { newSequence (stopSequence k) none (unfinished v) with
    awaiting := awaitingBehind k v.awaiting }

/-- R94, R95: what a HALT or PARK placed leaves of its lane: it runs in place of the sequence in progress,
its command is in the slot, no cycle is owed and no lane ARMED. -/
structure StopPlaced (l : LaneId) (k : StopKind) (s t : State) : Prop where
  supervisor : t.supervisor l = stopBegun k (s.supervisor l)
  pinsetter : t.pinsetter l =
    putCommand (sequenceCommand (stopSequence k) ((s.supervisor l).cycle + 1)) (s.pinsetter l)
  tracker : t.tracker l = rearm false (s.tracker l)

/-- R94, R95: a HALT or PARK that the slot of a pinsetter not LOST and owed nothing takes. -/
theorem placeStop_places {k : StopKind} (present : (s.pinsetter l).state ≠ .lost)
    (owed : (s.pinsetter l).owed = none)
    (takes : (s.pinsetter l).slot = none ∨ ∃ j c q u, (s.pinsetter l).slot = some ⟨.cycle j c, q, u⟩) :
    StopPlaced l k s (s.placeStop l k) := by
  let ended := s.endUnfinished l
  let u := ended.modSupervisor l fun v => { v with awaiting := awaitingBehind k v.awaiting }
  have placed : s.placeStop l k = (u.beginSequence l (stopSequence k) none).discardOwed l := by
    unfold State.placeStop
    rw [if_neg (by simp [present, owed]), if_pos (slotTakes_stop.2 takes)]
  have end_ := Supervised.endUnfinished s l
  have before := end_.trans (Supervised.modSupervisor (s := ended) (l := l)
    (f := fun v => { v with awaiting := awaitingBehind k v.awaiting }) (by rw [end_.supervisor]))
  have room : slotTakes (u.pinsetter l)
      (sequenceCommand (stopSequence k) ((u.supervisor l).cycle + 1)) = true :=
    slotTakes_stop.2 (by rw [before.pinsetter]; exact takes)
  obtain ⟨begun, command⟩ := beginSequence_takes (k := stopSequence k) none room
  have ball := tracker_beginSequence_takes (k := stopSequence k) none room
  have dropped := Supervised.discardOwed (u.beginSequence l (stopSequence k) none) l
  rw [placed]
  refine ⟨?_, ?_, ?_⟩
  · rw [dropped.supervisor, begun, before.supervisor]
    rfl
  · rw [dropped.pinsetter, command, before.supervisor, before.pinsetter]
    rfl
  · rw [dropped.tracker, ball, before.tracker]

/-- R82, R95: behind another HALT or PARK the command awaits the slot. -/
theorem placeStop_awaits {k : StopKind} (present : (s.pinsetter l).state ≠ .lost)
    (owed : (s.pinsetter l).owed = none)
    (full : ¬ ((s.pinsetter l).slot = none ∨
      ∃ j c q u, (s.pinsetter l).slot = some ⟨.cycle j c, q, u⟩)) :
    s.placeStop l k = s.modSupervisor l fun v => { v with awaiting := some (mergeOwed v.awaiting k) } := by
  unfold State.placeStop
  rw [if_neg (by simp [present, owed]), if_neg fun takes => full (slotTakes_stop.1 takes)]

/-- R115: a PARK is the strongest of what may await or be owed. -/
theorem mergeOwed_park (w : Option StopKind) : mergeOwed w .park = .park := by
  rcases w with _ | _ | _ <;> rfl

end

end Sys2Proof.Machine
end

section
/-! SUPPORT. Manual mode (O44): what the three requests answer, and what entering and leaving it make of
the lane. -/

namespace Sys2Proof.Machine

open Sys2Proof

section
variable {s : State} {n : Nat} {l : LaneId}

/-! ## The requests (R102 to R104) -/

theorem reqEnterManual_accepted (run : s.device = .run) (hl : s.mappedLane? n = some l)
    (closed : (s.entry l).state = .closed) (free : s.isMoveTarget l = false)
    (rests : (s.supervisor l).machine = .off ∨ (s.supervisor l).machine = .parked ∨
      (s.supervisor l).machine = .ready) (awaiting : (s.supervisor l).awaiting = none) :
    reqEnterManual n s = (s.enterManual l, accept) := by
  have machine : manualMachine (s.supervisor l).machine = true := by
    rcases rests with h | h | h <;> rw [h] <;> rfl
  simp [reqEnterManual, run, hl, closed, free, machine, awaiting]

theorem reqEnterManual_refused (run : s.device = .run) (hl : s.mappedLane? n = some l)
    (taken : (s.entry l).state ≠ .closed) : reqEnterManual n s = (s, refuse .badState) := by
  simp [reqEnterManual, run, hl, taken]

theorem reqLeaveManual_eq (run : s.device = .run) (hl : s.mappedLane? n = some l) :
    reqLeaveManual n s =
      if (s.entry l).state = .manual then (s.leaveManual l, accept) else (s, refuse .badState) := by
  simp only [reqLeaveManual, run, hl, ne_eq, not_true_eq_false, if_false]

/-- R103: a body that fits, for a lane in manual mode whose pinsetter is ALIVE. -/
theorem reqManualCommand_eq {body : List Byte} (run : s.device = .run)
    (hl : s.mappedLane? n = some l) (some_ : 1 ≤ body.length) (fits : body.length ≤ 32)
    (manual : (s.entry l).state = .manual) (alive : (s.pinsetter l).state = .alive) :
    reqManualCommand n body s =
      if (s.pinsetter l).slot.isSome then (s, refuse .busy)
      else (s.place (pairOf l) (pinsetterAddr (sideOf l)) (.manual body), accept) := by
  have body_fits : ¬ (body.isEmpty = true ∨ 32 < body.length) := by
    rintro (empty | long)
    · rw [List.isEmpty_iff.1 empty] at some_
      cases some_
    · omega
  simp only [reqManualCommand, run, hl, manual, alive, if_neg body_fits, ne_eq, not_true_eq_false,
    or_self, if_false]

/-! ## What they make of the lane -/

/-- R102: manual mode entered. -/
theorem enterManual_enters (s : State) (l : LaneId) :
    OnPair (pairOf l) (s.modEntry l fun e => { e with state := .manual }) (s.enterManual l) ∧
      (s.enterManual l).supervisor l = manualSupervisor (s.supervisor l) := by
  let u := s.modEntry l fun e => { e with state := .manual }
  refine ⟨(((OnPair.refl (pairOf l) u).modSupervisor l manualSupervisor rfl).raiseMachineState l
    rfl).laneChanged l rfl, ?_⟩
  have entered := (Supervised.modSupervisor (s := u) (l := l) (f := manualSupervisor)
    rfl).raiseMachineState
  rw [State.enterManual, supervisor_laneChanged, entered.supervisor, supervisor_modEntry]

/-- R104: a manual body leaves the slot. -/
theorem slot_dropManual {x : Node} {body : List Byte} {q : Serial} {u : Option Nat}
    (h : x.slot = some ⟨.manual body, q, u⟩) : (dropManual x).slot = none := by
  simp only [dropManual, h]

/-- R104: manual mode left. -/
theorem leaveManual_leaves (s : State) (l : LaneId) :
    OnPair (pairOf l) (s.modEntry l fun e => { e with state := .closed }) (s.leaveManual l) ∧
      (s.leaveManual l).supervisor l = { s.supervisor l with machine := .off } ∧
      (s.leaveManual l).pinsetter l = dropManual (s.pinsetter l) := by
  let u := (s.modEntry l fun e => { e with state := .closed }).modNode (pairOf l)
    (pinsetterAddr (sideOf l)) dropManual
  have off := (Supervised.modSupervisor (s := u) (l := l) (f := fun v => { v with machine := .off })
    rfl).raiseMachineState
  have left : s.leaveManual l =
      State.laneChanged ((u.modSupervisor l fun v => { v with machine := .off }).raiseMachineState l)
        l := rfl
  rw [left]
  refine ⟨((((OnPair.refl (pairOf l) _).modNode _ _ dropManual rfl).modSupervisor l _
    rfl).raiseMachineState l rfl).laneChanged l rfl, ?_, ?_⟩
  · have same : u.supervisor l = s.supervisor l :=
      supervisor_modEntry s l l fun e => { e with state := .closed }
    rw [supervisor_laneChanged, off.supervisor, same]
  · rw [pinsetter_laneChanged, off.pinsetter]
    exact node_modNode_self ..

end

end Sys2Proof.Machine

open Sys2Proof Sys2Proof.Machine

/-- Settles O44: each request's checks in order, then what it makes of the lane. -/
theorem manualModeRequests : Obligations.ManualModeRequests := by
  unfold Obligations.ManualModeRequests
  intro s tag n l trunk run hl
  obtain ⟨entered, manual⟩ := enterManual_enters s l
  obtain ⟨left, off, dropped⟩ := leaveManual_leaves s l
  have leaves := reqLeaveManual_eq run hl
  refine ⟨fun closed free rests awaiting => ⟨_, ?_, entered, manual⟩, fun taken => ?_,
    fun inManual => ⟨_, ?_, left, off, fun b q u slot => ?_⟩, fun other => ?_,
    fun body some_ fits inManual alive => ?_⟩
  · exact exec_of_act rfl trunk (reqEnterManual_accepted run hl closed free rests awaiting)
      ((Kept.refl s).enterManual l).trunk
  · exact exec_of_act rfl trunk (reqEnterManual_refused run hl taken) rfl
  · exact exec_of_act rfl trunk (leaves.trans (if_pos inManual)) ((Kept.refl s).leaveManual l).trunk
  · rw [dropped]
    exact slot_dropManual slot
  · exact exec_of_act rfl trunk (leaves.trans (if_neg other)) rfl
  · have commands := reqManualCommand_eq run hl some_ fits inManual alive
    refine ⟨fun empty => ?_, fun full => exec_of_act rfl trunk (commands.trans (if_pos full)) rfl⟩
    have placed : s.place (pairOf l) (pinsetterAddr (sideOf l)) (.manual body) =
        s.modNode (pairOf l) (pinsetterAddr (sideOf l)) (putCommand (.manual body)) :=
      if_pos (slotTakes_of_empty empty _)
    rw [if_neg (by simp [empty]), placed] at commands
    exact exec_of_act rfl trunk commands rfl

end

section
/-! SUPPORT. START_MACHINE and RE_RACK (O42): what the requests answer, and the sequence they begin. -/

namespace Sys2Proof.Machine

open Sys2Proof

section
variable {s u : State} {l : LaneId} {n : Nat}

/-! ## The requests (R98, R100) -/

theorem startable_iff (m : MachineState) : startable m = true ↔ m = .off ∨ m = .parked ∨ m = .halted := by
  cases m <;> simp [startable]

theorem reqStartMachine_badState (r : Option Resume) (run : s.device = .run)
    (hl : s.mappedLane? n = some l)
    (busy : (s.supervisor l).machine ≠ .off ∧ (s.supervisor l).machine ≠ .parked ∧
      (s.supervisor l).machine ≠ .halted) :
    reqStartMachine n r s = (s, refuse .badState) := by
  obtain ⟨off, parked, halted⟩ := busy
  have refused : ¬ startable (s.supervisor l).machine = true := by
    rw [startable_iff]
    rintro (h | h | h)
    exacts [off h, parked h, halted h]
  simp only [reqStartMachine, run, hl, ne_eq, not_true_eq_false, if_false]
  exact if_pos refused

/-- R98: a HALTED machine whose HALT has not ended, or that a command awaits. -/
theorem reqStartMachine_busy (r : Option Resume) (run : s.device = .run)
    (hl : s.mappedLane? n = some l) (halted : (s.supervisor l).machine = .halted)
    (busy : (s.supervisor l).record.isSome = true ∨ (s.supervisor l).awaiting.isSome = true ∨
      (s.pinsetter l).owed.isSome = true) :
    reqStartMachine n r s = (s, refuse .busy) := by
  have waits : s.haltPending l = true ∨ (s.pinsetter l).owed.isSome = true := by
    rw [State.haltPending, Bool.or_eq_true]
    exact or_assoc.2 busy
  simp only [reqStartMachine, run, hl, halted, startable, waits, ne_eq, not_true_eq_false, if_false,
    and_self, if_true]

/-- R98: a machine at rest is refused at STOP and started below it. -/
theorem reqStartMachine_rests (r : Option Resume) (run : s.device = .run)
    (hl : s.mappedLane? n = some l)
    (rests : (s.supervisor l).machine = .off ∨ (s.supervisor l).machine = .parked ∨
      (s.supervisor l).machine = .halted ∧ (s.supervisor l).record = none ∧
        (s.supervisor l).awaiting = none ∧ (s.pinsetter l).owed = none) :
    reqStartMachine n r s =
      if s.belowStop l then (s.startMachine l r, accept) else (s, refuse .condition) := by
  have taken : startable (s.supervisor l).machine = true :=
    (startable_iff _).2 (rests.imp_right (Or.imp_right And.left))
  have free : ¬ ((s.supervisor l).machine = .halted ∧
      (s.haltPending l = true ∨ (s.pinsetter l).owed.isSome = true)) := by
    rintro ⟨halted, busy⟩
    rcases rests with h | h | ⟨-, record, awaiting, owed⟩
    · rw [halted] at h; cases h
    · rw [halted] at h; cases h
    · simp [State.haltPending, State.sequencing, record, awaiting, owed] at busy
  simp only [reqStartMachine, run, hl, taken, if_neg free, ne_eq, not_true_eq_false, if_false]
  cases s.belowStop l <;> rfl

theorem reqReRack_badState (run : s.device = .run) (hl : s.mappedLane? n = some l)
    (busy : (s.supervisor l).machine ≠ .ready ∨ (s.supervisor l).owed.isSome = true) :
    reqReRack n s = (s, refuse .badState) := by
  have refused : (s.supervisor l).machine ≠ .ready ∨ ¬ restful (s.tracker l).play = true ∨
      (s.supervisor l).owed.isSome = true := busy.imp_right .inr
  simp only [reqReRack, run, hl, ne_eq, not_true_eq_false, if_false]
  exact if_pos refused

/-- R100: a READY machine with no ball and no LEAVE before it is refused at HOLD and re-racked below it. -/
theorem reqReRack_rests (run : s.device = .run) (hl : s.mappedLane? n = some l)
    (ready : (s.supervisor l).machine = .ready) (owed : (s.supervisor l).owed = none)
    (play : (s.tracker l).play = .notArmed ∨ (s.tracker l).play = .armed)
    (full : s.facesLeave l = false) :
    reqReRack n s =
      if s.belowHold l then (s.beginSequence l .reRack none, accept) else (s, refuse .condition) := by
  have rests : restful (s.tracker l).play = true := by rcases play with h | h <;> rw [h] <;> rfl
  simp only [reqReRack, run, hl, ready, owed, rests, full, ne_eq, not_true_eq_false, if_false, or_self,
    Option.isSome_none, Bool.false_eq_true]
  cases s.belowHold l <;> rfl

/-! ## The sequence begun (R82) -/

/-- R82, R84: a sequence begun by a request or a keystroke: the next cycle number in the slot, the first
step awaited, unacknowledged and unwatched; nothing else changes but the equipment of the pair. -/
structure SequenceBegun (l : LaneId) (k : Sequence) (mark : Option RestartMark) (s t : State) : Prop where
  onPair : OnPair (pairOf l) s t
  machine : (t.supervisor l).machine = runningState k
  cycle : (t.supervisor l).cycle = (s.supervisor l).cycle + 1
  record : (t.supervisor l).record =
    some ⟨k, (s.supervisor l).cycle + 1, firstExpected k, false, none, mark⟩
  slot : (t.pinsetter l).slot =
    some ⟨sequenceCommand k ((s.supervisor l).cycle + 1), (s.pinsetter l).nextSerial, none⟩

/-- A sequence begun after decisions that leave the lane's cycle number and its pinsetter. -/
theorem beginSequence_begun (k : Sequence) (mark : Option RestartMark) (onPair : OnPair (pairOf l) s u)
    (cycle : (u.supervisor l).cycle = (s.supervisor l).cycle) (same : u.pinsetter l = s.pinsetter l)
    (empty : (s.pinsetter l).slot = none) : SequenceBegun l k mark s (u.beginSequence l k mark) := by
  obtain ⟨supervisor, pinsetter⟩ := beginSequence_takes (s := u) (l := l) (k := k) mark
    (slotTakes_of_empty (same ▸ empty) _)
  refine ⟨onPair.beginSequence l k mark rfl, ?_, ?_, ?_, ?_⟩
  · rw [supervisor]; rfl
  · rw [supervisor, ← cycle]; rfl
  · rw [supervisor, ← cycle]; rfl
  · rw [pinsetter, ← cycle, same]; rfl

/-- R98: a START carries a restart mark unless its machine was OFF, where the lane has a holder. -/
theorem startMark_eq (r : Option Resume)
    (rests : startable (s.supervisor l).machine = true) : s.startMark l r =
      if (s.supervisor l).machine ≠ .off ∧ (s.entry l).holder.isSome = true then some ⟨r⟩ else none := by
  have mark : s.restartMark l r = if (s.entry l).holder.isSome = true then some ⟨r⟩ else none := by
    rw [State.restartMark]
    cases (s.entry l).holder <;> rfl
  rcases (startable_iff _).1 rests with h | h | h <;> simp [State.startMark, h, mark]

/-- R98: an accepted START_MACHINE. -/
theorem startMachine_begins (r : Option Resume) (empty : (s.pinsetter l).slot = none) :
    SequenceBegun l .start (s.startMark l r) s (s.startMachine l r) ∧
      ((s.startMachine l r).supervisor l).followOn = .none := by
  let u := s.modSupervisor l fun v => { v with followOn := .none }
  have cleared : Supervised l { s.supervisor l with followOn := .none } s u :=
    Supervised.modSupervisor rfl
  refine ⟨beginSequence_begun (u := u) .start _ ((OnPair.refl _ s).modSupervisor l _ rfl)
    (by rw [cleared.supervisor]) cleared.pinsetter empty, ?_⟩
  have begun := (beginSequence_takes (s := u) (l := l) (k := .start) (s.startMark l r)
    (slotTakes_of_empty empty _)).1
  rw [cleared.supervisor] at begun
  exact congrArg Supervisor.followOn begun

/-- R91, R100: a RE_RACK begun leaves a lane at rest NOT_ARMED. -/
theorem play_reRack (empty : (s.pinsetter l).slot = none)
    (play : (s.tracker l).play = .notArmed ∨ (s.tracker l).play = .armed) :
    ((s.beginSequence l .reRack none).tracker l).play = .notArmed := by
  rw [tracker_beginSequence_takes none (slotTakes_of_empty empty _)]
  exact play_rearm_restful play

end

end Sys2Proof.Machine
end

section
/-! SUPPORT. The keystrokes of a console (O42): the answer that carries one, and what RE_RACK and CALL_DESK
bring about. -/

namespace Sys2Proof.Machine

open Sys2Proof

section
variable {s : State} {l : LaneId}

theorem roleOf_consoleAddr (d : Side) : roleOf (consoleAddr d) = .console d := by cases d <;> rfl

theorem pinsetterAddr_ne_consoleAddr (c d : Side) : pinsetterAddr c ≠ consoleAddr d := by
  cases c <;> cases d <;> decide

/-! ## The answer (R165, R170) -/

/-- R166, R170: an answer of a console that was polled with no command and carries a keystroke. -/
theorem takeAnswer_keystroke {d : Nat} {r : CommandResult} {k : Keystroke}
    (alive : (s.node (pairOf l) (consoleAddr (sideOf l))).state = .alive)
    (enabled : (s.entry l).enabled = true) (console : (s.entry l).hasConsole = true)
    (stays : s.NoneLeaving) :
    let p := pairOf l
    let a := consoleAddr (sideOf l)
    s.takeAnswer p ⟨a, none, d, false⟩ ⟨a, r, .console (some k)⟩ =
      ((s.modNode p a fun n => { n with misses := 0 }).keystroke l k).nextPoll p := by
  intro p a
  let u := s.modNode p a fun n => { n with misses := 0 }
  have answers : s.nodeAnswers p a = u :=
    nodeAnswers_alive alive fun d h => by rw [roleOf_consoleAddr] at h; cases h
  have required : u.required p a = true := by
    have same : ∀ k, u.entry k = s.entry k := fun _ => rfl
    simp only [State.required, a, p, roleOf_consoleAddr, laneAt_pairOf, same, enabled, console]
    rfl
  have stays' : (u.keystroke l k).NoneLeaving :=
    OnPair.noneLeaving (((OnPair.refl p s).modNode p a _ rfl).keystroke l k rfl) stays
  rw [State.takeAnswer, answers]
  simp only [State.resolveCommand, State.handContents, required, or_true, if_true, State.takeContents,
    State.examineAt, a, p, roleOf_consoleAddr, laneAt_pairOf]
  rw [settlePair_stays stays']

/-- R165, R171: the frame of a keystroke ends the poll of its console. -/
theorem exec_keystroke {d : Nat} (b : Byte)
    (polled : (s.poller (pairOf l)).poll = some ⟨consoleAddr (sideOf l), none, d, false⟩)
    (alive : (s.node (pairOf l) (consoleAddr (sideOf l))).state = .alive)
    (enabled : (s.entry l).enabled = true) (console : (s.entry l).hasConsole = true)
    (stays : s.NoneLeaving) :
    let p := pairOf l
    let a := consoleAddr (sideOf l)
    let covered := [BitVec.ofNat 8 (a.val + 1), 2#8, 0#8, 1#8, b]
    exec (.answerReceived p ([0x5A#8] ++ covered ++ bytes2 (crc16 covered).toNat)) s =
      .next (((s.modNode p a fun n => { n with misses := 0 }).keystroke l
        (keystrokeOf b)).nextPoll p).settleTrunk := by
  intro p a covered
  have read := readAnswer_answer (result := 0#8) (count := 1#8) (body := [b]) (addressOf_succ a)
    (c := .console (some (keystrokeOf b))) (by rw [roleOf_consoleAddr]; rfl)
  have taken := exec_answerReceived polled rfl read rfl
  rwa [takeAnswer_keystroke alive enabled console stays] at taken

/-! ## RE_RACK and CALL_DESK (R101, R171) -/

/-- R101: without a holder that allows it a re-rack is refused. -/
theorem reRackReason_notAllowed
    (h : ¬ ∃ x, (∃ i, (s.entry l).holder = some i ∧ s.session i = some x) ∧
      x.terms.reRackAllowed = true) : s.reRackReason l = some .notAllowed := by
  unfold State.reRackReason
  split
  · rfl
  · next i x held =>
    refine if_pos (Bool.eq_false_iff.2 fun allowed => h ⟨x, ⟨i, ?_⟩, allowed⟩)
    exact holder_eq_some.1 held

/-- R101: what is looked at where the holder allows a re-rack. -/
theorem reRackReason_allowed {i : SessionId} {x : Session} (holds : (s.entry l).holder = some i)
    (hx : s.session i = some x) (allowed : x.terms.reRackAllowed = true) :
    s.reRackReason l =
      if (s.tracker l).play ≠ .armed then some .notArmed
      else if x.nextBall.faced = .leave then some .facesLeave
      else none := by
  simp only [State.reRackReason, holder_eq_some.2 ⟨holds, hx⟩, allowed, Bool.true_eq_false, if_false]

/-- A notice raised, in the form in which a keystroke's outcome is told. -/
theorem raise_told (s : State) (n : Nat) (x : NoticePayload) :
    s.raise n x = { s with notices := (s.raise n x).notices } ∧
      ∃ m ∈ (s.raise n x).notices, m.source = n ∧ m.payload = x :=
  ⟨rfl, exists_mem_addNotice ..⟩

/-- R101: a re-rack refused is told, and changes nothing else. -/
theorem consoleReRack_refused {r : ReRackReason} (h : s.reRackReason l = some r) :
    s.consoleReRack l = s.raise (laneSource l) (.reRackRefused l (s.entry l).holder r) := by
  simp only [State.consoleReRack, h]

theorem consoleReRack_begins (h : s.reRackReason l = none) :
    s.consoleReRack l = s.beginSequence l .reRack none := by
  simp only [State.consoleReRack, h]

/-- R171: what CONSOLE_CALL tells. -/
theorem consoleCall_tells (s : State) (l : LaneId) : ∃ c, s.consoleCall l =
    s.raise (laneSource l) (.consoleCall c) ∧ c.lane = l ∧ c.holder = (s.entry l).holder ∧
    ((s.entry l).holder = none → c.slot = none ∧ c.handle = none) ∧
    ∀ x, (∃ i, (s.entry l).holder = some i ∧ s.session i = some x) → c.slot = x.slot ∧
      ∀ k b, x.slot = some k → bowlerAt x k = some b → c.handle = some b.handle := by
  refine ⟨_, rfl, rfl, rfl, fun empty => ?_, ?_⟩
  · simp [State.holder, empty]
  · rintro x ⟨i, holds, hx⟩
    have holder := holder_eq_some.2 ⟨holds, hx⟩
    refine ⟨by simp [holder], fun k b slot bowler => ?_⟩
    have at_k : nth1 x.bowlers k = some b := bowler
    simp [holder, slot, handleOf, at_k]

end

end Sys2Proof.Machine

open Sys2Proof Sys2Proof.Machine

/-- Settles O42: the checks of the requests and of the keystroke, then the sequence begun or the notice. -/
theorem startAndReRackBeginSequences : Obligations.StartAndReRackBeginSequences := by
  unfold Obligations.StartAndReRackBeginSequences
  intro s tag n l trunk run hl v begun
  refine ⟨fun r => ⟨fun busy => ?_, fun halted busy => ?_, fun rests => ?_⟩, fun busy => ?_,
    fun ready owed play full => ?_, fun d => ?_⟩
  · exact exec_of_act rfl trunk (reqStartMachine_badState r run hl busy) rfl
  · exact exec_of_act rfl trunk (reqStartMachine_busy r run hl halted busy) rfl
  · have answer := reqStartMachine_rests r run hl rests
    refine ⟨fun stop => ?_, fun below empty => ?_⟩
    · exact exec_of_act rfl trunk (answer.trans (if_neg (by simp [stop]))) rfl
    · obtain ⟨⟨onPair, machine, cycle, record, slot⟩, followOn⟩ := startMachine_begins r empty
      rw [startMark_eq r ((startable_iff _).2 (rests.imp_right (Or.imp_right And.left)))] at record
      exact ⟨_, exec_of_act rfl trunk (answer.trans (if_pos below))
        ((Kept.refl s).startMachine l r).trunk, followOn, onPair, machine, cycle, record, slot⟩
  · exact exec_of_act rfl trunk (reqReRack_badState run hl busy) rfl
  · have answer := reqReRack_rests run hl ready owed play full
    refine ⟨fun hold => ?_, fun below empty => ?_⟩
    · exact exec_of_act rfl trunk (answer.trans (if_neg (by simp [hold]))) rfl
    · obtain ⟨onPair, machine, cycle, record, slot⟩ :=
        beginSequence_begun .reRack none (OnPair.refl _ s) rfl rfl empty
      exact ⟨_, exec_of_act rfl trunk (answer.trans (if_pos below))
        ((Kept.refl s).beginSequence l .reRack none).trunk, play_reRack empty play, onPair, machine,
        cycle, record, slot⟩
  · intro p a polled alive enabled console stays key told refused held
    let u := s.modNode p a fun n => { n with misses := 0 }
    have pressed : ∀ b, key b = .next ((u.keystroke l (keystrokeOf b)).nextPoll p).settleTrunk :=
      fun b => exec_keystroke b polled alive enabled console stays
    have refuses : ∀ r, s.reRackReason l = some r → refused r := fun r reason => by
      have e : u.keystroke l (keystrokeOf 1) = _ := consoleReRack_refused (s := u) reason
      exact ⟨_, pressed 1, by rw [e]; exact raise_told ..⟩
    refine ⟨fun none_allows => refuses _ (reRackReason_notAllowed none_allows),
      fun x ⟨i, holds, hx⟩ allowed => ?_, ?_⟩
    · have reason := reRackReason_allowed holds hx allowed
      refine ⟨fun unarmed => refuses _ (reason.trans (if_pos unarmed)), fun armed leave => ?_,
        fun armed full empty => ?_⟩
      · exact refuses _ (by rw [reason, if_neg (by simp [armed]), if_pos leave])
      · have free : s.reRackReason l = none := by rw [reason]; simp [armed, full]
        have e : u.keystroke l (keystrokeOf 1) = _ := consoleReRack_begins (s := u) free
        have same : u.pinsetter l = s.pinsetter l := (node_modNode ..).trans
          (if_neg fun c => pinsetterAddr_ne_consoleAddr _ _ c.2)
        obtain ⟨onPair, machine, cycle, record, slot⟩ := beginSequence_begun (l := l) .reRack none
          ((OnPair.refl p s).modNode p a (fun n => { n with misses := 0 }) rfl) rfl same empty
        refine ⟨_, pressed 1, ?_⟩
        rw [e]
        exact ⟨play_reRack (same ▸ empty) (.inr armed), onPair, machine, cycle, record, slot⟩
    · obtain ⟨c, call, tells⟩ := consoleCall_tells u l
      have e : u.keystroke l (keystrokeOf 2) = _ := call
      obtain ⟨others, m, hm, source, payload⟩ := raise_told u (laneSource l) (.consoleCall c)
      refine ⟨_, pressed 2, ?_⟩
      rw [e]
      exact ⟨others, m, hm, source, c, payload, tells⟩

end

section
/-! SUPPORT. Machine work that waited (O56): an owed cycle, a follow-on of PARK and a follow-on of START
that run when they may. -/

namespace Sys2Proof.Machine

open Sys2Proof

section
variable {s : State} {l : LaneId}

/-! ## An owed cycle (R93) -/

/-- R93: below HOLD a READY machine without a sequence runs the cycle it owes. -/
theorem runOwed_runs {n : Need} (record : (s.supervisor l).record = none)
    (ready : (s.supervisor l).machine = .ready) (below : s.belowHold l = true)
    (owed : (s.supervisor l).owed = some n) : s.runOwed l = s.runNeed l n := by
  simp only [State.runOwed, owed]
  exact if_pos ⟨ready, record, below⟩

/-- R92, R93: a need run: its cycle is in the empty slot, nothing is owed, and a FULL-then-park leaves its
park to follow. -/
theorem runNeed_runs (n : Need) (empty : (s.pinsetter l).slot = none) :
    (s.runNeed l n).supervisor l = newSequence (needSequence n) none { s.supervisor l with
      owed := none, followOn := if n = .fullThenPark then .park else (s.supervisor l).followOn } ∧
    (s.runNeed l n).pinsetter l =
      putCommand (sequenceCommand (needSequence n) ((s.supervisor l).cycle + 1)) (s.pinsetter l) := by
  let u := s.modSupervisor l fun v =>
    { v with owed := none, followOn := if n = .fullThenPark then .park else v.followOn }
  have given : Supervised l { s.supervisor l with
      owed := none, followOn := if n = .fullThenPark then .park else (s.supervisor l).followOn } s u :=
    Supervised.modSupervisor rfl
  obtain ⟨supervisor, pinsetter⟩ := beginSequence_takes (s := u) (l := l) (k := needSequence n) none
    (slotTakes_of_empty (given.pinsetter ▸ empty) _)
  rw [given.supervisor] at supervisor pinsetter
  rw [given.pinsetter] at pinsetter
  exact ⟨supervisor, pinsetter⟩

theorem sequenceCommand_need (n : Need) (m : CycleNo) : sequenceCommand (needSequence n) m =
    .cycle (if n = .first then .firstCycle else .fullCycle) m := by cases n <;> rfl

theorem runningState_need (n : Need) : runningState (needSequence n) = .cycling := by cases n <;> rfl

/-! ## The follow-ons (R96, R97) -/

theorem followPark_idle (h : (s.supervisor l).followOn ≠ .park) : s.followPark l = s :=
  if_neg fun c => h c.1

theorem followStart_idle (h : (s.supervisor l).followOn = .none ∨ (s.supervisor l).followOn = .park) :
    s.followStart l = s := by
  unfold State.followStart
  split
  · rfl
  · rcases h with h | h <;> rw [h]

/-- R97: a follow-on of PARK whose machine is at rest is carried out. -/
theorem followPark_parks (follow : (s.supervisor l).followOn = .park)
    (record : (s.supervisor l).record = none)
    (rests : (s.supervisor l).machine = .ready ∨ (s.supervisor l).machine = .halted)
    (owed : (s.supervisor l).owed = none) (need : (s.supervisor l).deferredNeed = none)
    (play : (s.tracker l).play ≠ .resolved) :
    s.followPark l = (s.modSupervisor l fun v => { v with followOn := .none }).placeStop l .park := by
  have may : s.parkMayFollow l = true := by
    simp only [State.parkMayFollow, State.sequencing, record, owed, need, Option.isSome_none,
      Option.isNone_none, Bool.not_false, Bool.and_true, Bool.and_eq_true, Bool.or_eq_true, beq_iff_eq,
      bne_iff_ne]
    exact ⟨rests, play⟩
  exact if_pos ⟨follow, may⟩

/-- R96: a follow-on of START of a PARKED machine with a holder begins START below STOP. -/
theorem followStart_starts (follow : (s.supervisor l).followOn = .start)
    (record : (s.supervisor l).record = none) (parked : (s.supervisor l).machine = .parked)
    (free : (s.pinsetter l).owed = none) (below : s.belowStop l = true)
    (holder : (s.entry l).holder.isSome = true) :
    s.followStart l = (s.setFollowOn l .none).beginSequence l .start none := by
  unfold State.followStart
  rw [if_neg (by simp [State.sequencing, record, free]), follow, parked]
  exact if_pos ⟨below, holder⟩

end

end Sys2Proof.Machine

open Sys2Proof Sys2Proof.Machine

/-- Settles O56: the work is done where its conditions hold, and the lane, which nobody leaves, stands
after it. -/
theorem deferredMachineWorkRuns : Obligations.DeferredMachineWorkRuns := by
  unfold Obligations.DeferredMachineWorkRuns
  intro s l stays v m
  have settled : ∀ {t : State}, OnPair (pairOf l) s t → t.settleLane l = t :=
    fun onPair => settleLane_stays ((onPair.noneLeaving stays).holderStays l)
  have stands := settled (OnPair.refl _ s)
  refine ⟨fun idle => ?_, fun idle => ?_, fun record empty => ⟨fun n ready below owed => ?_,
    fun follow rests owed need play present free => ?_, fun follow parked free below holder => ?_⟩⟩
  · show State.done ((s.followPark l).settleLane l) = _
    rw [followPark_idle idle, stands]
    rfl
  · show State.done ((s.followStart l).settleLane l) = _
    rw [followStart_idle idle, stands]
    rfl
  · let t := (s.runOwed l).armingCheck l
    have onPair : OnPair (pairOf l) s t := ((OnPair.refl _ s).runOwed l rfl).armingCheck l rfl
    obtain ⟨supervisor, pinsetter⟩ := runNeed_runs n empty
    have ran : t = (s.runNeed l n).armingCheck l := by
      rw [← runOwed_runs record ready below owed]
    refine ⟨t, congrArg State.done (settled onPair), onPair, ?_⟩
    rw [ran, supervisor_armingCheck, pinsetter_armingCheck, supervisor, pinsetter, sequenceCommand_need]
    exact ⟨runningState_need n, rfl, rfl, rfl, rfl⟩
  · let t := s.followPark l
    have onPair : OnPair (pairOf l) s t := (OnPair.refl _ s).followPark l rfl
    let u := s.modSupervisor l fun v => { v with followOn := .none }
    have cleared : Supervised l { s.supervisor l with followOn := .none } s u :=
      Supervised.modSupervisor rfl
    have follows : t = u.placeStop l .park := followPark_parks follow record rests owed need play
    have placed : StopPlaced l .park u (u.placeStop l .park) := placeStop_places present free (.inl empty)
    obtain ⟨supervisor, pinsetter, _⟩ := placed
    rw [cleared.supervisor] at supervisor pinsetter
    refine ⟨t, congrArg State.done (settled onPair), onPair, ?_⟩
    have noPark : v.owed ≠ some .fullThenPark := by rw [owed]; nofun
    rw [follows, supervisor, pinsetter]
    exact ⟨if_neg noPark, rfl, rfl, rfl⟩
  · let t := s.followStart l
    have onPair : OnPair (pairOf l) s t := (OnPair.refl _ s).followStart l rfl
    have cleared := Supervised.setFollowOn s l .none
    obtain ⟨supervisor, pinsetter⟩ := beginSequence_takes (s := s.setFollowOn l .none) (l := l)
      (k := .start) none (slotTakes_of_empty (cleared.pinsetter ▸ empty) _)
    rw [cleared.supervisor] at supervisor pinsetter
    rw [cleared.pinsetter] at pinsetter
    have starts : t = (s.setFollowOn l .none).beginSequence l .start none :=
      followStart_starts follow record parked free below holder
    refine ⟨t, congrArg State.done (settled onPair), onPair, ?_⟩
    rw [starts, supervisor, pinsetter]
    exact ⟨rfl, rfl, rfl, rfl⟩

end

section
/-! SUPPORT. STOP_MACHINE (O43): what the end of a superseded sequence brings about on a lane whose machine
a HALT or PARK has stopped, and the request. -/

namespace Sys2Proof.Machine

open Sys2Proof

/-! ## A machine that is stopping (R87, log entry 18) -/

/-- The machine of a HALT or PARK in progress. -/
structure Stopping (v : Supervisor) : Prop where
  machine : v.machine = .halted ∨ v.machine = .parking
  record : v.record.isSome = true

theorem Stopping.unready {v : Supervisor} (h : Stopping v) : Unready v :=
  .inl (by rcases h.machine with e | e <;> rw [e] <;> nofun)

/-- What the need of a superseded sequence may change of a lane that is stopping: the follow-on and the
need deferred; its pinsetter stands, and a ball that is over stays over. -/
structure StaysStopping (l : LaneId) (s t : State) : Prop where
  supervisor : ∃ f d, t.supervisor l = { s.supervisor l with followOn := f, deferredNeed := d }
  pinsetter : t.pinsetter l = s.pinsetter l
  play : (s.tracker l).play = .notArmed → (t.tracker l).play = .notArmed

namespace StaysStopping

variable {l : LaneId} {s t u : State}

theorem refl (l : LaneId) (s : State) : StaysStopping l s s := ⟨⟨_, _, rfl⟩, rfl, id⟩

theorem trans (h : StaysStopping l s t) (k : StaysStopping l t u) : StaysStopping l s u where
  supervisor := by
    obtain ⟨_, _, e⟩ := h.supervisor
    obtain ⟨f, d, e'⟩ := k.supervisor
    exact ⟨f, d, by rw [e', e]⟩
  pinsetter := k.pinsetter.trans h.pinsetter
  play := fun noBall => k.play (h.play noBall)

theorem stopping (h : StaysStopping l s t) (stops : Stopping (s.supervisor l)) :
    Stopping (t.supervisor l) := by
  obtain ⟨_, _, e⟩ := h.supervisor
  rw [e]
  exact ⟨stops.machine, stops.record⟩

theorem of_supervised {f : FollowOn} {d : Option Need}
    (h : Supervised l { s.supervisor l with followOn := f, deferredNeed := d } s t) :
    StaysStopping l s t :=
  ⟨⟨f, d, h.supervisor⟩, h.pinsetter, fun noBall => by rw [h.tracker, noBall]⟩

/-- R90: no lane is armed by a machine that is stopping. -/
theorem armingCheck (stops : Stopping (s.supervisor l)) : StaysStopping l s (s.armingCheck l) := by
  refine ⟨⟨_, _, supervisor_armingCheck ..⟩, pinsetter_armingCheck .., fun noBall => ?_⟩
  rw [armingCheck_unready stops.unready (by rw [noBall]; nofun), noBall]

/-- R97: and no park follows while its sequence runs. -/
theorem followPark (stops : Stopping (s.supervisor l)) : s.followPark l = s :=
  followPark_waits (.inr stops.record)

end StaysStopping

section
variable {s u w : State} {l : LaneId}

theorem needTaken_notArmed (noBall : (s.tracker l).play = .notArmed) : s.needTaken l = s := by
  simp only [State.needTaken, noBall]

/-- R92: a need met by a HALTED or PARKING machine leaves at most its park to follow, and ends a RESOLVED
ball (R79). -/
theorem takeNeed_stopping (stops : Stopping (s.supervisor l)) (n : Need) :
    StaysStopping l s (s.takeNeed l n) ∧
      ((s.tracker l).play = .resolved → ((s.takeNeed l n).tracker l).play = .notArmed) := by
  obtain ⟨u, f, given, taken⟩ : ∃ u f, Supervised l { s.supervisor l with followOn := f } s u ∧
      s.takeNeed l n = ((u.needTaken l).armingCheck l).followPark l := by
    unfold State.takeNeed
    rcases stops.machine with m | m <;> rw [m] <;> dsimp only
    · split
      · exact ⟨_, _, Supervised.setFollowOn s l .park, rfl⟩
      · exact ⟨s, _, Supervised.refl l s, rfl⟩
    · exact ⟨s, _, Supervised.refl l s, rfl⟩
  let v := u.needTaken l
  obtain ⟨supervisor, pairs⟩ := needTaken_equipment (s := u) (l := l) l
  have first : StaysStopping l s u := .of_supervised given
  have second : StaysStopping l u v :=
    ⟨⟨_, _, supervisor⟩, pinsetter_of_pairs pairs l,
      fun noBall => by rw [show v = u from needTaken_notArmed noBall, noBall]⟩
  have before := first.trans second
  have third : StaysStopping l v (v.armingCheck l) := .armingCheck (before.stopping stops)
  have all := before.trans third
  rw [taken, StaysStopping.followPark (all.stopping stops)]
  exact ⟨all, fun resolved => third.play (needTaken_play (given.tracker ▸ resolved))⟩

/-- R42: a need deferred to the end of the sequence is met likewise. -/
theorem handDeferred_stopping (stops : Stopping (s.supervisor l)) :
    StaysStopping l s (s.handDeferred l) := by
  unfold State.handDeferred
  split
  · exact .refl l s
  · next n _ =>
    have handed : StaysStopping l s (s.modSupervisor l fun v => { v with deferredNeed := none }) :=
      .of_supervised (.modSupervisor rfl)
    exact handed.trans (takeNeed_stopping (handed.stopping stops) n).1

/-- R87: what follows the held result of a superseded sequence. -/
theorem superseded_stopping (stops : Stopping (s.supervisor l)) :
    StaysStopping l s (((s.handDeferred l).armingCheck l).followPark l) := by
  have handed := handDeferred_stopping stops
  have all := handed.trans (.armingCheck (handed.stopping stops))
  rwa [StaysStopping.followPark (all.stopping stops)]

/-! ## The held result of a plain first ball (R27) -/

theorem applyHeld_applies {i : SessionId} {x : Session} {r : BallResult}
    (holds : (s.entry l).holder = some i) (hx : s.session i = some x) (held : x.held = some r) :
    s.applyHeld l = s.applyResult l i r := by
  simp only [State.applyHeld, holder_eq_some.2 ⟨holds, hx⟩, held]

/-- R27: a plain first ball that makes no game charge, whatever need its session's state makes of it. -/
theorem applyResult_firstBall {i : SessionId} {x : Session} {r : BallResult} {k f : Nat} {b : Bowler}
    (hx : s.session i = some x) (plain : PlainFirstBall x r k f b) (charge : ¬ ChargeDue x f b) :
    ∃ payload need, s.applyResult l i r =
      ((s.setSession i (some (afterFirstBall x r k f b))).raise (laneSource l) payload).takeNeed l
        need := by
  obtain rfl : x.nextBall.slot = k := congrArg NextBall.slot plain.faces
  obtain rfl : x.nextBall.frame = f := congrArg NextBall.frame plain.faces
  obtain ⟨c, hc, -, balls⟩ := plain.bowlerAfter
  have goesOn : progress x.nextBall.frame (frameBalls c.game x.nextBall.frame) ≠ .complete := by
    rw [balls, progress_firstBall plain.frame.2 plain.leaves]
    nofun
  obtain ⟨payload, applied⟩ := applyResult_goesOn (l := l) hx plain.bowler (plain.records charge) hc goesOn
    (chargeDue_eq_false charge) plain.stays plain.noResume
  exact ⟨payload, _, applied⟩

/-- R27, R87: the end of a superseded sequence that holds a plain first ball back. -/
theorem supersededReleases_firstBall {i : SessionId} {x : Session} {r : BallResult} {k f : Nat}
    {b : Bowler} (onPair : OnPair (pairOf l) s w)
    (stops : Stopping (w.supervisor l)) (holds : (s.entry l).holder = some i)
    (hx : s.session i = some x) (held : x.held = some r) (plain : PlainFirstBall x r k f b)
    (charge : ¬ ChargeDue x f b) :
    let t := w.supersededReleases l
    OnPair (pairOf l) (s.setSession i (some (afterFirstBall x r k f b))) t ∧ StaysStopping l w t ∧
      ((w.tracker l).play = .resolved → (t.tracker l).play = .notArmed) := by
  intro t
  have hw : w.session i = some x := (onPair.session i).trans hx
  obtain ⟨payload, need, result⟩ := applyResult_firstBall (l := l) hw plain charge
  let z := (w.setSession i (some (afterFirstBall x r k f b))).raise (laneSource l) payload
  have scored : w.applyHeld l = z.takeNeed l need :=
    (applyHeld_applies (by rw [onPair.entry]; exact holds) hw held).trans result
  have ended : t = (((z.takeNeed l need).handDeferred l).armingCheck l).followPark l := by
    rw [← scored]
    rfl
  have onPair' := ((onPair.setSession_congr i (some (afterFirstBall x r k f b))).raise (laneSource l)
    payload).takeNeed l need rfl
  obtain ⟨met, noBall⟩ := takeNeed_stopping (s := z) (l := l) stops need
  have rest := superseded_stopping (met.stopping stops)
  have recorded : StaysStopping l w z := ⟨⟨_, _, rfl⟩, rfl, id⟩
  rw [ended]
  exact ⟨((onPair'.handDeferred l rfl).armingCheck l rfl).followPark l rfl,
    recorded.trans (met.trans rest), fun resolved => rest.play (noBall resolved)⟩

/-! ## The request (R99) -/

theorem stoppable_iff (k : StopKind) (m : MachineState) : stoppable k m = true ↔
    (m = .starting ∨ m = .ready ∨ m = .cycling) ∨ m = .halted ∧ k = .park := by
  cases m <;> simp [stoppable]

theorem reqStopMachine_eq {n : Nat} {k : StopKind} (run : s.device = .run)
    (hl : s.mappedLane? n = some l) : reqStopMachine n k s =
      if stoppable k (s.supervisor l).machine then (s.stopMachine l k, accept)
      else (s, refuse .badState) := by
  simp only [reqStopMachine, run, hl, ne_eq, not_true_eq_false, if_false]

/-- R99, R94, R95: an accepted STOP_MACHINE places its HALT or PARK, with the end of the sequence that it
supersedes. -/
theorem stopMachine_places {k : StopKind} (h : stoppable k (s.supervisor l).machine = true) :
    s.stopMachine l k = (((s.clearStart l).placeStop l k).stopReleases l
      ((s.clearStart l).supervisor l)).settlePair (pairOf l) := by
  obtain ⟨f, cleared⟩ := Supervised.clearStart s l
  have machine : ((s.clearStart l).supervisor l).machine = (s.supervisor l).machine := by
    rw [cleared.supervisor]
  cases k with
  | halt =>
    have rise : (s.clearStart l).stopRise l = (s.clearStart l).placeStop l .halt := by
      unfold State.stopRise
      rcases (stoppable_iff ..).1 h with (m | m | m) | ⟨_, m⟩
      · rw [machine, m]
      · rw [machine, m]
      · rw [machine, m]
      · cases m
    rw [← rise]
    rfl
  | park =>
    have rise : (s.clearStart l).parkRise l = (s.clearStart l).placeStop l .park := by
      unfold State.parkRise
      rcases (stoppable_iff ..).1 h with (m | m | m) | ⟨m, _⟩ <;> rw [machine, m]
    rw [← rise]
    rfl

/-- R85, R94, R95: a HALT or PARK that has superseded what the lane's machine was doing. -/
structure StopRuns (l : LaneId) (k : StopKind) (s t : State) : Prop where
  supervisor : ∃ f d, t.supervisor l =
    { stopBegun k (s.supervisor l) with followOn := f, deferredNeed := d }
  pinsetter : t.pinsetter l =
    putCommand (sequenceCommand (stopSequence k) ((s.supervisor l).cycle + 1)) (s.pinsetter l)

theorem StopPlaced.stopping {k : StopKind} (h : StopPlaced l k s w) : Stopping (w.supervisor l) := by
  rw [h.supervisor]
  cases k
  · exact ⟨.inl rfl, rfl⟩
  · exact ⟨.inr rfl, rfl⟩

theorem StopPlaced.runs {k : StopKind} {f : FollowOn} {t : State}
    (cleared : Supervised l { s.supervisor l with followOn := f } s u) (placed : StopPlaced l k u w)
    (stays : StaysStopping l w t) : StopRuns l k s t := by
  obtain ⟨g, d, e⟩ := stays.supervisor
  refine ⟨⟨g, d, ?_⟩, ?_⟩
  · rw [e, placed.supervisor, cleared.supervisor]
    rfl
  · rw [stays.pinsetter, placed.pinsetter, cleared.supervisor, cleared.pinsetter]

/-- R82, R85: what a HALT or PARK that has superseded shows of its lane. -/
theorem StopRuns.shows {k : StopKind} {t : State} (h : StopRuns l k s t) :
    let m := (s.supervisor l).cycle + 1
    (t.supervisor l).cycle = m ∧ (t.supervisor l).owed = none ∧
    (∀ r, (s.supervisor l).record = some r → (t.supervisor l).superseded = some r.number) ∧
    (t.supervisor l).machine = runningState (stopSequence k) ∧
    (t.supervisor l).record =
      some ⟨stopSequence k, m, firstExpected (stopSequence k), false, none, none⟩ ∧
    (t.pinsetter l).slot = some ⟨sequenceCommand (stopSequence k) m, (s.pinsetter l).nextSerial, none⟩ := by
  obtain ⟨⟨f, d, supervisor⟩, pinsetter⟩ := h
  have before : ∀ r, (s.supervisor l).record = some r →
      ((s.supervisor l).record.map (·.number)).or (s.supervisor l).superseded = some r.number :=
    fun r hr => by rw [hr]; rfl
  rw [supervisor, pinsetter]
  exact ⟨rfl, rfl, before, rfl, rfl, rfl⟩

/-- R87: with nothing in progress, or nothing held back, the end of what was superseded leaves the pair's
equipment. -/
theorem stopReleases_nothing {k : StopKind} (placed : StopPlaced l k u w) (onPair : OnPair (pairOf l) s w)
    (nothing : (u.supervisor l).record = none ∨ s.NothingHeld l) :
    let t := w.stopReleases l (u.supervisor l)
    OnPair (pairOf l) s t ∧ StaysStopping l w t := by
  intro t
  by_cases record : (u.supervisor l).record = none
  · have same : t = w := stopReleases_begun record placed.stopping.record
    rw [same]
    exact ⟨onPair, .refl l w⟩
  · have none_held := nothing.resolve_left record
    have ended : t = w.supersededReleases l := stopReleases_superseded
      (Option.isSome_iff_ne_none.2 record) placed.stopping.record (by rw [placed.supervisor]; rfl)
    refine ⟨onPair.stopReleases l _ rfl none_held, ?_⟩
    rw [ended, State.supersededReleases, applyHeld_nothing (onPair.nothingHeld none_held)]
    exact superseded_stopping placed.stopping

/-- R95: a PARK behind the HALT in the slot awaits it, and the sequence goes on. -/
theorem placeStop_goesOn {m : CycleNo} {q : Serial} {tries : Option Nat}
    (present : (s.pinsetter l).state ≠ .lost) (owed : (s.pinsetter l).owed = none)
    (slot : (s.pinsetter l).slot = some ⟨.halt m, q, tries⟩)
    (record : (s.supervisor l).record.isSome = true) :
    (s.placeStop l .park).stopReleases l (s.supervisor l) =
      s.modSupervisor l fun v => { v with awaiting := some .park } := by
  have awaits : s.placeStop l .park = s.modSupervisor l fun v => { v with awaiting := some .park } := by
    rw [placeStop_awaits present owed (by rw [slot]; simp)]
    simp only [mergeOwed_park]
  rw [awaits]
  exact stopReleases_goesOn (by rw [supervisor_modSupervisor_self]; exact record)
    (by rw [supervisor_modSupervisor_self])

end

end Sys2Proof.Machine

open Sys2Proof Sys2Proof.Machine

/-- Settles O43: the HALT or PARK placed, or awaiting its slot, and the end of the superseded sequence, met
by the machine that is stopping. -/
theorem stopMachineSupersedes : Obligations.StopMachineSupersedes := by
  unfold Obligations.StopMachineSupersedes
  intro s tag n kind l trunk run hl stays v running placed
  have answer := reqStopMachine_eq (k := kind) run hl
  refine ⟨fun idle park => ?_, fun taken present owed => ?_⟩
  · exact exec_of_act rfl trunk (answer.trans (if_neg fun h => ((stoppable_iff ..).1 h).elim idle park)) rfl
  have stops : stoppable kind (s.supervisor l).machine = true := (stoppable_iff ..).2 taken
  have accepted : exec (.stopMachine tag n kind) s =
      .next (State.reply (s.stopMachine l kind) ⟨tag, 34, ⟨.ok, .nothing⟩⟩) :=
    exec_of_act rfl trunk (answer.trans (if_pos stops)) ((Kept.refl s).stopMachine l kind).trunk
  rw [stopMachine_places stops] at accepted
  obtain ⟨f, cleared⟩ := Supervised.clearStart s l
  have onPair_u : OnPair (pairOf l) s (s.clearStart l) := (OnPair.refl _ s).clearStart l rfl
  generalize s.clearStart l = u at *
  rw [← cleared.pinsetter] at present owed
  refine ⟨fun takes => ?_, fun m q tries slot halted record => ?_⟩
  · have begun : StopPlaced l kind u (u.placeStop l kind) :=
      placeStop_places present owed (by rw [cleared.pinsetter]; exact takes)
    have onPair_w : OnPair (pairOf l) s (u.placeStop l kind) := onPair_u.placeStop l kind rfl
    generalize u.placeStop l kind = w at *
    have shows : ∀ {t}, StopRuns l kind s t → placed t := fun h => by
      obtain ⟨cycle, owed, superseded, machine, record, slot⟩ := h.shows
      exact ⟨cycle, owed, superseded, by rintro rfl; exact ⟨machine, record, slot⟩,
        by rintro rfl; exact ⟨machine, record, slot⟩⟩
    refine ⟨fun nothing => ?_, fun i x r k fr b record holds hx held plain charge => ?_⟩
    · obtain ⟨onPair, stopped⟩ := stopReleases_nothing begun onPair_w
        (by rw [cleared.supervisor]; exact nothing)
      rw [settlePair_stays (onPair.noneLeaving stays)] at accepted
      exact ⟨_, accepted, onPair, shows (begun.runs cleared stopped)⟩
    · have ended : w.stopReleases l (u.supervisor l) = w.supersededReleases l := stopReleases_superseded
        (by rw [cleared.supervisor]; exact record) begun.stopping.record (by rw [begun.supervisor]; rfl)
      obtain ⟨onPair, stopped, noBall⟩ := supersededReleases_firstBall onPair_w begun.stopping holds hx held
        plain charge
      rw [ended, settlePair_stays (onPair.noneLeaving (stays.setSession hx rfl))] at accepted
      refine ⟨_, accepted, onPair, shows (begun.runs cleared stopped), fun resolved => noBall ?_⟩
      rw [begun.tracker, cleared.tracker, rearm_resolved resolved, resolved]
  · obtain rfl : kind = .park := by
      rcases taken with (h | h | h) | ⟨_, h⟩
      · cases halted.symm.trans h
      · cases halted.symm.trans h
      · cases halted.symm.trans h
      · exact h
    have waiting : Supervised l { u.supervisor l with awaiting := some .park } u
        (u.modSupervisor l fun v => { v with awaiting := some .park }) := .modSupervisor rfl
    have onPair : OnPair (pairOf l) s (u.modSupervisor l fun v => { v with awaiting := some .park }) :=
      onPair_u.modSupervisor l _ rfl
    rw [placeStop_goesOn present owed (by rw [cleared.pinsetter]; exact slot)
      (by rw [cleared.supervisor]; exact record), settlePair_stays (onPair.noneLeaving stays)] at accepted
    refine ⟨_, accepted, onPair, ?_⟩
    rw [waiting.supervisor, waiting.pinsetter, cleared.supervisor, cleared.pinsetter]
    exact ⟨rfl, halted, rfl, rfl⟩

end

section
/-! SUPPORT. A step watch that expires (O54): the class raised while the sequence goes on, and a park that
fails. -/

namespace Sys2Proof.Machine

open Sys2Proof

/-! ## A class entered into a lane's set (R109, R119) -/

section
variable {s : State} {l : LaneId} {c : FaultClass}

theorem faults_faultEntered (new : ∀ f ∈ (s.lane l).faults, f.cls ≠ c) :
    ((s.faultEntered l c).lane l).faults =
      (s.lane l).faults ++ [newFault s.faultTable[faultIndex c] c s.deviceTime] :=
  (faults_setLaneFaults ..).trans ((if_pos rfl).trans (raiseInto_new new))

theorem supervisor_faultEntered (k : LaneId) : (s.faultEntered l c).supervisor k = s.supervisor k :=
  supervisor_setLaneFaults ..

theorem entry_faultEntered (k : LaneId) : (s.faultEntered l c).entry k = s.entry k :=
  entry_setLaneFaults ..

/-- R119: FAULT_RAISED is pending. -/
theorem told_faultEntered :
    (laneSource l, NoticeKind.faultRaised) ∈ (s.faultEntered l c).notices.map noticeKey :=
  mem_keys_addNotice (.inr rfl)

/-- A pending notice, by its source and kind. -/
theorem exists_of_key {ns : List Notice} {n : Nat} {k : NoticeKind} (h : (n, k) ∈ ns.map noticeKey) :
    ∃ x ∈ ns, x.source = n ∧ payloadKind x.payload = k := by
  obtain ⟨x, hx, key⟩ := List.mem_map.1 h
  exact ⟨x, hx, congrArg Prod.fst key, congrArg Prod.snd key⟩

/-- R109 to R112: what a class new in a lane's set, with a mild action, leaves. -/
structure MildlyRaised (l : LaneId) (c : FaultClass) (s t : State) : Prop where
  deviceTime : t.deviceTime = s.deviceTime
  supervisor : t.supervisor l = s.supervisor l
  faults : (t.lane l).faults =
    (s.lane l).faults ++ [newFault s.faultTable[faultIndex c] c s.deviceTime]
  sessions : ∀ i x, s.session i = some x → ∃ b, t.session i = some (billedAs b x)
  charges : t.charges = s.charges
  pairs : ∀ q, t.pair q = s.pair q
  told : (laneSource l, NoticeKind.faultRaised) ∈ t.notices.map noticeKey
  stays : s.NoneLeaving → t.NoneLeaving

theorem raiseLane_mildlyRaised
    (mild : s.faultTable[faultIndex c].action = .none ∨ s.faultTable[faultIndex c].action = .hold)
    (new : ∀ f ∈ (s.lane l).faults, f.cls ≠ c) : MildlyRaised l c s (s.raiseLane l c) := by
  let e := s.faultEntered l c
  let u := e.tellCredit l
  have sessions : (u.armingCheck l).sessions = u.sessions := by rw [armingCheck_others]
  rw [raiseLane_mild mild]
  constructor
  case deviceTime => rw [armingCheck_others, tellCredit_others]; rfl
  case supervisor =>
    rw [supervisor_armingCheck, State.supervisor, lane_tellCredit]
    exact supervisor_faultEntered l
  case faults => rw [faults_armingCheck, lane_tellCredit]; exact faults_faultEntered new
  case sessions =>
    intro i x hx
    rw [session_armingCheck]
    exact session_tellCredit_some e l hx
  case charges => rw [armingCheck_others, tellCredit_others]; rfl
  case pairs => intro q; rw [pair_armingCheck, pair_tellCredit]; rfl
  case told => rw [notices_armingCheck, notices_tellCredit]; exact told_faultEntered
  case stays =>
    intro stays i x hx
    rw [session_armingCheck] at hx
    exact State.NoneLeaving.tellCredit (s := e) stays l i x hx

/-! ## A class that takes the lane OUT_OF_SERVICE (R111, R116) -/

/-- R106, R111: one entry of the most severe action decides the effective action. -/
theorem worstAction_outOfService {fs : List FaultEntry} {f : FaultEntry} (hf : f ∈ fs)
    (action : f.action = .outOfService) : worstAction fs = .outOfService := by
  have most : severity .outOfService ≤ severity (worstAction fs) :=
    action ▸ severity_worstAction_le.1 le_rfl f hf
  revert most
  cases worstAction fs <;> simp [severity]

/-- R111, R118: a rise to OUT_OF_SERVICE clears at most a START set by CLEAR_FAULT. -/
theorem carryRise_outOfService (h : s.effective l = .outOfService) (before : Action) :
    s.carryRise l before = s ∨ s.carryRise l before = s.clearRestart l := by
  unfold State.carryRise
  split
  · exact .inl rfl
  · rw [h]
    exact .inr rfl

theorem lane_raiseMachineState (k : LaneId) : (s.raiseMachineState l).lane k = s.lane k := rfl

theorem faults_clearRestart : ((s.clearRestart l).lane l).faults = (s.lane l).faults := by
  have setFollowOn : ∀ f, ((s.setFollowOn l f).lane l).faults = (s.lane l).faults := fun f => by
    unfold State.setFollowOn
    split
    · rfl
    · rw [lane_raiseMachineState, lane_modSupervisor, if_pos rfl]
  unfold State.clearRestart
  split
  · exact setFollowOn _
  all_goals rfl

theorem Decides.clearRestart {p : PairId} {u : State} (h : Decides p s u) :
    Decides p s (u.clearRestart l) := by
  unfold State.clearRestart
  split
  · exact h.setFollowOn _
  all_goals exact h

/-- R112: a lane without holder has nobody to tell its credit state. -/
theorem tellCredit_noHolder (holder : (s.entry l).holder = none) : s.tellCredit l = s := by
  simp only [State.tellCredit, holder]

/-- R109, R111: on a lane without holder, a class with the action OUT_OF_SERVICE is followed by decisions
that leave the machine and the lane's faults. -/
theorem raiseLane_outOfService (action : s.faultTable[faultIndex c].action = .outOfService)
    (holder : (s.entry l).holder = none) (new : ∀ f ∈ (s.lane l).faults, f.cls ≠ c) :
    let e := s.faultEntered l c
    let t := s.raiseLane l c
    OnPair (pairOf l) e t ∧ Decides (pairOf l) e t ∧ (t.lane l).faults = (e.lane l).faults ∧
      ∃ f, t.supervisor l = { s.supervisor l with followOn := f } := by
  intro e t
  have effective : e.effective l = .outOfService := by
    refine worstAction_outOfService (f := newFault s.faultTable[faultIndex c] c s.deviceTime) ?_ action
    rw [State.faultsOn, faults_faultEntered new]
    exact List.mem_append_left _ (List.mem_append_right _ (List.mem_singleton_self _))
  have raised : t = (e.carryRise l (s.effective l)).armingCheck l := by
    have untold : e.tellCredit l = e := tellCredit_noHolder (by rw [entry_faultEntered]; exact holder)
    show State.armingCheck ((e.tellCredit l).carryRise l _) l = _
    rw [untold]
  have same : e.supervisor l = s.supervisor l := supervisor_faultEntered l
  rw [raised]
  rcases carryRise_outOfService effective (s.effective l) with h | h <;> rw [h]
  · exact ⟨(OnPair.refl _ e).armingCheck l rfl, Decides.refl.armingCheck l, faults_armingCheck ..,
      _, (supervisor_armingCheck ..).trans same⟩
  · obtain ⟨f, cleared⟩ := Supervised.clearRestart e l
    refine ⟨((OnPair.refl _ e).clearRestart l rfl).armingCheck l rfl,
      Decides.refl.clearRestart.armingCheck l, (faults_armingCheck ..).trans faults_clearRestart, f, ?_⟩
    rw [supervisor_armingCheck, cleared.supervisor, same]

/-! ## A park that fails (R86, R116) -/

/-- R86: the park ended unfinished and the machine OUT_OF_SERVICE, before the class is raised. -/
def State.parkStopped (s : State) (l : LaneId) : State :=
  ((((s.endUnfinished l).modSupervisor l fun v => { v with machine := .outOfService }).clearStart
    l).raiseMachineState l).laneChanged l

theorem parkFails_eq (s : State) (l : LaneId) :
    s.parkFails l = ((s.parkStopped l).raiseLane l .parkFailed).sequenceReleased l := rfl

theorem parkStopped_leaves (s : State) (l : LaneId) :
    OnPair (pairOf l) s (s.parkStopped l) ∧ ∃ f, (s.parkStopped l).supervisor l =
      { unfinished (s.supervisor l) with machine := .outOfService, followOn := f } := by
  let u := (s.endUnfinished l).modSupervisor l fun v => { v with machine := .outOfService }
  have ended : Supervised l { unfinished (s.supervisor l) with machine := .outOfService } s u :=
    (Supervised.endUnfinished s l).trans
      (.modSupervisor (by rw [(Supervised.endUnfinished s l).supervisor]))
  obtain ⟨f, cleared⟩ := Supervised.clearStart u l
  refine ⟨(((((OnPair.refl _ s).endUnfinished l rfl).modSupervisor l _ rfl).clearStart l
    rfl).raiseMachineState l rfl).laneChanged l rfl, f, ?_⟩
  rw [State.parkStopped, supervisor_laneChanged, cleared.raiseMachineState.supervisor, ended.supervisor]

/-- R87, R97: on a lane without holder, with no need deferred and a machine not at rest for a park, the end
of a sequence leaves the arming check. -/
theorem sequenceReleased_idle (record : (s.supervisor l).record = none)
    (holder : (s.entry l).holder = none) (need : (s.supervisor l).deferredNeed = none)
    (machine : (s.supervisor l).machine = .outOfService) :
    s.sequenceReleased l = s.armingCheck l := by
  have idle : s.sequencing l = false := by rw [State.sequencing, record]; rfl
  have nothing : s.NothingHeld l := fun i x hi _ => nomatch holder.symm.trans hi
  have released : s.released l = s := by
    simp only [State.released, State.releaseHeld, State.releaseDeferred, applyHeld_nothing nothing,
      handDeferred_none need, ite_self]
  have noPark : (s.armingCheck l).followPark l = s.armingCheck l := by
    refine if_neg fun c => ?_
    have may := c.2
    simp [State.parkMayFollow, supervisor_armingCheck, machine] at may
  rw [State.sequenceReleased, idle, released, noPark]
  rfl

/-- R86, R116: a park that fails on a lane without holder. -/
structure ParkFailed (l : LaneId) (r : CycleRecord) (s t : State) : Prop where
  deviceTime : t.deviceTime = s.deviceTime
  machine : (t.supervisor l).machine = .outOfService
  record : (t.supervisor l).record = none
  superseded : (t.supervisor l).superseded = some r.number
  classes : (t.lane l).faults.map (·.cls) = (s.lane l).faults.map (·.cls) ++ [.parkFailed]
  effective : t.effective l = .outOfService
  sessions : t.sessions = s.sessions
  charges : t.charges = s.charges
  told : (laneSource l, NoticeKind.faultRaised) ∈ t.notices.map noticeKey
  holder : (t.entry l).holder = none

theorem parkFailed_of_stopped {w : State} {r : CycleRecord} {f : FollowOn} (onPair : OnPair (pairOf l) s w)
    (stopped : w.supervisor l =
      { unfinished (s.supervisor l) with machine := .outOfService, followOn := f })
    (record : (s.supervisor l).record = some r) (holder : (s.entry l).holder = none)
    (need : (s.supervisor l).deferredNeed = none)
    (action : s.faultTable[faultIndex .parkFailed].action = .outOfService)
    (new : ∀ f ∈ (s.lane l).faults, f.cls ≠ .parkFailed) :
    ParkFailed l r s ((w.raiseLane l .parkFailed).sequenceReleased l) := by
  have table : w.faultTable = s.faultTable := by rw [onPair.others]
  have action_w : w.faultTable[faultIndex .parkFailed].action = .outOfService := by
    rw [table]; exact action
  have holder_w : (w.entry l).holder = none := by rw [onPair.entry]; exact holder
  have new_w : ∀ g ∈ (w.lane l).faults, g.cls ≠ .parkFailed := fun g hg => by
    have mem : g.cls ∈ (s.lane l).faults.map (·.cls) := by
      rw [← onPair.classes]
      exact List.mem_map_of_mem hg
    obtain ⟨h, hh, same⟩ := List.mem_map.1 mem
    exact same ▸ new h hh
  have entered := faults_faultEntered new_w
  have told := told_faultEntered (s := w) (l := l) (c := .parkFailed)
  have holder_e : ((w.faultEntered l .parkFailed).entry l).holder = none := by
    rw [entry_faultEntered]; exact holder_w
  have kept : (w.faultEntered l .parkFailed).deviceTime = s.deviceTime ∧
      (w.faultEntered l .parkFailed).sessions = s.sessions ∧
      (w.faultEntered l .parkFailed).charges = s.charges := by
    refine ⟨?_, ?_, onPair.charges⟩
    · show w.deviceTime = _
      rw [onPair.others]
    · show w.sessions = _
      rw [onPair.others]
  obtain ⟨decided, decides, faults, g, raised⟩ := raiseLane_outOfService action_w holder_w new_w
  generalize w.raiseLane l .parkFailed = u at *
  generalize w.faultEntered l .parkFailed = e at *
  obtain ⟨deviceTime, sessions, charges⟩ := kept
  have supervisor : u.supervisor l =
      { unfinished (s.supervisor l) with machine := .outOfService, followOn := g } :=
    raised.trans (by rw [stopped])
  have holder_u : (u.entry l).holder = none := by rw [decided.entry]; exact holder_e
  have ended : u.sequenceReleased l = u.armingCheck l :=
    sequenceReleased_idle (by rw [supervisor]; rfl) holder_u (by rw [supervisor]; exact need)
      (by rw [supervisor])
  have armed := decided.armingCheck l rfl
  have failed : newFault w.faultTable[faultIndex .parkFailed] .parkFailed w.deviceTime ∈
      (u.armingCheck l).faultsOn l := by
    rw [State.faultsOn, faults_armingCheck, faults, entered]
    exact List.mem_append_left _ (List.mem_append_right _ (List.mem_singleton_self _))
  rw [ended]
  constructor
  case deviceTime => rw [armed.others]; exact deviceTime
  case machine => rw [supervisor_armingCheck, supervisor]
  case record => rw [supervisor_armingCheck, supervisor]; rfl
  case superseded => rw [supervisor_armingCheck, supervisor, unfinished, record]; rfl
  case classes =>
    rw [faults_armingCheck, faults, entered, List.map_append, onPair.classes]
    rfl
  case effective => exact worstAction_outOfService failed action_w
  case sessions => rw [armed.others]; exact sessions
  case charges => exact armed.charges.trans charges
  case told => exact (decides.armingCheck l).keys told
  case holder => rw [armed.entry]; exact holder_e

end

end Sys2Proof.Machine
end

section
/-! SUPPORT. A jam watch that expires (O54), and the two expiries. -/

namespace Sys2Proof.Machine

open Sys2Proof

/-! ## RETURN_JAM (R109, R129) -/

section
variable {s : State} {p : PairId} {c : FaultClass}

theorem pair_pairFaultEntered (q : PairId) : (s.pairFaultEntered p c).pair q =
    if q = p then { s.pair p with
      faults := raiseInto s.faultTable[faultIndex c] c s.deviceTime (s.pair p).faults } else s.pair q :=
  pair_setPair ..

/-- R109 to R112: a class raised into a pair's set with a mild action: the credit of the lanes follows, and
the pairs stand but for the class. -/
theorem raisePair_mild_follows
    (mild : s.faultTable[faultIndex c].action = .none ∨ s.faultTable[faultIndex c].action = .hold) :
    CreditFollows p s (s.raisePair p c) ∧
      ∀ q, (s.raisePair p c).pair q = (s.pairFaultEntered p c).pair q := by
  have set_ : CreditFollows p s (s.setPairFaults p
      (raiseInto s.faultTable[faultIndex c] c s.deviceTime (s.pair p).faults)) :=
    (OnPair.refl p s).creditFollows.setPair _ rfl
  have entered : CreditFollows p s (s.pairFaultEntered p c) :=
    set_.trans ((OnPair.refl p _).raiseWith _ _ _).creditFollows
  rw [raisePair_mild mild]
  generalize s.pairFaultEntered p c = e at *
  have left := (entered.tellCredit (laneAt p .left)).trans
    ((OnPair.refl p _).armingCheck (laneAt p .left) (pairOf_laneAt ..)).creditFollows
  have right := (left.tellCredit (laneAt p .right)).trans
    ((OnPair.refl p _).armingCheck (laneAt p .right) (pairOf_laneAt ..)).creditFollows
  refine ⟨right, fun q => ?_⟩
  rw [pair_armingCheck, pair_tellCredit, pair_armingCheck, pair_tellCredit]

/-- R109: the pair once a class new in its set is raised mildly. -/
theorem pair_raisePair_mild
    (mild : s.faultTable[faultIndex c].action = .none ∨ s.faultTable[faultIndex c].action = .hold)
    (new : ∀ f ∈ (s.pair p).faults, f.cls ≠ c) : (s.raisePair p c).pair p = { s.pair p with
      faults := (s.pair p).faults ++ [newFault s.faultTable[faultIndex c] c s.deviceTime] } := by
  rw [(raisePair_mild_follows mild).2, pair_pairFaultEntered, if_pos rfl, raiseInto_new new]

theorem pair_raiseReturnState (q : PairId) : (s.raiseReturnState p).pair q = s.pair q := rfl

/-- R133: RETURN_STATE is pending. -/
theorem told_raiseReturnState (s : State) (p : PairId) :
    (pairSource p, NoticeKind.returnState) ∈ (s.raiseReturnState p).notices.map noticeKey :=
  mem_keys_addNotice (.inr rfl)

/-- R129: a jam watch that expires, with a mild RETURN_JAM that is new in the pair's set. -/
structure JamExpired (p : PairId) (s t : State) : Prop where
  follows : CreditFollows p s t
  ballReturn : t.ballReturn p = expireWatch (s.ballReturn p)
  faults : (t.pair p).faults = (s.pair p).faults ++
    [newFault s.faultTable[faultIndex .returnJam] .returnJam s.deviceTime]
  told : (pairSource p, NoticeKind.returnState) ∈ t.notices.map noticeKey

theorem jamExpires_expires
    (mild : s.faultTable[faultIndex .returnJam].action = .none ∨
      s.faultTable[faultIndex .returnJam].action = .hold)
    (new : ∀ f ∈ (s.pair p).faults, f.cls ≠ .returnJam) : JamExpired p s (s.jamExpires p) := by
  have watch : CreditFollows p s (s.modReturn p expireWatch) :=
    ((OnPair.refl p s).modReturn p rfl rfl).creditFollows
  have expired : (s.modReturn p expireWatch).pair p =
      { s.pair p with ballReturn := expireWatch (s.ballReturn p) } :=
    (pair_modReturn ..).trans (if_pos rfl)
  have table : (s.modReturn p expireWatch).faultTable = s.faultTable := rfl
  have now : (s.modReturn p expireWatch).deviceTime = s.deviceTime := rfl
  have run : s.jamExpires p =
      ((s.modReturn p expireWatch).raisePair p .returnJam).raiseReturnState p := rfl
  rw [run]
  generalize s.modReturn p expireWatch = u at *
  rw [← table] at mild
  have follows := (raisePair_mild_follows (p := p) mild).1
  have pair := pair_raisePair_mild (p := p) mild (by rw [expired]; exact new)
  rw [expired, table, now] at pair
  exact {
    follows := (watch.trans follows).trans ((OnPair.refl p _).raiseReturnState p rfl).creditFollows
    ballReturn := by rw [State.ballReturn, pair_raiseReturnState, pair]
    faults := by rw [pair_raiseReturnState, pair]
    told := told_raiseReturnState .. }

end

/-! ## The expiries (R86, R129) -/

section
variable {s : State}

theorem exec_stepWatchExpiry_idle {l : LaneId} (idle : (s.supervisor l).record.bind (·.watch) = none) :
    exec (.stepWatchExpiry l) s = .next s.settleTrunk := by
  show execStepWatchExpiry l s = _
  unfold execStepWatchExpiry
  split
  · rfl
  · next r record =>
    have stopped : r.watch = none := by simpa [record] using idle
    rw [stopped]
    rfl

theorem exec_stepWatchExpiry {l : LaneId} {r : CycleRecord} {d : Nat}
    (record : (s.supervisor l).record = some r) (watch : r.watch = some d) :
    exec (.stepWatchExpiry l) s =
      .next (((s.passTo d).watchExpires l r).settleLane l).settleTrunk := by
  show execStepWatchExpiry l s = _
  simp only [execStepWatchExpiry, record, watch, State.done]

theorem exec_jamWatchExpiry_idle {p : PairId} (idle : ∀ b d, (s.ballReturn p).watch ≠ .running b d) :
    exec (.jamWatchExpiry p) s = .next s.settleTrunk := by
  show execJamWatchExpiry p s = _
  unfold execJamWatchExpiry
  split
  · next runs => exact absurd runs (idle _ _)
  all_goals rfl

theorem exec_jamWatchExpiry {p : PairId} {b d : Nat} (runs : (s.ballReturn p).watch = .running b d) :
    exec (.jamWatchExpiry p) s =
      .next (((s.passTo d).jamExpires p).settlePair p).settleTrunk := by
  show execJamWatchExpiry p s = _
  simp only [execJamWatchExpiry, runs, State.done]

/-- R86: the watch stopped. -/
def State.unwatched (s : State) (l : LaneId) : State :=
  s.modSupervisor l fun v => { v with record := v.record.map fun c => { c with watch := none } }

theorem supervisor_unwatched {l : LaneId} {r : CycleRecord} (record : (s.supervisor l).record = some r) :
    (s.unwatched l).supervisor l = { s.supervisor l with record := some { r with watch := none } } := by
  rw [State.unwatched, supervisor_modSupervisor_self, record]
  rfl

theorem faults_unwatched (s : State) (l : LaneId) :
    ((s.unwatched l).lane l).faults = (s.lane l).faults := by
  rw [State.unwatched, lane_modSupervisor, if_pos rfl]

/-- R86: outside a park the expiry raises the class of the sequence. -/
theorem watchExpires_goesOn {l : LaneId} {r : CycleRecord} (kind : r.kind ≠ .park) :
    s.watchExpires l r =
      (s.unwatched l).raiseLane l (if r.kind = .start then .startFailed else .stepOverdue) := by
  unfold State.watchExpires
  cases k : r.kind with
  | park => exact absurd k kind
  | start | firstCycle | fullCycle | reRack | halt => rfl

theorem watchExpires_park {l : LaneId} {r : CycleRecord} (kind : r.kind = .park) :
    s.watchExpires l r = (s.unwatched l).parkFails l := by
  simp only [State.watchExpires, kind, State.unwatched]

end

end Sys2Proof.Machine

open Sys2Proof Sys2Proof.Machine

/-- Settles O54: the step watch in and outside a park, and the jam watch, each where it runs and where it
does not. -/
theorem watchesExpire : Obligations.WatchesExpire := by
  unfold Obligations.WatchesExpire
  intro s stays
  refine ⟨fun l idle => exec_stepWatchExpiry_idle idle, fun l r d record watch => ?_,
    fun p idle => exec_jamWatchExpiry_idle idle, fun p b d runs => ?_⟩
  · intro time
    let w := (s.passTo d).unwatched l
    have runs := exec_stepWatchExpiry record watch
    have unwatched : w.supervisor l = { s.supervisor l with record := some { r with watch := none } } :=
      supervisor_unwatched (s := s.passTo d) record
    have faults : (w.lane l).faults = (s.lane l).faults := faults_unwatched (s.passTo d) l
    have now : w.deviceTime = time := deviceTime_passTo d
    refine ⟨?_, fun kind holder need action new => ?_⟩
    · intro kind c act mild new
      have raised : MildlyRaised l c w (w.raiseLane l c) :=
        raiseLane_mildlyRaised (s := w) mild (by rw [faults]; exact new)
      have present : newFault act c time = ⟨c, act.action, act.credit, true, false, 1, time, time⟩ := by
        have lasts : lastingCondition c = true := by
          show lastingCondition (if r.kind = .start then .startFailed else .stepOverdue) = true
          split <;> rfl
        rw [newFault, lasts]
      rw [watchExpires_goesOn kind, settleLane_stays ((raised.stays stays).holderStays l)] at runs
      refine ⟨_, runs, raised.deviceTime.trans now, raised.supervisor.trans unwatched, ?_,
        raised.sessions, raised.charges, raised.pairs, exists_of_key raised.told⟩
      rw [raised.faults, faults, now, ← present]
      rfl
    · have holder_w : (w.entry l).holder = none :=
        (congrArg LaneEntry.holder (entry_modSupervisor ..)).trans holder
      obtain ⟨onPair, f, stopped⟩ := parkStopped_leaves w l
      have failed : ParkFailed l { r with watch := none } w (w.parkFails l) := by
        rw [parkFails_eq]
        exact parkFailed_of_stopped onPair stopped (by rw [unwatched]) holder_w
          (by rw [unwatched]; exact need) action (by rw [faults]; exact new)
      have nobody : (w.parkFails l).HolderStays l := fun i x hi _ => nomatch failed.holder.symm.trans hi
      rw [watchExpires_park kind, settleLane_stays nobody] at runs
      refine ⟨_, runs, failed.deviceTime.trans now, failed.machine, failed.record, failed.superseded, ?_,
        failed.effective, failed.sessions, failed.charges, exists_of_key failed.told⟩
      rw [failed.classes, faults]
  · intro act time mild new
    let w := s.passTo d
    have expired : JamExpired p w (w.jamExpires p) := jamExpires_expires mild new
    have now : w.deviceTime = time := deviceTime_passTo d
    have result := exec_jamWatchExpiry runs
    rw [settlePair_stays (expired.follows.noneLeaving stays)] at result
    have others := expired.follows.others
    refine ⟨_, result, Eq.trans (by rw [others]) now, expired.ballReturn, ?_,
      expired.follows.pairs, by rw [others]; rfl, fun i x hx => ?_, exists_of_key expired.told⟩
    · rw [expired.faults, now]
      rfl
    · obtain ⟨y, hy, same⟩ := expired.follows.used i x hx
      exact ⟨y.billing.state, hy.trans (congrArg some same)⟩

end

section
/-! SUPPORT. SET_FAULT_ACTION (O18): which lists are accepted, and what loading the items of one makes of
each entry of the table. -/

namespace Sys2Proof.Machine

open Sys2Proof

/-! ## The checks of R107 -/

/-- The code of a class is its place in the table of R106, from 1. -/
theorem faultClassOf_eq_some {n : Nat} {c : FaultClass} :
    faultClassOf? n = some c ↔ n = (faultIndex c).val + 1 := by
  constructor
  · intro h
    obtain ⟨nonzero, place⟩ := nth1_eq_some.1 h
    obtain ⟨inside, -⟩ := List.getElem?_eq_some_iff.1 place
    have bound : n ≤ 15 := by
      simp only [faultClasses, List.length_cons, List.length_nil] at inside
      omega
    interval_cases n <;> cases h <;> rfl
  · rintro rfl
    cases c <;> rfl

/-- The codes 1 to 15 name the classes, and no other code names one. -/
theorem faultClassOf_isSome {n : Nat} : (∃ c, faultClassOf? n = some c) ↔ 1 ≤ n ∧ n ≤ 15 := by
  constructor
  · rintro ⟨c, h⟩
    have := (faultIndex c).isLt
    rw [faultClassOf_eq_some] at h
    omega
  · rintro ⟨low, high⟩
    interval_cases n <;> exact ⟨_, rfl⟩

/-- R107: the codes 0 to 3 name the actions that may be set. -/
theorem actionOf_isSome {n : Nat} : (actionOf? n).isSome = true ↔ n ≤ 3 := by
  match n with
  | 0 | 1 | 2 | 3 => simp [actionOf?]
  | n + 4 => simp [actionOf?]

/-- R107: the checks of one item, by its numbers. -/
theorem faultItemValid_iff (x : FaultActionItem) : faultItemValid x = true ↔
    1 ≤ x.classCode ∧ x.classCode ≤ 14 ∧ x.actionCode ≤ 3 ∧ x.priority ≤ 15 := by
  have checks : faultItemValid x = true ↔
      (∃ c, faultClassOf? x.classCode = some c ∧ c ≠ .parkFailed) ∧
        x.actionCode ≤ 3 ∧ x.priority ≤ 15 := by
    cases h : faultClassOf? x.classCode with
    | none => simp [faultItemValid, h]
    | some c => simp [faultItemValid, h, actionOf_isSome, and_assoc]
  have named : (∃ c, faultClassOf? x.classCode = some c ∧ c ≠ .parkFailed) ↔
      1 ≤ x.classCode ∧ x.classCode ≤ 14 := by
    constructor
    · rintro ⟨c, h, other⟩
      rw [faultClassOf_eq_some] at h
      cases c <;> simp_all [faultIndex]
    · rintro ⟨low, high⟩
      obtain ⟨c, h⟩ := faultClassOf_isSome.2 ⟨low, by omega⟩
      refine ⟨c, h, ?_⟩
      rintro rfl
      rw [faultClassOf_eq_some.1 h] at high
      exact absurd high (by decide)
  rw [checks, named, and_assoc]

theorem distinct_iff_nodup {ns : List Nat} : distinct ns = true ↔ ns.Nodup := by
  induction ns with
  | nil => simp [distinct]
  | cons n ns ih => simp [distinct, ih]

/-- R107: what an accepted list satisfies. -/
def ActionsValid (items : List FaultActionItem) : Prop :=
  items ≠ [] ∧ (items.map (·.classCode)).Nodup ∧
    ∀ x ∈ items, 1 ≤ x.classCode ∧ x.classCode ≤ 14 ∧ x.actionCode ≤ 3 ∧ x.priority ≤ 15

theorem actionsRefused_iff (items : List FaultActionItem) :
    (items.isEmpty = true ∨ ¬ items.all faultItemValid = true ∨
      ¬ distinct (items.map (·.classCode)) = true) ↔ ¬ ActionsValid items := by
  simp only [ActionsValid, List.isEmpty_iff, List.all_eq_true, faultItemValid_iff, distinct_iff_nodup]
  tauto

/-! ## The items loaded -/

/-- R107: the table with an item's entry in the place of its class. -/
def tableWith (t : Vector FaultAction 15) (x : FaultActionItem) : Vector FaultAction 15 :=
  match faultClassOf? x.classCode, actionOf? x.actionCode with
  | some c, some a => t.set (faultIndex c) ⟨a, x.credit, x.priority⟩
  | _, _ => t

theorem loadFaultAction_eq (s : State) (x : FaultActionItem) :
    s.loadFaultAction x = { s with faultTable := tableWith s.faultTable x } := by
  cases hc : faultClassOf? x.classCode <;> cases ha : actionOf? x.actionCode <;>
    simp only [State.loadFaultAction, tableWith, hc, ha]

/-- R107: the items of a list change the table alone. -/
theorem foldl_loadFaultAction (items : List FaultActionItem) (s : State) :
    items.foldl State.loadFaultAction s =
      { s with faultTable := items.foldl tableWith s.faultTable } := by
  induction items generalizing s with
  | nil => rfl
  | cons x xs ih => rw [List.foldl_cons, ih, loadFaultAction_eq, List.foldl_cons]

section
variable {t : Vector FaultAction 15} {x : FaultActionItem} {c : FaultClass} {a : Action}
  {items : List FaultActionItem}

theorem tableWith_named (hc : faultClassOf? x.classCode = some c) (ha : actionOf? x.actionCode = some a) :
    (tableWith t x)[faultIndex c] = ⟨a, x.credit, x.priority⟩ := by
  simp [tableWith, hc, ha]

theorem tableWith_other (other : faultClassOf? x.classCode ≠ some c) :
    (tableWith t x)[faultIndex c] = t[faultIndex c] := by
  unfold tableWith
  split
  · next d a hd _ =>
    have places : (faultIndex d).val ≠ (faultIndex c).val := fun same =>
      other (faultClassOf_eq_some.2 (same ▸ faultClassOf_eq_some.1 hd))
    simp only [Fin.getElem_fin, Vector.getElem_set, if_neg places]
  · rfl

/-- A class that no item names keeps its entry. -/
theorem foldl_tableWith_other (other : ∀ x ∈ items, faultClassOf? x.classCode ≠ some c) :
    (items.foldl tableWith t)[faultIndex c] = t[faultIndex c] := by
  induction items generalizing t with
  | nil => rfl
  | cons x xs ih =>
    obtain ⟨first, later⟩ := List.forall_mem_cons.1 other
    rw [List.foldl_cons, ih later, tableWith_other first]

/-- A class that one item names takes the item's entry, which no later item replaces. -/
theorem foldl_tableWith_named (once : (items.map (·.classCode)).Nodup) (hx : x ∈ items)
    (hc : faultClassOf? x.classCode = some c) (ha : actionOf? x.actionCode = some a) :
    (items.foldl tableWith t)[faultIndex c] = ⟨a, x.credit, x.priority⟩ := by
  induction items generalizing t with
  | nil => cases hx
  | cons y ys ih =>
    obtain ⟨new, rest⟩ := List.nodup_cons.1 once
    rw [List.foldl_cons]
    rcases List.mem_cons.1 hx with rfl | later
    · have others : ∀ z ∈ ys, faultClassOf? z.classCode ≠ some c := fun z hz same => by
        rw [faultClassOf_eq_some] at same hc
        exact new (List.mem_map.2 ⟨z, hz, same.trans hc.symm⟩)
      rw [foldl_tableWith_other others, tableWith_named hc ha]
    · exact ih rest later

end

end Sys2Proof.Machine

open Sys2Proof Sys2Proof.Machine

/-- Settles O18: the list checked as a whole, then its items loaded one after another. -/
theorem setFaultActionReplacesEntries : Obligations.SetFaultActionReplacesEntries := by
  unfold Obligations.SetFaultActionReplacesEntries
  intro s tag items free valid
  refine ⟨fun refused => ?_, fun accepted => ⟨items.foldl tableWith s.faultTable, ?_, ?_, ?_⟩⟩
  · have answer : reqSetFaultAction items s = (s, refuse .range) :=
      if_pos ((actionsRefused_iff items).2 refused)
    exact exec_of_act rfl free answer rfl
  · have answer : reqSetFaultAction items s = (items.foldl State.loadFaultAction s, accept) :=
      if_neg fun refused => (actionsRefused_iff items).1 refused accepted
    rw [foldl_loadFaultAction] at answer
    exact exec_of_act rfl free answer rfl
  · obtain ⟨-, once, -⟩ := accepted
    exact fun x hx c a hc ha => foldl_tableWith_named once hx hc ha
  · exact fun c others => foldl_tableWith_other others

end

section
/-! SUPPORT. CLEAR_FAULT of one class (O48): which entry goes, and what its removal leaves of a lane without
holder and of one whose holder bowls on. -/

namespace Sys2Proof.Machine

open Sys2Proof

section
variable {s : State} {l : LaneId} {c : FaultClass} {f : FaultEntry}

/-! ## The request (R117) -/

/-- R117, orders 3 and 4: a class that is named, with no service done flag but for PARK_FAILED, and a listed
resume choice or none. -/
theorem clearForm_class {code : Nat} {serviceDone : Bool} {r : Option Nat} {choice : Option Resume}
    (hc : faultClassOf? code = some c) (service : serviceDone = true → c = .parkFailed)
    (resume : r = none ∧ choice = none ∨ r = some 0 ∧ choice = some .clamp ∨
      r = some 1 ∧ choice = some .replay) :
    clearForm code serviceDone r = some (.one c, choice) := by
  have nonzero : code ≠ 0 := (nth1_eq_some.1 hc).1
  have named : clearedOf? code = some (.one c) := by simp [clearedOf?, nonzero, hc]
  have flag : ¬ (serviceDone = true ∧ Cleared.one c ≠ .one .parkFailed) := fun ⟨done, other⟩ =>
    other (congrArg Cleared.one (service done))
  unfold clearForm
  simp only [named, if_neg flag]
  rcases resume with ⟨rfl, rfl⟩ | ⟨rfl, rfl⟩ | ⟨rfl, rfl⟩ <;> rfl

/-- R117: the entry may be removed. -/
theorem removable_iff (serviceDone : Bool) (f : FaultEntry) : removable serviceDone f = true ↔
    f.latched = true ∨ f.cls = .parkFailed ∧ serviceDone = true ∨
      selfClearing f.cls = false ∧ f.present = false ∧ f.cls ≠ .readingOverdue ∧
        f.cls ≠ .parkFailed := by
  rw [removable, Bool.or_eq_true]
  refine or_congr_right ?_
  cases f.cls <;> simp [selfClearing]

/-- R117: a well-formed CLEAR_FAULT of one class. -/
theorem reqClearFault_class {n code : Nat} {serviceDone : Bool} {r : Option Nat}
    {choice : Option Resume} (run : s.device = .run) (hl : s.mappedLane? n = some l)
    (form : clearForm code serviceDone r = some (.one c, choice)) {chosen : List FaultEntry}
    (named : (s.faultsOn l).filter (fun f => f.cls == c) = chosen) :
    reqClearFault n code serviceDone r s =
      if chosen.isEmpty then (s, refuse .notFound)
      else if (chosen.filter (removable serviceDone)).isEmpty then
        (s, ⟨.condition, s.clearedData l [] .none⟩)
      else s.clearFaults l (chosen.filter (removable serviceDone)) choice := by
  simp only [reqClearFault, run, hl, form, namedFaults, named, ne_eq, not_true_eq_false, if_false,
    reduceCtorEq]

/-- R117: a class that stands in the lane's own set alone. -/
theorem named_own (own : (s.lane l).faults.filter (fun e => e.cls == c) = [f])
    (shared : ∀ e ∈ (s.pair (pairOf l)).faults, e.cls ≠ c) :
    (s.faultsOn l).filter (fun e => e.cls == c) = [f] := by
  have none_ : (s.pair (pairOf l)).faults.filter (fun e => e.cls == c) = [] :=
    List.filter_eq_nil_iff.2 fun e he => by simpa using shared e he
  rw [State.faultsOn, List.filter_append, own, none_, List.append_nil]

/-- The class of the entry that stands alone. -/
theorem cls_of_own (own : (s.lane l).faults.filter (fun e => e.cls == c) = [f]) : f.cls = c := by
  have mem : f ∈ (s.lane l).faults.filter fun e => e.cls == c := own ▸ List.mem_singleton_self f
  simpa using (List.mem_filter.1 mem).2

/-! ## The removal (R111, R117, R120) -/

/-- R117, R120: the entry of a class taken from a lane's set, with FAULT_CLEARED, before the lane is told. -/
def State.faultRemoved (s : State) (l : LaneId) (c : FaultClass) (cause : ClearCause) : State :=
  (s.setLaneFaults l (removeFault c (s.lane l).faults)).raiseLaneCleared l c cause

theorem removeLaneFault_own (own : (s.lane l).faults.filter (fun e => e.cls == c) = [f])
    (cause : ClearCause) : s.removeLaneFault l c cause = (s.faultRemoved l c cause).tellFall l := by
  have found : findFault c (s.lane l).faults = some f := by
    rw [findFault, ← List.head?_filter, own]
    rfl
  simp only [State.removeLaneFault, found, State.faultRemoved]

theorem faults_faultRemoved (cause : ClearCause) :
    ((s.faultRemoved l c cause).lane l).faults = removeFault c (s.lane l).faults :=
  (faults_setLaneFaults ..).trans (if_pos rfl)

theorem supervisor_faultRemoved (cause : ClearCause) :
    (s.faultRemoved l c cause).supervisor l = s.supervisor l := supervisor_setLaneFaults ..

theorem entry_faultRemoved (cause : ClearCause) :
    (s.faultRemoved l c cause).entry l = s.entry l := entry_setLaneFaults ..

/-- R120: FAULT_CLEARED is pending. -/
theorem told_faultRemoved (cause : ClearCause) :
    (laneSource l, NoticeKind.faultCleared) ∈ (s.faultRemoved l c cause).notices.map noticeKey :=
  mem_keys_addNotice (.inr rfl)

theorem Decides.runOwed {p : PairId} {u : State} (hl : pairOf l = p) (h : Decides p s u) :
    Decides p s (u.runOwed l) := by
  subst hl
  unfold State.runOwed
  split
  · exact h
  · split
    · exact h.runNeed _
    · exact h

/-- R93: a machine that is not READY runs no owed cycle. -/
theorem runOwed_unready (h : (s.supervisor l).machine ≠ .ready) : s.runOwed l = s := by
  unfold State.runOwed
  split
  · rfl
  · exact if_neg fun c => h c.1

/-- What the removal of a class leaves of a lane without holder. -/
structure FaultGone (l : LaneId) (c : FaultClass) (s t : State) : Prop where
  onPair : OnPair (pairOf l) (s.setLaneFaults l (removeFault c (s.lane l).faults)) t
  told : (laneSource l, NoticeKind.faultCleared) ∈ t.notices.map noticeKey

theorem FaultGone.entry {t : State} (h : FaultGone l c s t) : t.entry l = s.entry l :=
  (h.onPair.entry l).trans (entry_setLaneFaults ..)

theorem FaultGone.classes {t : State} (h : FaultGone l c s t) :
    (t.lane l).faults.map (·.cls) = (removeFault c (s.lane l).faults).map (·.cls) := by
  rw [h.onPair.classes, faults_setLaneFaults, if_pos rfl]

theorem FaultGone.noneLeaving {t : State} (h : FaultGone l c s t) (stays : s.NoneLeaving) :
    t.NoneLeaving := h.onPair.noneLeaving stays

/-- A fall told to a lane without holder is decisions about its equipment. -/
theorem tellFall_noHolder (holder : (s.entry l).holder = none) :
    s.tellFall l = (s.runOwed l).armingCheck l := by
  have onPair : OnPair (pairOf l) s ((s.runOwed l).armingCheck l) :=
    ((OnPair.refl _ s).runOwed l rfl).armingCheck l rfl
  exact tellCredit_noHolder (by rw [onPair.entry]; exact holder)

theorem faultGone_of_own (own : (s.lane l).faults.filter (fun e => e.cls == c) = [f])
    (holder : (s.entry l).holder = none) (cause : ClearCause) :
    FaultGone l c s (s.removeLaneFault l c cause) := by
  have holder_u : ((s.faultRemoved l c cause).entry l).holder = none := by
    rw [entry_faultRemoved]; exact holder
  rw [removeLaneFault_own own, tellFall_noHolder holder_u]
  refine ⟨(((OnPair.refl _ _).raiseLaneCleared l c cause rfl).runOwed l rfl).armingCheck l rfl, ?_⟩
  exact ((Decides.refl.runOwed rfl).armingCheck l).keys (told_faultRemoved cause)

/-- R93: on a lane whose machine is not READY the removal leaves the supervisor. -/
theorem supervisor_removeLaneFault_unready
    (own : (s.lane l).faults.filter (fun e => e.cls == c) = [f])
    (unready : (s.supervisor l).machine ≠ .ready) (cause : ClearCause) :
    (s.removeLaneFault l c cause).supervisor l = s.supervisor l := by
  have same : (s.faultRemoved l c cause).supervisor l = s.supervisor l := supervisor_faultRemoved cause
  rw [removeLaneFault_own own, State.tellFall, runOwed_unready (by rw [same]; exact unready),
    State.supervisor, lane_tellCredit]
  exact (supervisor_armingCheck ..).trans same

/-! ## The service clear (R116) -/

/-- R116: PARK_FAILED cleared with the service done flag makes an OUT_OF_SERVICE machine PARKED. -/
theorem serviceClear_parks {t : State} (gone : FaultGone l c s t)
    (outOfService : (t.supervisor l).machine = .outOfService) :
    FaultGone l c s (t.serviceClear l) ∧ ((t.serviceClear l).supervisor l).machine = .parked := by
  have parked : t.serviceClear l = (State.raiseMachineState
      (t.modSupervisor l fun v => { v with machine := .parked }) l).laneChanged l := if_pos outOfService
  rw [parked]
  refine ⟨⟨((gone.onPair.modSupervisor l _ rfl).raiseMachineState l rfl).laneChanged l rfl, ?_⟩, ?_⟩
  · exact ((Decides.refl.modSupervisor l _).raiseMachineState.laneChanged).keys gone.told
  · have shown := (Supervised.modSupervisor (s := t) (l := l)
      (f := fun v => { v with machine := .parked }) rfl).raiseMachineState
    rw [supervisor_laneChanged, shown.supervisor]

/-! ## The restart (R118) -/

/-- R118, condition 3: a CLOSED lane is not restarted. -/
theorem restart_closed (closed : (s.entry l).state = .closed) (r : Option Resume) :
    s.restart l r = (s, .none) := by
  refine if_pos ?_
  simp [State.restartHolds, State.mayRestart, closed]

/-- R118: a HALTED machine, its HALT ended, of an OPEN lane below STOP whose holder is OPEN is started at
once. -/
theorem restart_begun {i : SessionId} {x : Session} (opened : (s.entry l).state = .opened)
    (holder : (s.entry l).holder = some i) (hx : s.session i = some x) (state : x.state = .opened)
    (halted : (s.supervisor l).machine = .halted) (record : (s.supervisor l).record = none)
    (awaiting : (s.supervisor l).awaiting = none) (owed : (s.pinsetter l).owed = none)
    (below : s.belowStop l = true) (r : Option Resume) :
    s.restart l r = (s.beginSequence l .start (some ⟨r⟩), .begun) := by
  have may : s.mayRestart l = true := by
    simp [State.mayRestart, opened, holder_eq_some.2 ⟨holder, hx⟩, state]
  have holds : s.restartHolds l = true := by
    simp [State.restartHolds, below, halted, restartable, owed, may]
  have now : s.restartWaits l = false := by
    simp [State.restartWaits, halted, State.haltPending, State.sequencing, record, awaiting]
  have mark : s.startMark l r = some ⟨r⟩ := by
    rw [startMark_eq r (by rw [halted]; rfl), halted, holder]
    rfl
  simp only [State.restart, holds, now, mark, not_true_eq_false, if_false, Bool.false_eq_true]

/-- R117, R118: an accepted CLEAR_FAULT of one entry of lane scope. -/
theorem clearFaults_one {u t : State} {r : Option Resume} {o : RestartOutcome}
    (scope : pairScope f.cls = false) (cleared : State.clearEntry l s f = u)
    (restarted : u.restart l r = (t, o)) (stays : t.NoneLeaving) :
    s.clearFaults l [f] r = (t, ⟨.ok, u.clearedData l [f] o⟩) := by
  simp only [State.clearFaults, List.foldl_cons, List.foldl_nil, cleared, restarted, State.restartOther,
    List.any_cons, List.any_nil, scope, Bool.or_false, Bool.false_eq_true, if_false, settlePair_stays stays]

/-- R117, R118: the request that has one entry removed. -/
theorem reqClearFault_removes {n code : Nat} {serviceDone : Bool} {r : Option Nat}
    {choice : Option Resume} {u t : State} {o : RestartOutcome} (run : s.device = .run)
    (hl : s.mappedLane? n = some l) (form : clearForm code serviceDone r = some (.one c, choice))
    (named : (s.faultsOn l).filter (fun e => e.cls == c) = [f])
    (goes : removable serviceDone f = true) (scope : pairScope f.cls = false)
    (cleared : State.clearEntry l s f = u) (restarted : u.restart l choice = (t, o))
    (stays : t.NoneLeaving) :
    reqClearFault n code serviceDone r s = (t, ⟨.ok, u.clearedData l [f] o⟩) := by
  have answer := reqClearFault_class run hl form named
  rw [List.filter_cons_of_pos goes, List.filter_nil] at answer
  exact answer.trans (clearFaults_one scope cleared restarted stays)

theorem clearEntry_own (park : f.cls ≠ .parkFailed) (jam : f.cls ≠ .returnJam) :
    State.clearEntry l s f = s.removeLaneFault l f.cls .desk := by
  unfold State.clearEntry
  split
  · next h => exact absurd h park
  · next h => exact absurd h jam
  · rfl

theorem pairScope_eq_false (jam : c ≠ .returnJam) : pairScope c = false := by
  cases c with
  | returnJam => exact absurd rfl jam
  | _ => rfl

/-! ## A lane whose holder bowls on -/

theorem faults_beginSequence (k : Sequence) (m : Option RestartMark) :
    ((s.beginSequence l k m).lane l).faults = (s.lane l).faults := by
  unfold State.beginSequence
  dsimp only
  split
  · rw [State.laneChanged, faults_armingCheck, lane_decideLift, lane_raiseMachineState, State.lane,
      lanes_place]
    exact (congrArg Lane.faults (lane_modSupervisor ..)).trans (by rw [if_pos rfl])
  · rfl

/-- What the removal of a class leaves of a lane with a holder and no cycle owed: its equipment but the play
state, and of the sessions all but the holder's billing state. -/
structure FaultTaken (l : LaneId) (c : FaultClass) (s t : State) : Prop where
  supervisor : t.supervisor l = s.supervisor l
  pairs : t.pairs = s.pairs
  entry : t.entry l = s.entry l
  faults : (t.lane l).faults = removeFault c (s.lane l).faults
  sessions : ∀ i x, s.session i = some x → ∃ b, t.session i = some (billedAs b x)
  stays : s.NoneLeaving → t.NoneLeaving

theorem faultTaken_of_own (own : (s.lane l).faults.filter (fun e => e.cls == c) = [f])
    (owed : (s.supervisor l).owed = none) (cause : ClearCause) :
    FaultTaken l c s (s.removeLaneFault l c cause) := by
  let u := s.faultRemoved l c cause
  have same : u.supervisor l = s.supervisor l := supervisor_faultRemoved cause
  have told : s.removeLaneFault l c cause = (u.armingCheck l).tellCredit l := by
    rw [removeLaneFault_own own, State.tellFall, runOwed_none (by rw [same]; exact owed)]
  have armed : OnPair (pairOf l) u (u.armingCheck l) := (OnPair.refl _ u).armingCheck l rfl
  have lane : ((u.armingCheck l).tellCredit l).lane l = (u.armingCheck l).lane l := lane_tellCredit ..
  rw [told]
  refine ⟨?_, ?_, ?_, ?_, fun i x hx => ?_, fun stays => ?_⟩
  · exact (congrArg Lane.supervisor lane).trans ((supervisor_armingCheck ..).trans same)
  · rw [tellCredit_others, armingCheck_others]; rfl
  · exact (congrArg Lane.entry lane).trans ((armed.entry l).trans (entry_faultRemoved cause))
  · rw [lane, faults_armingCheck]; exact faults_faultRemoved cause
  · exact session_tellCredit_some _ l ((armed.session i).trans hx)
  · exact State.NoneLeaving.tellCredit (armed.noneLeaving (s := u) stays) l

/-- R111: without a class, every other action on the lane below STOP, the lane is below STOP. -/
theorem FaultTaken.belowStop {t : State} (h : FaultTaken l c s t)
    (shared : ∀ e ∈ (s.pair (pairOf l)).faults, e.cls ≠ c)
    (below : ∀ e ∈ s.faultsOn l, e.cls ≠ c → severity e.action < severity .stop) :
    t.belowStop l = true := by
  have pair : t.pair (pairOf l) = s.pair (pairOf l) := by simp only [State.pair, h.pairs]
  have worst : severity (t.effective l) ≤ 1 := severity_worstAction_le.2 fun e he => by
    rw [State.faultsOn, h.faults, pair] at he
    obtain ⟨mem, other⟩ : e ∈ s.faultsOn l ∧ e.cls ≠ c := by
      rcases List.mem_append.1 he with own | jam
      · obtain ⟨mem, other⟩ := List.mem_filter.1 own
        exact ⟨List.mem_append_left _ mem, by simpa using other⟩
      · exact ⟨List.mem_append_right _ jam, shared e jam⟩
    exact Nat.le_of_lt_succ (below e mem other)
  exact decide_eq_true (Nat.lt_succ_of_le worst)

/-- R118: the removal of a class followed by a START with the restart mark. -/
structure Restarted (l : LaneId) (c : FaultClass) (r : Option Resume) (s u t : State) : Prop where
  restarted : u.restart l r = (t, .begun)
  faultsOn : t.faultsOn l = u.faultsOn l
  faults : (t.lane l).faults = removeFault c (s.lane l).faults
  supervisor : t.supervisor l = newSequence .start (some ⟨r⟩) (s.supervisor l)
  stays : s.NoneLeaving → t.NoneLeaving

theorem FaultTaken.restarts {u : State} {i : SessionId} {x : Session} (h : FaultTaken l c s u)
    (opened : (s.entry l).state = .opened) (holder : (s.entry l).holder = some i)
    (hx : s.session i = some x) (state : x.state = .opened) (halted : (s.supervisor l).machine = .halted)
    (record : (s.supervisor l).record = none) (awaiting : (s.supervisor l).awaiting = none)
    (owed : (s.pinsetter l).owed = none) (empty : (s.pinsetter l).slot = none)
    (below : u.belowStop l = true) (r : Option Resume) :
    Restarted l c r s u (u.beginSequence l .start (some ⟨r⟩)) := by
  have pinsetter := pinsetter_of_pairs h.pairs l
  obtain ⟨b, hu⟩ := h.sessions i x hx
  have onPair := (OnPair.refl (pairOf l) u).beginSequence l .start (some ⟨r⟩) rfl
  have faults := faults_beginSequence (s := u) (l := l) .start (some ⟨r⟩)
  obtain ⟨supervisor, -⟩ := beginSequence_takes (s := u) (l := l) (k := .start) (some ⟨r⟩)
    (slotTakes_of_empty (pinsetter ▸ empty) _)
  rw [← h.entry] at opened holder
  rw [← h.supervisor] at halted record awaiting
  rw [← pinsetter] at owed
  refine ⟨restart_begun opened holder hu state halted record awaiting owed below r, ?_,
    faults.trans h.faults, supervisor.trans (by rw [h.supervisor]),
    fun stays => onPair.noneLeaving (h.stays stays)⟩
  rw [State.faultsOn, faults, onPair.pairFaults]
  rfl

end

end Sys2Proof.Machine

open Sys2Proof Sys2Proof.Machine

/-- Settles O48: the entry named is absent, kept or removed; on a CLOSED lane nothing follows its removal but
the service clear, and on an OPEN one the restart. -/
theorem clearFaultRemovesEntry : Obligations.ClearFaultRemovesEntry := by
  unfold Obligations.ClearFaultRemovesEntry
  intro s tag n code c l trunk run hl hc stays kept
  have desk := clearForm_class (serviceDone := false) hc nofun (.inl ⟨rfl, rfl⟩)
  refine ⟨fun absent => ?_, fun f own shared => ?_⟩
  · have none_ : (s.faultsOn l).filter (fun f => f.cls == c) = [] :=
      List.filter_eq_nil_iff.2 fun f hf => by simpa using absent f hf
    exact exec_of_act rfl trunk (reqClearFault_class run hl desk none_) rfl
  obtain rfl : f.cls = c := cls_of_own own
  have named := named_own own shared
  have accepted : ∀ {service r choice u t o}, clearForm code service r = some (.one f.cls, choice) →
      removable service f = true → f.cls ≠ .returnJam → State.clearEntry l s f = u →
      u.restart l choice = (t, o) → t.NoneLeaving → exec (.clearFault tag n code service r) s =
        .next (t.reply ⟨tag, 43, ⟨.ok, u.clearedData l [f] o⟩⟩) := by
    intro service r _ u t o form goes jam cleared restarted leaving
    have answer := reqClearFault_removes run hl form named goes (pairScope_eq_false jam) cleared restarted
      leaving
    have trunk_t := ((Kept.refl s).reqClearFault n code service r).trunk
    rw [answer] at trunk_t
    exact exec_of_act rfl trunk answer trunk_t
  refine ⟨fun unlatched stands => ?_, fun park jam may => ?_, fun park closed holder outOfService => ?_⟩
  · have remains : ¬ removable false f = true := by
      rw [removable_iff, unlatched]
      rintro (h | ⟨_, h⟩ | ⟨notSelf, ended, reading, park⟩)
      · cases h
      · cases h
      · rcases stands with h | h | h | h
        · rw [notSelf] at h; cases h
        · rw [ended] at h; cases h
        · exact reading h
        · exact park h
    have answer := reqClearFault_class run hl desk named
    rw [List.filter_cons_of_neg remains, List.filter_nil] at answer
    exact exec_of_act rfl trunk answer rfl
  · have goes : removable false f = true := (removable_iff ..).2 <| may.imp_right
      fun ⟨notSelf, ended, reading⟩ => .inr ⟨notSelf, ended, reading, park⟩
    have cleared := clearEntry_own (s := s) (l := l) park jam
    refine ⟨fun closed holder => ?_, fun i x r choice opened holder hx state halted record awaiting owed
      owes empty below resume => ?_⟩
    · have gone := faultGone_of_own own holder .desk
      have still : ((s.removeLaneFault l f.cls .desk).entry l).state = .closed := by
        rw [gone.entry]; exact closed
      exact ⟨_, accepted desk goes jam cleared (restart_closed still none) (gone.noneLeaving stays),
        gone.onPair, gone.classes, exists_of_key gone.told⟩
    · have taken := faultTaken_of_own own owed .desk
      have begun := taken.restarts opened holder hx state halted record awaiting owes empty
        (taken.belowStop shared below) choice
      have form := clearForm_class (serviceDone := false) hc nofun resume
      refine ⟨_, ?_, by rw [begun.faults]; rfl, by rw [begun.supervisor]; rfl,
        by rw [begun.supervisor]; rfl⟩
      rw [State.effective, State.credit, begun.faultsOn]
      exact accepted form goes jam cleared begun.restarted (begun.stays stays)
  · have goes : removable true f = true := (removable_iff ..).2 (.inr (.inl ⟨park, rfl⟩))
    have jam : f.cls ≠ .returnJam := by rw [park]; nofun
    have cleared : State.clearEntry l s f =
        (s.removeLaneFault l f.cls .serviceDone).serviceClear l := by
      simp only [State.clearEntry, park]
    have supervisor := supervisor_removeLaneFault_unready own (by rw [outOfService]; nofun) .serviceDone
    obtain ⟨gone, parked⟩ := serviceClear_parks (faultGone_of_own own holder .serviceDone)
      (by rw [supervisor]; exact outOfService)
    have still : (((s.removeLaneFault l f.cls .serviceDone).serviceClear l).entry l).state = .closed := by
      rw [gone.entry]; exact closed
    have service := clearForm_class (serviceDone := true) hc (fun _ => park) (.inl ⟨rfl, rfl⟩)
    exact ⟨_, accepted service goes jam cleared (restart_closed still none) (gone.noneLeaving stays),
      gone.onPair, parked⟩

end

section
/-! SUPPORT. The loads keep the bounded stores within their capacities (O6): one lemma for each that touches
a store, and the step invariant assembled from them. -/

namespace Sys2Proof.Machine.StoresOk

open Sys2Proof

variable {s t : State}

/-- Only the staging special days, the Charge List, the tracks and the display queues count. -/
theorem congr (h : StoresOk s) (days : t.tariff.stagedDays = s.tariff.stagedDays)
    (charges : t.charges = s.charges)
    (tracks : ∀ p, (t.ballReturn p).track = (s.ballReturn p).track)
    (frames : ∀ p, (t.poller p).queue = (s.poller p).queue) : StoresOk t where
  days := days ▸ h.days
  charges := charges ▸ h.charges
  tracks := fun p => tracks p ▸ h.tracks p
  frames := fun p => frames p ▸ h.frames p

/-- A state whose pairs, staging days and Charge List are the ones before. -/
theorem of_pairs (h : StoresOk s) (pairs : t.pairs = s.pairs)
    (days : t.tariff.stagedDays = s.tariff.stagedDays) (charges : t.charges = s.charges) :
    StoresOk t :=
  have pair : ∀ p, t.pair p = s.pair p := fun p => by simp only [State.pair, pairs]
  h.congr days charges (fun p => by rw [State.ballReturn, pair]; rfl)
    (fun p => by rw [State.poller, pair]; rfl)

/-- A fold of loads that each keep the stores bounded. -/
theorem foldl {α : Type} {f : State → α → State} (hf : ∀ v x, StoresOk v → StoresOk (f v x))
    (xs : List α) (h : StoresOk s) : StoresOk (xs.foldl f s) :=
  xs.foldlRecOn f h fun v hv x _ => hf v x hv

/-! ## The loads of the tables -/

/-- R172: a console that goes takes its frames with it. -/
theorem loseConsole (h : StoresOk s) (p : PairId) (d : Side) (c : Bool) :
    StoresOk (s.loseConsole p d c) := by
  unfold State.loseConsole
  split
  · exact ((Kept.refl s).discardDisplay p d).stores h
  · exact h

/-- R2, R63: the entries and the debounce values of a pair are no stores. -/
theorem loadPair (h : StoresOk s) (e : LaneMapPair) : StoresOk (s.loadPair e) := by
  unfold State.loadPair
  split
  · exact h
  · next p _ =>
    have consoles := (h.loseConsole p .left e.left.hasConsole).loseConsole p .right e.right.hasConsole
    refine ((((Kept.refl _).mendOrder s p).decideLift p).armPair p).stores
      (consoles.congr rfl rfl (fun q => ?_) fun q => ?_)
    · rw [ballReturn_modFilter]; rfl
    · rw [poller_modFilter]; rfl

theorem setLaneMap (h : StoresOk s) (es : List LaneMapPair) : StoresOk (reqSetLaneMap es s).1 := by
  unfold reqSetLaneMap
  dsimp only
  split
  · exact h
  · split
    · exact h
    · split
      · exact h
      · exact (foldl (fun _ e k => k.loadPair e) es h).of_pairs rfl rfl rfl

theorem setProfile (h : StoresOk s) (n : Nat) (f : Profile) :
    StoresOk (reqSetProfile n f s).1 := by
  unfold reqSetProfile
  split
  · exact h.of_pairs rfl rfl rfl
  · exact h

theorem setFaultAction (h : StoresOk s) (xs : List FaultActionItem) :
    StoresOk (reqSetFaultAction xs s).1 := by
  unfold reqSetFaultAction
  split
  · exact h
  · refine foldl (fun v x k => ?_) xs h
    unfold State.loadFaultAction
    split
    · exact k.of_pairs rfl rfl rfl
    · exact k

theorem setNoticePriority (h : StoresOk s) (xs : List NoticePriorityItem) :
    StoresOk (reqSetNoticePriority xs s).1 := by
  unfold reqSetNoticePriority
  split
  · exact h
  · refine foldl (fun v x k => ?_) xs h
    unfold State.loadPriority
    split
    · exact k
    · exact k.of_pairs rfl rfl rfl

/-- R164: a new poll order leaves the pass-through queue. -/
theorem setPollOrder (h : StoresOk s) (pair : Nat) (ns : List Nat) (timeout threshold : Nat) :
    StoresOk (reqSetPollOrder pair ns timeout threshold s).1 := by
  unfold reqSetPollOrder
  split
  · exact h
  · split
    · exact h
    · split
      · exact h
      · refine h.congr rfl rfl (fun q => by rw [ballReturn_modPoller]) fun q => ?_
        rw [poller_modPoller]
        split <;> rfl

theorem setDefaults (h : StoresOk s) (f : DefaultsFields) : StoresOk (reqSetDefaults f s).1 := by
  unfold reqSetDefaults
  split
  · exact h
  · split
    · exact h.of_pairs rfl rfl rfl
    · exact h

/-- R123: a new capacity and jam watch time leave the track list. -/
theorem loadReturnItem (h : StoresOk s) (x : ReturnItem) : StoresOk (s.loadReturnItem x) := by
  unfold State.loadReturnItem
  split
  · exact h
  · next p _ =>
    refine ((Kept.refl _).returnChanged p _).stores
      (h.congr rfl rfl (fun q => ?_) fun q => by rw [poller_modReturn])
    rw [ballReturn_modReturn]
    split <;> rfl

theorem setReturn (h : StoresOk s) (xs : List ReturnItem) : StoresOk (reqSetReturn xs s).1 := by
  unfold reqSetReturn
  split
  · exact h
  · exact foldl (fun _ x k => k.loadReturnItem x) xs h

/-! ## The clock, the special days and the device -/

theorem setClock (h : StoresOk s) (c : Calendar) : StoresOk (reqSetClock c s).1 := by
  unfold reqSetClock
  split
  · exact h.of_pairs rfl rfl rfl
  · exact h

theorem adjustClock (h : StoresOk s) : StoresOk (reqAdjustClock s).1 := by
  unfold reqAdjustClock
  split
  · exact h.of_pairs rfl rfl rfl
  · exact h

/-- R144: the staging special days replaced by others within their bounds. -/
theorem stageDays (h : StoresOk s) {ds : List SpecialDay} (hds : DaysOk ds) :
    StoresOk (s.stageDays ds).1 :=
  { h with days := hds }

/-- R144: a date is removed, replaces the one held, or is inserted where there is room. -/
theorem stageSpecialDay (h : StoresOk s) (day month : Nat) (weekday : Option Nat) :
    StoresOk (reqStageSpecialDay day month weekday s).1 := by
  unfold reqStageSpecialDay
  dsimp only
  split
  · exact h
  · split
    · exact h
    · split
      · split
        · exact h.stageDays (h.days.remove day month)
        · exact h
      · split
        · exact h
        · next room => exact h.stageDays (h.days.insert _ room)

/-- R181: the tracks are emptied, the queues stand, and the Charge List is emptied or stands. -/
theorem resetDevice (h : StoresOk s) (discard : Bool) :
    StoresOk (reqResetDevice discard s).1 := by
  unfold reqResetDevice
  split
  · exact h
  · split
    · exact h
    · unfold State.resetBlocks
      dsimp only
      refine of_pairs (s := allPairs.foldl (State.resetReturnOf s) _) ?_ rfl rfl rfl
      refine foldl (fun v p k => (((Kept.refl v).jamEnds p _).decideLift p).stores k) _ ?_
      have pair : ∀ p : PairId, (s.pairs.map resetPair)[p] = resetPair (s.pair p) := fun p => by
        simp [State.pair]
      constructor
      case days => exact h.days
      case charges =>
        cases discard
        · exact h.charges
        · exact Nat.zero_le _
      case tracks =>
        intro p
        rw [State.ballReturn, State.pair, pair]
        exact Nat.zero_le _
      case frames =>
        intro p
        rw [State.poller, State.pair, pair]
        exact h.frames p

theorem goRun (h : StoresOk s) : StoresOk (reqGoRun s).1 := by
  unfold reqGoRun
  split
  · exact h
  · split
    · exact h
    · exact h.of_pairs rfl rfl rfl

theorem returnSetup (h : StoresOk s) : StoresOk (reqReturnSetup s).1 := by
  unfold reqReturnSetup
  split
  · exact h
  · split
    · exact h.of_pairs rfl rfl rfl
    · exact h

/-! ## Every step -/

/-- The power-on stores are empty. -/
theorem reset : StoresOk State.reset := by
  have pair : ∀ p, State.reset.pair p = Initial.pair := fun p => by simp [State.pair, State.reset]
  constructor
  case days => exact ⟨List.Pairwise.nil, Nat.zero_le _⟩
  case charges => exact Nat.zero_le _
  case tracks => exact fun p => by rw [State.ballReturn, pair]; exact Nat.zero_le _
  case frames => exact fun p => by rw [State.poller, pair]; exact Nat.zero_le _

/-- The stores stay bounded along every step. -/
theorem stepInvariant : StepInvariant StoresOk where
  kept k h := k.stores h
  load {i a s} ha hl h := by
    cases i with
    | setLaneMap _ es => cases ha; exact h.setLaneMap es
    | setProfile _ n f => cases ha; exact h.setProfile n f
    | setFaultAction _ xs => cases ha; exact h.setFaultAction xs
    | setNoticePriority _ xs => cases ha; exact h.setNoticePriority xs
    | setPollOrder _ p ns t m => cases ha; exact h.setPollOrder p ns t m
    | setDefaults _ f => cases ha; exact h.setDefaults f
    | setReturn _ xs => cases ha; exact h.setReturn xs
    | setClock _ c => cases ha; exact h.setClock c
    | adjustClock _ => cases ha; exact h.adjustClock
    | stageSpecialDay _ d m w => cases ha; exact h.stageSpecialDay d m w
    | resetDevice _ d => cases ha; exact h.resetDevice d
    | goRun _ => cases ha; exact h.goRun
    | returnSetup _ => cases ha; exact h.returnSetup
    | _ => cases hl
  trunk _ h := h.of_pairs rfl rfl rfl
  sent _ h := h.of_pairs rfl rfl rfl
  taken _ h := h.of_pairs rfl rfl rfl
  pass _ h := h.of_pairs rfl rfl rfl
  tick h := h.of_pairs rfl rfl rfl
  boundary h := h.of_pairs rfl rfl rfl
  reset := reset

end Sys2Proof.Machine.StoresOk

open Sys2Proof Sys2Proof.Machine

/-- Settles O6: what a command is made of keeps the stores bounded. -/
theorem stepKeepsStoresBounded : Obligations.StepKeepsStoresBounded := by
  unfold Obligations.StepKeepsStoresBounded
  exact fun _ _ h e => StoresOk.stepInvariant.step h e

end

section
/-! SUPPORT. SET_RETURN (O22): the clamped values named, and the capacity hold on the pair's lanes. -/

namespace Sys2Proof.Machine

open Sys2Proof

/-- R123: the fields named are those whose values lie outside their ranges. -/
theorem mem_returnClamps (x : ReturnItem) (f : Nat × PairField) :
    f ∈ returnClamps x ↔ f.1 = x.pair ∧
      ((f.2 = .capacity ∧ (x.capacity < 1 ∨ 12 < x.capacity)) ∨
        (f.2 = .jamSeconds ∧ (x.jamSeconds < 4 ∨ 60 < x.jamSeconds))) := by
  obtain ⟨n, g⟩ := f
  simp only [returnClamps, List.mem_map, List.mem_append, mem_named (show 1 ≤ 12 by decide),
    mem_named (show 4 ≤ 60 by decide), Prod.mk.injEq]
  constructor
  · rintro ⟨y, h, rfl, rfl⟩
    exact ⟨rfl, h⟩
  · rintro ⟨rfl, h⟩
    exact ⟨g, h, rfl, rfl⟩

/-- R123, R130: a return with its clamped values and at capacity worked out afresh. -/
theorem loadReturn_eq (x : ReturnItem) (r : BallReturn) : loadReturn x r =
    { r with
      capacity := max 1 (min 12 x.capacity), jamSeconds := max 4 (min 60 x.jamSeconds)
      atCapacity := decide (max 1 (min 12 x.capacity) ≤ r.track.length) } := by
  simp only [loadReturn, withCapacity, clampTo_eq _ (show 1 ≤ 12 by decide),
    clampTo_eq _ (show 4 ≤ 60 by decide)]

section
variable {s : State} {p : PairId}

theorem loadReturnItem_eq {x : ReturnItem} (hp : pairOf? x.pair = some p) :
    s.loadReturnItem x = (s.modReturn p (loadReturn x)).returnChanged p (s.ballReturn p) := by
  simp only [State.loadReturnItem, hp]

/-- R123: a request for one pair that exists is accepted. -/
theorem reqSetReturn_one {x : ReturnItem} (hp : pairOf? x.pair = some p) :
    reqSetReturn [x] s = (s.loadReturnItem x, ⟨.ok, .clampedPairFields (returnClamps x)⟩) := by
  unfold reqSetReturn
  rw [if_neg (by simp [hp, distinct])]
  simp

/-- R123: of the equipment only the pair's return, the arming of its lanes and the notices change. -/
theorem onPair_loadReturnItem {x : ReturnItem} (hp : pairOf? x.pair = some p) :
    OnPair p s (s.loadReturnItem x) := by
  rw [loadReturnItem_eq hp]
  exact ((OnPair.refl p s).modReturn p rfl rfl).returnChanged p _ rfl

/-- R130: after a change of a return that holds its capacity of balls, no lane of the pair is ARMED. -/
theorem returnChanged_full {b : BallReturn}
    (full : (s.ballReturn p).capacity ≤ (s.ballReturn p).track.length) (d : Side) :
    ((s.returnChanged p b).tracker (laneAt p d)).play ≠ .armed := by
  have ret : (s.tellFlags p b).ballReturn p = s.ballReturn p := by rw [tellFlags_notices]; rfl
  exact armPair_full (s := s.tellFlags p b) (by rwa [ret]) d

end

end Sys2Proof.Machine

open Sys2Proof Sys2Proof.Machine

/-- Settles O22: the return takes its values, and the arming checks that follow are the capacity hold. -/
theorem setReturnHoldsAtCapacity : Obligations.SetReturnHoldsAtCapacity := by
  unfold Obligations.SetReturnHoldsAtCapacity
  intro s tag x p free hp
  obtain ⟨alone, ret⟩ := returnChanged_spec s p (loadReturn x) (s.ballReturn p)
  rw [← loadReturnItem_eq hp] at alone ret
  have onPair := onPair_loadReturnItem (s := s) hp
  have accepted := exec_of_act (i := .setReturn tag [x]) rfl free (reqSetReturn_one hp)
    (by rw [onPair.others])
  refine ⟨s.loadReturnItem x, returnClamps x, accepted, mem_returnClamps x, ret.trans (loadReturn_eq ..),
    fun full d => ?_, onPair, (alone.pairs p).trans (if_pos rfl), fun k => ⟨_, alone.lanes k, ?_⟩⟩
  · rw [loadReturnItem_eq hp]
    refine returnChanged_full ?_ d
    rw [ballReturn_modReturn, if_pos rfl, loadReturn_eq]
    exact full
  · rcases alone.trackers k with same | ⟨here, same | ⟨idle, armed⟩ | ⟨armed, held⟩⟩
    · exact .inl same
    · exact .inl same
    · exact .inr (.inl ⟨here, idle, armed⟩)
    · exact .inr (.inr ⟨here, armed, held⟩)

end

section
/-! SUPPORT. TRIM_TRACK (O30): what the removal of the oldest entries, one after another, makes of the
pair's return. -/

namespace Sys2Proof.Machine

open Sys2Proof

section
variable {s : State} {p : PairId}

/-- The `n` oldest entries of pair `p` have left its track (R125): watch expired and overflow are no where
any has left, the phantom counter stands, and beside the pair's equipment only credit follows. -/
structure EntriesRemoved (p : PairId) (n : Nat) (s t : State) : Prop where
  follows : CreditFollows p s t
  track : (t.ballReturn p).track = (s.ballReturn p).track.drop n
  phantoms : (t.ballReturn p).phantoms = (s.ballReturn p).phantoms
  cleared : 1 ≤ n → (t.ballReturn p).watchExpired = false ∧ (t.ballReturn p).overflow = false

/-- R128: the jam watch decided leaves all else of the return. -/
theorem FallTold.decideWatch (removed : Bool) : FallTold p s (s.decideWatch p removed) :=
  have decided := (OnPair.refl p s).decideWatch p removed rfl
  ⟨decided.creditFollows, decided.pairFaults p, _, _, _, (ballReturn_modReturn ..).trans (if_pos rfl)⟩

/-- R129: the end of a jam condition told leaves all of the return but the lift and the jam watch. -/
theorem jamEnds_follows (s : State) (p : PairId) (b : BallReturn) :
    CreditFollows p s (s.jamEnds p b) ∧ ∃ used on w, (s.jamEnds p b).ballReturn p =
      { s.ballReturn p with inUse := used, liftOn := on, watch := w } := by
  unfold State.jamEnds
  split
  · exact pairConditionEnds_follows
  · exact ⟨(OnPair.refl p s).creditFollows, _, _, _, rfl⟩

/-- R125: one removal. -/
theorem entriesRemoved_removeEntry (s : State) (p : PairId) :
    EntriesRemoved p 1 s (s.removeEntry p false) := by
  let u := s.modReturn p removeOldest
  let v := (u.decideWatch p true).armPair p
  have shorter : CreditFollows p s u := (OnPair.refl p s).creditFollows.setPair _ rfl
  have removed : u.ballReturn p = removeOldest (s.ballReturn p) :=
    (ballReturn_modReturn ..).trans (if_pos rfl)
  have armed : FallTold p u v := ((FallTold.decideWatch true).trans
    (.armingCheck (pairOf_laneAt ..))).trans (.armingCheck (pairOf_laneAt ..))
  obtain ⟨used, on, w, ret⟩ := armed.ballReturn
  obtain ⟨follows, used', on', w', ret'⟩ := jamEnds_follows v p (s.ballReturn p)
  have answer : s.removeEntry p false = v.jamEnds p (s.ballReturn p) := rfl
  rw [answer]
  rw [ret, removed] at ret'
  exact
    { follows := (shorter.trans armed.follows).trans follows
      track := by rw [ret', removeOldest_track]
      phantoms := by rw [ret', removeOldest_phantoms]
      cleared := fun _ => by rw [ret']; exact ⟨rfl, rfl⟩ }

/-- R132: the removals one after another. -/
theorem entriesRemoved_removeEntries (p : PairId) (n : Nat) :
    ∀ s : State, EntriesRemoved p n s (s.removeEntries p n) := by
  induction n with
  | zero => exact fun s => ⟨(OnPair.refl p s).creditFollows, rfl, rfl, nofun⟩
  | succ n ih =>
    intro s
    have first := entriesRemoved_removeEntry s p
    have rest := ih (s.removeEntry p false)
    show EntriesRemoved p (n + 1) s ((s.removeEntry p false).removeEntries p n)
    refine ⟨first.follows.trans rest.follows, ?_, rest.phantoms.trans first.phantoms, fun _ => ?_⟩
    · rw [rest.track, first.track, List.drop_drop, Nat.add_comm]
    · cases n with
      | zero => exact first.cleared (Nat.le_refl 1)
      | succ n => exact rest.cleared (Nat.le_add_left 1 n)

/-- R132: a trim removes as many entries as its count or as the list holds. -/
theorem entriesRemoved_trim (s : State) (p : PairId) (count : Nat) :
    EntriesRemoved p (min count (s.ballReturn p).track.length) s (s.trim p count) := by
  by_cases nothing : min count (s.ballReturn p).track.length = 0
  · rw [trim_nothing nothing, nothing]
    exact entriesRemoved_removeEntries p 0 s
  · rw [trim_some nothing]
    obtain ⟨follows, track, phantoms, cleared⟩ := entriesRemoved_removeEntries p
      (min count (s.ballReturn p).track.length) s
    exact ⟨follows.trans ((OnPair.refl p _).raiseReturnState p rfl).creditFollows, track, phantoms,
      cleared⟩

/-- R132: TRIM_TRACK with a count in its range, where nobody waits to leave. -/
theorem reqTrimTrack_accepted {n count : Nat} (stays : s.NoneLeaving) (hp : pairOf? n = some p)
    (low : 1 ≤ count) (high : count ≤ 16) :
    let held := (s.ballReturn p).track.length
    reqTrimTrack n count s =
      (s.trim p count, ⟨.ok, .trimmed (min count held) (held - min count held)⟩) := by
  have settled := settlePair_stays (p := p) ((entriesRemoved_trim s p count).follows.noneLeaving stays)
  simp only [reqTrimTrack, hp]
  rw [if_neg (by omega), settled]

end

end Sys2Proof.Machine

open Sys2Proof Sys2Proof.Machine

/-- Settles O30: the removals, one after another, and the notice told of them. -/
theorem trimTrackRemovesOldest : Obligations.TrimTrackRemovesOldest := by
  unfold Obligations.TrimTrackRemovesOldest
  intro s tag n count p free stays hp low high held
  obtain ⟨follows, track, phantoms, cleared⟩ := entriesRemoved_trim s p count
  have accepted := exec_of_act (i := .trimTrack tag n count) rfl free
    (reqTrimTrack_accepted stays hp low high) (by rw [follows.others])
  refine ⟨s.trim p count, accepted, ?_, fun q hq => ?_, phantoms, fun holds => ?_, fun empty => ?_⟩
  · rw [track]
    rcases Nat.le_total count held with less | all
    · rw [Nat.min_eq_left less]
    · rw [Nat.min_eq_right all, List.drop_length, List.drop_eq_nil_of_le all]
  · rw [State.ballReturn, follows.pairs q hq]
    rfl
  · have removes : 1 ≤ min count held := by omega
    obtain ⟨watchExpired, overflow⟩ := cleared removes
    refine ⟨watchExpired, overflow, ?_⟩
    rw [trim_some (Nat.ne_of_gt removes)]
    exact exists_of_key (told_raiseReturnState ..)
  · exact trim_nothing (Nat.min_eq_zero_iff.2 (.inr empty))

end

section
/-! SUPPORT. The read requests (O34): the numbers that name a pair or a session, and the length of a notice's
payload. -/

namespace Sys2Proof.Machine

open Sys2Proof

/-- A pair is named by its number, counted from 1. -/
theorem pairOf_number (p : PairId) : pairOf? (p.val + 1) = some p := dif_pos (by omega)

theorem pairOf_outside {n : Nat} (h : n < 1 ∨ 16 < n) : pairOf? n = none := dif_neg (by omega)

/-- A session is named by its id, counted from 1. -/
theorem sessionOf_eq_some {n : Nat} {i : SessionId} : sessionOf? n = some i ↔ n = i.val + 1 := by
  unfold sessionOf?
  split
  · simp only [Option.some.injEq, Fin.ext_iff]
    omega
  · simp only [reduceCtorEq, false_iff]
    omega

/-- The session records that a request finds in use. -/
theorem sessionInUse_number {s : State} {i : SessionId} {x : Session} (hx : s.session i = some x) :
    s.sessionInUse? (i.val + 1) = some (i, x) := by
  simp only [State.sessionInUse?, sessionOf_eq_some.2 rfl, hx, Option.map_some]

theorem sessionInUse_none {s : State} {n : Nat}
    (h : ∀ i : SessionId, n = i.val + 1 → s.session i = none) : s.sessionInUse? n = none := by
  unfold State.sessionInUse?
  split
  · rfl
  · next i hi => rw [h i (sessionOf_eq_some.1 hi), Option.map_none]

/-- Section 11.7: the payload of a notice: four bytes and at most 509 of its fields. -/
theorem length_noticeBytes (n : Notice) :
    4 ≤ (noticeBytes n).length ∧ (noticeBytes n).length ≤ 513 := by
  have length : (noticeBytes n).length = 4 + min 509 (Config.noticeFields n.payload).length := by
    simp [noticeBytes, bytes1]
    omega
  omega

end Sys2Proof.Machine

open Sys2Proof Sys2Proof.Machine

/-- Settles O34: each read answers from the state, which it leaves. -/
theorem readsAnswerAndChangeNothing : Obligations.ReadsAnswerAndChangeNothing := by
  unfold Obligations.ReadsAnswerAndChangeNothing
  intro s tag free
  have answers : ∀ {i : Instr} {code : Byte} {act : State → State × Reply} {r : Reply},
      asked i = some ⟨tag, code, act⟩ → act s = (s, r) →
      exec i s = .next (s.reply ⟨tag, code, r⟩) := fun ha he => exec_of_act ha free he rfl
  refine ⟨fun n l hl => ?_, fun n hn => ?_, fun i x hx => ?_, fun n hn => ?_, fun p => ?_,
    fun n hn => ?_, answers rfl rfl, answers rfl rfl, ?_, ?_⟩
  · have found : reqReadLane n s = (s, ⟨.ok, .lane (s.laneReading l)⟩) := by
      simp only [reqReadLane, hl]
    exact ⟨s.laneReading l, answers rfl found, rfl, rfl, rfl, rfl, rfl, rfl, rfl, rfl, rfl, rfl, rfl,
      rfl⟩
  · exact answers rfl (by simp only [reqReadLane, hn, refuse])
  · exact answers rfl (by simp only [reqReadSession, sessionInUse_number hx])
  · exact answers rfl (by simp only [reqReadSession, sessionInUse_none hn, refuse])
  · exact answers rfl (by simp only [reqReadReturn, pairOf_number])
  · exact answers rfl (by simp only [reqReadReturn, pairOf_outside hn, refuse])
  · exact ⟨s.deviceReading, answers rfl rfl, rfl, rfl, rfl, rfl, rfl, rfl, rfl, rfl⟩
  · refine ⟨s.notices.map noticeReading, answers rfl rfl, ?_, fun r hr => ?_⟩
    · rw [List.map_map]
      rfl
    · obtain ⟨n, _, rfl⟩ := List.mem_map.1 hr
      exact length_noticeBytes n

end

section
/-! SUPPORT. The calendar stays a date and time that exists (O8): the carries of R136 one by one, the loads
that leave the clock alone, and the step invariant assembled from them. -/

namespace Sys2Proof.Machine

open Sys2Proof

/-! ## The calendar (R136, R138) -/

theorem calendarInRange_iff {c : Calendar} :
    calendarInRange c = true ↔
      c.second ≤ 59 ∧ c.minute ≤ 59 ∧ c.hour ≤ 23 ∧ (1 ≤ c.weekday ∧ c.weekday ≤ 7) ∧
        (1 ≤ c.month ∧ c.month ≤ 12) ∧ (2000 ≤ c.year ∧ c.year ≤ 2099) ∧
        1 ≤ c.day ∧ c.day ≤ monthLength c.month (isLeap c.year) := by
  simp only [calendarInRange, Bool.and_eq_true, decide_eq_true_eq, and_assoc]

/-- Every month has a first day. -/
theorem one_le_monthLength (month : Nat) (leap : Bool) : 1 ≤ monthLength month leap := by
  unfold monthLength
  split
  · split <;> decide
  · split <;> decide

theorem carryYear_inRange {c : Calendar} (h : calendarInRange c = true) (first : c.day = 1) :
    calendarInRange (carryYear c) = true := by
  have days := one_le_monthLength c.month
  rw [calendarInRange_iff] at h
  unfold carryYear
  split <;> rw [calendarInRange_iff] <;> dsimp only
  · have := days (isLeap 2000)
    omega
  · have := days (isLeap (c.year + 1))
    omega

theorem carryMonth_inRange {c : Calendar} (h : calendarInRange c = true) (first : c.day = 1) :
    calendarInRange (carryMonth c) = true := by
  have days := fun m => one_le_monthLength m (isLeap c.year)
  rw [calendarInRange_iff] at h
  unfold carryMonth
  split
  · refine carryYear_inRange ?_ first
    rw [calendarInRange_iff]
    have := days 1
    dsimp only
    omega
  · rw [calendarInRange_iff]
    have := days (c.month + 1)
    dsimp only
    omega

theorem carryDay_inRange {c : Calendar} (h : calendarInRange c = true) :
    calendarInRange (carryDay c) = true := by
  rw [calendarInRange_iff] at h
  have weekday : 1 ≤ (if c.weekday = 7 then 1 else c.weekday + 1) ∧
      (if c.weekday = 7 then 1 else c.weekday + 1) ≤ 7 := by
    split <;> omega
  unfold carryDay
  dsimp only
  split
  · refine carryMonth_inRange ?_ rfl
    rw [calendarInRange_iff]
    dsimp only
    omega
  · rw [calendarInRange_iff]
    dsimp only
    omega

theorem carryHour_inRange {c : Calendar} (h : calendarInRange c = true) :
    calendarInRange (carryHour c) = true := by
  rw [calendarInRange_iff] at h
  unfold carryHour
  split
  · refine carryDay_inRange ?_
    rw [calendarInRange_iff]
    dsimp only
    omega
  · rw [calendarInRange_iff]
    dsimp only
    omega

theorem carryMinute_inRange {c : Calendar} (h : calendarInRange c = true) :
    calendarInRange (carryMinute c) = true := by
  rw [calendarInRange_iff] at h
  unfold carryMinute
  split
  · refine carryHour_inRange ?_
    rw [calendarInRange_iff]
    dsimp only
    omega
  · rw [calendarInRange_iff]
    dsimp only
    omega

/-- A whole minute of a calendar in range. -/
theorem wholeMinute_inRange {c : Calendar} (h : calendarInRange c = true) :
    calendarInRange { c with second := 0 } = true := by
  rw [calendarInRange_iff] at *
  dsimp only
  omega

theorem addSecond_inRange {c : Calendar} (h : calendarInRange c = true) :
    calendarInRange (addSecond c) = true := by
  unfold addSecond
  split
  · exact carryMinute_inRange (wholeMinute_inRange h)
  · rw [calendarInRange_iff] at *
    dsimp only
    omega

theorem nearestMinute_inRange {c : Calendar} (h : calendarInRange c = true) :
    calendarInRange (nearestMinute c) = true := by
  unfold nearestMinute
  split
  · exact wholeMinute_inRange h
  · exact carryMinute_inRange (wholeMinute_inRange h)

/-! ## The loads leave the clock -/

section ClockStands

variable (s : State)

theorem clock_foldl {α : Type} {f : State → α → State} (hf : ∀ v x, (f v x).clock = v.clock)
    (xs : List α) : (xs.foldl f s).clock = s.clock :=
  xs.foldlRecOn (motive := fun v => v.clock = s.clock) f rfl fun v hv x _ => (hf v x).trans hv

theorem clock_loadPair (e : LaneMapPair) : (s.loadPair e).clock = s.clock := by
  have console : ∀ (v : State) (p : PairId) (d : Side) (c : Bool),
      (v.loseConsole p d c).clock = v.clock := fun v p d c => by
    unfold State.loseConsole
    split
    · exact ((Kept.refl v).discardDisplay p d).clock
    · rfl
  unfold State.loadPair
  split
  · rfl
  · next p _ =>
    dsimp only
    rw [((((Kept.refl _).mendOrder s p).decideLift p).armPair p).clock, clock_modFilter,
      clock_modEntry, clock_modEntry, console, console]

theorem clock_setLaneMap (es : List LaneMapPair) : (reqSetLaneMap es s).1.clock = s.clock := by
  unfold reqSetLaneMap
  dsimp only
  split
  · rfl
  · split
    · rfl
    · split
      · rfl
      · exact clock_foldl s clock_loadPair es

theorem clock_setProfile (n : Nat) (f : Profile) : (reqSetProfile n f s).1.clock = s.clock := by
  unfold reqSetProfile
  split <;> rfl

theorem clock_setFaultAction (xs : List FaultActionItem) :
    (reqSetFaultAction xs s).1.clock = s.clock := by
  unfold reqSetFaultAction
  split
  · rfl
  · refine clock_foldl s (fun v x => ?_) xs
    unfold State.loadFaultAction
    split <;> rfl

theorem clock_setNoticePriority (xs : List NoticePriorityItem) :
    (reqSetNoticePriority xs s).1.clock = s.clock := by
  unfold reqSetNoticePriority
  split
  · rfl
  · refine clock_foldl s (fun v x => ?_) xs
    unfold State.loadPriority
    split <;> rfl

theorem clock_setPollOrder (p : Nat) (ns : List Nat) (timeout threshold : Nat) :
    (reqSetPollOrder p ns timeout threshold s).1.clock = s.clock := by
  unfold reqSetPollOrder
  split
  · rfl
  · split
    · rfl
    · split <;> rfl

theorem clock_setDefaults (f : DefaultsFields) : (reqSetDefaults f s).1.clock = s.clock := by
  unfold reqSetDefaults
  split
  · rfl
  · split <;> rfl

theorem clock_setReturn (xs : List ReturnItem) : (reqSetReturn xs s).1.clock = s.clock := by
  unfold reqSetReturn
  split
  · rfl
  · refine clock_foldl s (fun v x => ?_) xs
    unfold State.loadReturnItem
    split
    · rfl
    · exact ((Kept.refl _).returnChanged _ _).clock

theorem clock_stageSpecialDay (day month : Nat) (weekday : Option Nat) :
    (reqStageSpecialDay day month weekday s).1.clock = s.clock := by
  unfold reqStageSpecialDay
  dsimp only
  split
  · rfl
  · split
    · rfl
    · split <;> split <;> rfl

/-- R181: a device reset leaves the clock running. -/
theorem clock_resetDevice (discard : Bool) : (reqResetDevice discard s).1.clock = s.clock := by
  unfold reqResetDevice
  split
  · rfl
  · split
    · rfl
    · unfold State.resetBlocks
      dsimp only
      exact clock_foldl (f := State.resetReturnOf s) _
        (fun v p => (((Kept.refl v).jamEnds p _).decideLift p).clock) allPairs

theorem clock_goRun : (reqGoRun s).1.clock = s.clock := by
  unfold reqGoRun
  split
  · rfl
  · split <;> rfl

theorem clock_returnSetup : (reqReturnSetup s).1.clock = s.clock := by
  unfold reqReturnSetup
  split
  · rfl
  · split <;> rfl

end ClockStands

/-! ## Every step -/

/-- The calendar of a state is a date and time that exists. -/
def CalendarOk (s : State) : Prop := calendarInRange s.clock.calendar = true

namespace CalendarOk

variable {s : State}

theorem of_clock {t : State} (h : CalendarOk s) (e : t.clock = s.clock) : CalendarOk t := by
  unfold CalendarOk
  rw [e]
  exact h

/-- R138: a calendar set has passed the check of its fields. -/
theorem setClock (h : CalendarOk s) (c : Calendar) : CalendarOk (reqSetClock c s).1 := by
  unfold reqSetClock
  split
  · next valid => exact valid
  · exact h

theorem adjustClock (h : CalendarOk s) : CalendarOk (reqAdjustClock s).1 := by
  unfold reqAdjustClock
  split
  · exact nearestMinute_inRange h
  · exact h

theorem stepInvariant : StepInvariant CalendarOk where
  kept k h := h.of_clock k.clock
  load {i a s} ha hl h := by
    cases i with
    | setLaneMap _ es => cases ha; exact h.of_clock (clock_setLaneMap s es)
    | setProfile _ n f => cases ha; exact h.of_clock (clock_setProfile s n f)
    | setFaultAction _ xs => cases ha; exact h.of_clock (clock_setFaultAction s xs)
    | setNoticePriority _ xs => cases ha; exact h.of_clock (clock_setNoticePriority s xs)
    | setPollOrder _ p ns t m => cases ha; exact h.of_clock (clock_setPollOrder s p ns t m)
    | setDefaults _ f => cases ha; exact h.of_clock (clock_setDefaults s f)
    | setReturn _ xs => cases ha; exact h.of_clock (clock_setReturn s xs)
    | setClock _ c => cases ha; exact h.setClock c
    | adjustClock _ => cases ha; exact h.adjustClock
    | stageSpecialDay _ d m w => cases ha; exact h.of_clock (clock_stageSpecialDay s d m w)
    | resetDevice _ d => cases ha; exact h.of_clock (clock_resetDevice s d)
    | goRun _ => cases ha; exact h.of_clock (clock_goRun s)
    | returnSetup _ => cases ha; exact h.of_clock (clock_returnSetup s)
    | _ => cases hl
  trunk _ h := h.of_clock rfl
  sent _ h := h.of_clock rfl
  taken _ h := h.of_clock rfl
  pass _ h := h
  tick h := addSecond_inRange h
  boundary h := h
  reset := by unfold CalendarOk; decide

end CalendarOk

end Sys2Proof.Machine

open Sys2Proof Sys2Proof.Machine

/-- Settles O8: what a command is made of keeps the calendar in range. -/
theorem stepKeepsCalendarInRange : Obligations.StepKeepsCalendarInRange := by
  unfold Obligations.StepKeepsCalendarInRange
  exact fun _ _ h e => CalendarOk.stepInvariant.step h e

end

section
/-! SUPPORT. SET_CLOCK and ADJUST_CLOCK (O23, O24): the check of the fields, and the nearest minute. -/

namespace Sys2Proof.Machine

open Sys2Proof

theorem monthLength_eq (month : Nat) (leap : Bool) :
    monthLength month leap =
      if month = 2 then (if leap = true then 29 else 28)
      else if month ∈ [4, 6, 9, 11] then 30 else 31 := by
  simp only [monthLength, List.mem_cons, List.not_mem_nil, or_false]

/-- R139: from the thirtieth second on, the next whole minute is the one that counting on reaches. -/
theorem nearestMinute_eq (c : Calendar) :
    nearestMinute c =
      if c.second < 30 then { c with second := 0 } else addSecond { c with second := 59 } := rfl

end Sys2Proof.Machine

open Sys2Proof Sys2Proof.Machine

/-- Settles O23: the check of R138 is the one the statement writes out. -/
theorem setClockSetsCalendar : Obligations.SetClockSetsCalendar := by
  unfold Obligations.SetClockSetsCalendar
  intro s tag c free valid
  have inRange : calendarInRange c = true ↔ valid := by
    rw [calendarInRange_iff, monthLength_eq]
    simp only [valid, isLeap, beq_iff_eq, and_assoc]
  refine ⟨fun out => exec_of_act rfl free ?_ rfl, fun fields => exec_of_act rfl free ?_ rfl⟩
  · exact if_neg (mt inRange.1 out)
  · exact if_pos (inRange.2 fields)

/-- Settles O24: without a valid clock the request is refused, and with one the clock is trimmed. -/
theorem adjustClockTrimsToMinute : Obligations.AdjustClockTrimsToMinute := by
  unfold Obligations.AdjustClockTrimsToMinute
  intro s tag free
  refine ⟨fun invalid => exec_of_act rfl free ?_ rfl, fun valid => ?_⟩
  · exact if_neg (Bool.eq_false_iff.1 invalid)
  · rw [← nearestMinute_eq]
    exact exec_of_act rfl free (if_pos valid) rfl

end

section
/-! SUPPORT. COMMIT_TARIFF and CANCEL_COMMIT (O26, O27): the first EMPTY slot, and the periods and slots of a
swap. -/

namespace Sys2Proof.Machine

open Sys2Proof

variable {t : Tariff} {n : Nat}

theorem isSome_of_mem_take (filled : ∀ i : Fin 24, i.val < n → t.slots[i].isSome = true) :
    ∀ x ∈ t.slots.toList.take n, x.isSome = true := by
  intro x hx
  obtain ⟨k, hk, rfl⟩ := List.getElem_of_mem hx
  have bounds : k < n ∧ k < 24 := by simpa using hk
  simpa using filled ⟨k, bounds.2⟩ bounds.1

/-- R146: with every slot up to the count filled, none of them is found EMPTY. -/
theorem firstEmpty_none (filled : ∀ i : Fin 24, i.val < n → t.slots[i].isSome = true) :
    firstEmpty t n = none := by
  rw [firstEmpty, Option.map_eq_none_iff, List.findIdx?_eq_none_iff]
  intro x hx
  rw [Option.isNone_eq_false_iff]
  exact isSome_of_mem_take filled x hx

theorem map_some_filterMap_id {α : Type} (xs : List (Option α)) (h : ∀ x ∈ xs, x.isSome = true) :
    (xs.filterMap id).map some = xs := by
  induction xs with
  | nil => rfl
  | cons x xs ih =>
    obtain ⟨hx, hxs⟩ := List.forall_mem_cons.1 h
    obtain ⟨y, rfl⟩ := Option.isSome_iff_exists.1 hx
    rw [List.filterMap_cons_some (f := id) rfl, List.map_cons, ih hxs]

/-- R145: with every slot up to the count filled, the staged periods are those slots one by one. -/
theorem getElem?_stagedPeriods (filled : ∀ i : Fin 24, i.val < n → t.slots[i].isSome = true)
    (i : Fin 24) (hi : i.val < n) : (stagedPeriods t n)[i.val]? = t.slots[i] := by
  have slots := map_some_filterMap_id _ (isSome_of_mem_take filled)
  have slot : ((stagedPeriods t n).map some)[i.val]? = some t.slots[i] := by
    rw [stagedPeriods, slots, List.getElem?_take_of_lt hi]
    simp
  rw [List.getElem?_map, Option.map_eq_some_iff] at slot
  obtain ⟨p, hp, e⟩ := slot
  rw [hp, e]

theorem length_stagedPeriods_filled (filled : ∀ i : Fin 24, i.val < n → t.slots[i].isSome = true)
    (hn : n ≤ 24) : (stagedPeriods t n).length = n := by
  have length := congrArg List.length (map_some_filterMap_id _ (isSome_of_mem_take filled))
  rw [List.length_map, List.length_take, Vector.length_toList, Nat.min_eq_left hn] at length
  exact length

/-- R145: the slots above the count become EMPTY, the others stand. -/
theorem getElem_trimSlots (slots : Vector (Option Period) 24) (n : Nat) (i : Fin 24) :
    (trimSlots slots n)[i] = if i.val < n then slots[i] else none := by
  simp only [trimSlots, Fin.getElem_fin, Vector.getElem_mapIdx]

/-- R145: what a swap makes of a state. -/
theorem swap_eq (s : State) (n : Nat) :
    s.swap n = ({ s with tariff :=
      { activeTable := stagedPeriods s.tariff n, activeDefaults := s.tariff.stagedDefaults
        activeDays := s.tariff.stagedDays, slots := trimSlots s.tariff.slots n
        stagedDefaults := s.tariff.stagedDefaults, stagedDays := s.tariff.stagedDays
        version := s.tariff.version + 1, committedOnce := true, pending := none } }).raise 0
      (.tariffSwapped (s.tariff.version + 1) (stagedPeriods s.tariff n).length
        s.tariff.stagedDays.length s.clock.calendar) := rfl

theorem commit_setup {s : State} (setup : s.device = .setup) (n : Nat) :
    s.commit n = (s.swap n, ⟨.ok, .version (s.tariff.version + 1)⟩) := by
  rw [State.commit, setup]
  rfl

theorem commit_run {s : State} (run : s.device = .run) (n : Nat) :
    s.commit n =
      ({ s with tariff := { s.tariff with pending := some ⟨n, minuteStamp s.clock.calendar⟩ } },
        ⟨.ok, .pendingVersion s.tariff.version⟩) := by
  rw [State.commit, run]

end Sys2Proof.Machine

open Sys2Proof Sys2Proof.Machine

/-- Settles O26: past the checks of R146 the commit is made as the device state says. -/
theorem commitTariffSwapsOrPends : Obligations.CommitTariffSwapsOrPends := by
  unfold Obligations.CommitTariffSwapsOrPends
  intro s tag n check free pending count filled crc
  have checked : reqCommitTariff n check s =
      if crc.toNat = check then s.commit n else (s, ⟨.check, .computedCrc crc⟩) := by
    rw [reqCommitTariff, if_neg (by rw [pending]; decide), if_neg (Nat.not_lt.2 count),
      firstEmpty_none filled]
  refine ⟨fun differs => exec_of_act rfl free (checked.trans (if_neg differs)) rfl,
    fun agrees run => exec_of_act rfl free ?_ rfl, fun agrees setup => ?_⟩
  · rw [checked, if_pos agrees]
    exact commit_run run n
  · have length := length_stagedPeriods_filled filled count
    refine ⟨stagedPeriods s.tariff n, trimSlots s.tariff.slots n, exec_of_act rfl free ?_ rfl, length,
      getElem?_stagedPeriods filled, getElem_trimSlots _ n⟩
    rw [checked, if_pos agrees, commit_setup setup, swap_eq, length]

/-- Settles O27: a pending commit ends, and without one there is nothing to cancel. -/
theorem cancelCommitEndsPending : Obligations.CancelCommitEndsPending := by
  unfold Obligations.CancelCommitEndsPending
  intro s tag free
  refine ⟨fun pending => exec_of_act rfl free ?_ rfl, fun none => exec_of_act rfl free ?_ rfl⟩
  · obtain ⟨m, hm⟩ := Option.isSome_iff_exists.1 pending
    rw [reqCancelCommit, hm]
    rfl
  · rw [reqCancelCommit, none]

end

section
/-! SUPPORT. The staging requests (O25): the first failing field of an entry and of a class default, and what
an insertion and a removal make of the special days. -/

namespace Sys2Proof.Machine

open Sys2Proof

/-! ## Failing fields (R142, R143) -/

/-- R142: the failing fields of a period entry, in the order of the checks. -/
def periodFaults (f : PeriodFields) : List TariffField :=
  (if f.classSet = 0 ∨ 255 < f.classSet then [TariffField.classSet] else []) ++
    (if f.weekdaySet = 0 ∨ 127 < f.weekdaySet then [TariffField.weekdaySet] else []) ++
    (if 1439 < f.startMinute then [TariffField.startMinute] else []) ++
    (if f.endMinute < 1 ∨ 1440 < f.endMinute ∨ f.endMinute ≤ f.startMinute then
      [TariffField.endMinute] else []) ++
    (if 10000 < f.gamePrice then [TariffField.gamePrice] else []) ++
    (if 60000 < f.hourlyRate then [TariffField.hourlyRate] else [])

/-- R143: the failing fields of a class default, in the order of the checks. -/
def classDefaultFaults (c : Nat) (d : ClassDefault) : List TariffField :=
  (if 7 < c then [TariffField.tariffClass] else []) ++
    (if 10000 < d.gamePrice then [TariffField.gamePrice] else []) ++
    (if 60000 < d.hourlyRate then [TariffField.hourlyRate] else []) ++
    (if 60000 < d.minimum then [TariffField.minimum] else []) ++
    (if 59 < d.grace then [TariffField.grace] else [])

theorem head?_check (p : Prop) [Decidable p] (x : TariffField) (later : List TariffField) :
    ((if p then [x] else []) ++ later).head? = if p then some x else later.head? := by
  split <;> rfl

theorem head?_lastCheck (p : Prop) [Decidable p] (x : TariffField) :
    (if p then [x] else []).head? = if p then some x else none := by
  split <;> rfl

/-- R142: the field named is the first that fails. -/
theorem periodFault_eq (f : PeriodFields) : periodFault f = (periodFaults f).head? := by
  simp only [periodFault, periodFaults, List.append_assoc, head?_check, head?_lastCheck,
    Nat.lt_one_iff]

/-- R143: the field named is the first that fails. -/
theorem classDefaultFault_eq (c : Nat) (d : ClassDefault) :
    classDefaultFault c d = (classDefaultFaults c d).head? := by
  simp only [classDefaultFault, classDefaultFaults, List.append_assoc, head?_check, head?_lastCheck]

/-! ## STAGE_ENTRY and STAGE_CLASS_DEFAULT (R142, R143) -/

section Requests

variable {s : State}

/-- R142: CLEAR makes a slot EMPTY. -/
theorem reqStageEntry_clears (pending : s.tariff.pending = none) (n : Fin 24) :
    reqStageEntry (n.val + 1) none s =
      ({ s with tariff := { s.tariff with slots := s.tariff.slots.set n none } }, accept) := by
  rw [reqStageEntry, if_neg (by rw [pending]; decide)]
  exact dif_pos ⟨by omega, by omega⟩

theorem reqStageEntry_fails (pending : s.tariff.pending = none) (n : Fin 24) {f : PeriodFields}
    {bad : TariffField} (fails : periodFault f = some bad) :
    reqStageEntry (n.val + 1) (some f) s = (s, ⟨.range, .tariffField bad⟩) := by
  rw [reqStageEntry, if_neg (by rw [pending]; decide), dif_pos ⟨by omega, by omega⟩]
  dsimp only
  rw [fails]

theorem reqStageEntry_passes (pending : s.tariff.pending = none) (n : Fin 24) {f : PeriodFields}
    (passes : periodFault f = none) :
    reqStageEntry (n.val + 1) (some f) s =
      ({ s with tariff := { s.tariff with slots := s.tariff.slots.set n (some (periodOf f)) } },
        accept) := by
  rw [reqStageEntry, if_neg (by rw [pending]; decide), dif_pos ⟨by omega, by omega⟩]
  dsimp only
  rw [passes]
  rfl

theorem reqStageEntry_outside (pending : s.tariff.pending = none) {n : Nat}
    (h : n < 1 ∨ 24 < n) (e : Option PeriodFields) :
    reqStageEntry n e s = (s, refuse .range) := by
  rw [reqStageEntry, if_neg (by rw [pending]; decide)]
  exact dif_neg (by omega)

theorem reqStageClassDefault_fails (pending : s.tariff.pending = none) {c : Nat} {d : ClassDefault}
    {bad : TariffField} (fails : classDefaultFault c d = some bad) :
    reqStageClassDefault c d s = (s, ⟨.range, .tariffField bad⟩) := by
  rw [reqStageClassDefault, if_neg (by rw [pending]; decide), fails]

theorem reqStageClassDefault_passes (pending : s.tariff.pending = none) {c : Nat} (h : c < 8)
    {d : ClassDefault} (passes : classDefaultFault c d = none) :
    reqStageClassDefault c d s =
      ({ s with tariff := { s.tariff with stagedDefaults := s.tariff.stagedDefaults.set c d } },
        accept) := by
  rw [reqStageClassDefault, if_neg (by rw [pending]; decide), passes, classOf?, dif_pos h]

end Requests

/-! ## The special days (R144) -/

theorem holdsDay_iff {day month : Nat} {ds : List SpecialDay} :
    holdsDay day month ds = true ↔ ∃ d ∈ ds, d.day = day ∧ d.month = month := by
  simp only [holdsDay, List.any_eq_true, Bool.and_eq_true, beq_iff_eq]

/-- R144: the ranges of a date, by a leap year, and of a weekday. -/
theorem specialDayRange_eq_false {day month : Nat} {w : Option Nat} :
    specialDayRange day month w = false ↔
      1 ≤ month ∧ month ≤ 12 ∧ 1 ≤ day ∧
        day ≤ (if month = 2 then 29 else if month ∈ [4, 6, 9, 11] then 30 else 31) ∧
        ∀ n ∈ w, 1 ≤ n ∧ n ≤ 7 := by
  have last := monthLength_eq month true
  rw [if_pos rfl] at last
  rw [← last]
  cases w with
  | none => simp [specialDayRange]; omega
  | some n => simp [specialDayRange]; omega

/-- The test of R144 on one day of the list. -/
theorem otherDate_iff {day month : Nat} {d : SpecialDay} :
    (!(d.day == day && d.month == month)) = true ↔ ¬ (d.day = day ∧ d.month = month) := by
  rw [Bool.not_eq_true', ← Bool.not_eq_true, Bool.and_eq_true, beq_iff_eq, beq_iff_eq]

/-- A date that comes before another is not the other. -/
theorem date_ne_of_dayBefore {a b : SpecialDay} (h : dayBefore b.month b.day a = true) :
    ¬ (b.day = a.day ∧ b.month = a.month) := by
  rw [dayBefore_iff] at h
  omega

/-- R144: in ascending order no date stands twice. -/
theorem date_ne_of_ascending {e : SpecialDay} {es : List SpecialDay}
    (h : (e :: es).Pairwise fun a b => dayBefore b.month b.day a = true) :
    ∀ d ∈ es, ¬ (d.day = e.day ∧ d.month = e.month) :=
  fun d hd => date_ne_of_dayBefore ((List.pairwise_cons.1 h).1 d hd)

/-- R144: an insertion replaces the entry of its date; the other dates stand. -/
theorem mem_insertDay_iff {x d : SpecialDay} {ds : List SpecialDay}
    (h : ds.Pairwise fun a b => dayBefore b.month b.day a = true) :
    d ∈ insertDay x ds ↔ (d ∈ ds ∧ ¬ (d.day = x.day ∧ d.month = x.month)) ∨ d = x := by
  induction ds with
  | nil => simp [insertDay]
  | cons e es ih =>
    have later := date_ne_of_ascending h
    have ih := ih (List.pairwise_cons.1 h).2
    simp only [insertDay]
    split
    · next same =>
      have stand : d ∈ es → ¬ (d.day = x.day ∧ d.month = x.month) := fun hd => by
        rw [← same.1, ← same.2]
        exact later d hd
      have replaced : d = e → d.day = x.day ∧ d.month = x.month := fun hd => hd ▸ same
      rw [List.mem_cons, List.mem_cons]
      grind
    · next other =>
      have stands : d = e → ¬ (d.day = x.day ∧ d.month = x.month) := fun hd => hd ▸ other
      split
      · rw [List.mem_cons, List.mem_cons, ih]
        grind
      · next notBefore =>
        have stand : d ∈ es → ¬ (d.day = x.day ∧ d.month = x.month) := fun hd => by
          have before := (List.pairwise_cons.1 h).1 d hd
          rw [dayBefore_iff] at before notBefore
          omega
        rw [List.mem_cons, List.mem_cons]
        grind

/-- R144: a date not held makes one day more. -/
theorem length_insertDay_new {x : SpecialDay} {ds : List SpecialDay}
    (h : ¬ ∃ d ∈ ds, d.day = x.day ∧ d.month = x.month) :
    (insertDay x ds).length = ds.length + 1 := by
  induction ds with
  | nil => rfl
  | cons e es ih =>
    rw [List.exists_mem_cons_iff, not_or] at h
    simp only [insertDay]
    rw [if_neg h.1]
    split
    · rw [List.length_cons, ih h.2, List.length_cons]
    · rfl

theorem mem_removeDay {day month : Nat} {d : SpecialDay} {ds : List SpecialDay} :
    d ∈ removeDay day month ds ↔ d ∈ ds ∧ ¬ (d.day = day ∧ d.month = month) := by
  rw [removeDay, List.mem_filter, otherDate_iff]

/-- R144: a date held is held once, and its removal makes one day less. -/
theorem length_removeDay_held {day month : Nat} {ds : List SpecialDay}
    (h : ds.Pairwise fun a b => dayBefore b.month b.day a = true)
    (held : ∃ d ∈ ds, d.day = day ∧ d.month = month) :
    (removeDay day month ds).length + 1 = ds.length := by
  induction ds with
  | nil => simp at held
  | cons e es ih =>
    by_cases same : e.day = day ∧ e.month = month
    · have rest : removeDay day month es = es := List.filter_eq_self.2 fun d hd => by
        rw [otherDate_iff, ← same.1, ← same.2]
        exact date_ne_of_ascending h d hd
      have gone : removeDay day month (e :: es) = removeDay day month es :=
        List.filter_cons_of_neg (mt otherDate_iff.1 (not_not_intro same))
      rw [gone, rest, List.length_cons]
    · have stands : removeDay day month (e :: es) = e :: removeDay day month es :=
        List.filter_cons_of_pos (otherDate_iff.2 same)
      rw [List.exists_mem_cons_iff] at held
      rw [stands, List.length_cons, ih (List.pairwise_cons.1 h).2 (held.resolve_left same),
        List.length_cons]

/-! ## STAGE_SPECIAL_DAY (R144) -/

section Days

variable {s : State} {day month : Nat}

theorem reqStageSpecialDay_remove (pending : s.tariff.pending = none)
    (ranges : specialDayRange day month none = false) :
    reqStageSpecialDay day month none s =
      if holdsDay day month s.tariff.stagedDays then
        s.stageDays (removeDay day month s.tariff.stagedDays)
      else (s, refuse .notFound) := by
  have idle : ¬ s.tariff.pending.isSome = true := by rw [pending]; decide
  exact (if_neg idle).trans (if_neg (by rw [ranges]; decide))

theorem reqStageSpecialDay_weekday (pending : s.tariff.pending = none) {n : Nat}
    (ranges : specialDayRange day month (some n) = false) :
    reqStageSpecialDay day month (some n) s =
      if ¬ holdsDay day month s.tariff.stagedDays ∧
          specialDayCapacity ≤ s.tariff.stagedDays.length then (s, refuse .full)
      else s.stageDays (insertDay ⟨day, month, n⟩ s.tariff.stagedDays) := by
  have idle : ¬ s.tariff.pending.isSome = true := by rw [pending]; decide
  exact (if_neg idle).trans (if_neg (by rw [ranges]; decide))

end Days

end Sys2Proof.Machine

open Sys2Proof Sys2Proof.Machine

/-- Settles O25: the first failing field is the one named, and the special days stay a set of dates. -/
theorem stagingReplacesEntries : Obligations.StagingReplacesEntries := by
  unfold Obligations.StagingReplacesEntries
  constructor
  · intro s tag free
    refine ⟨fun n e busy => exec_of_act rfl free (if_pos busy) rfl,
      fun c d busy => exec_of_act rfl free (if_pos busy) rfl, fun pending => ⟨fun n e out => ?_,
        fun n => ⟨?_, fun f => ⟨fun x rest bad => ?_, fun good => ?_⟩⟩,
        fun c d => ⟨fun x rest bad => ?_, fun good below => ?_⟩⟩⟩
    · exact exec_of_act rfl free (reqStageEntry_outside pending out e) rfl
    · exact exec_of_act rfl free (reqStageEntry_clears pending n) rfl
    · have fails := (periodFault_eq f).trans (congrArg List.head? bad)
      exact exec_of_act rfl free (reqStageEntry_fails pending n fails) rfl
    · have passes := (periodFault_eq f).trans (congrArg List.head? good)
      exact exec_of_act rfl free (reqStageEntry_passes pending n passes) rfl
    · have fails := (classDefaultFault_eq c d).trans (congrArg List.head? bad)
      exact exec_of_act rfl free (reqStageClassDefault_fails pending fails) rfl
    · have passes := (classDefaultFault_eq c d).trans (congrArg List.head? good)
      exact exec_of_act rfl free (reqStageClassDefault_passes pending below passes) rfl
  · intro s tag day month w free ok days held inRange refused
    have ranges : specialDayRange day month w = false ↔ inRange := specialDayRange_eq_false
    have holds : holdsDay day month days = true ↔ held := holdsDay_iff
    refine ⟨fun busy => exec_of_act rfl free (if_pos busy) rfl, fun pending out => ?_,
      fun pending fields remove absent => ?_, fun pending fields weekday absent full => ?_,
      fun pending fields removes adds => ?_⟩
    · have idle : ¬ s.tariff.pending.isSome = true := by rw [pending]; decide
      have fails : specialDayRange day month w = true := Bool.eq_true_of_not_eq_false (mt ranges.1 out)
      exact exec_of_act rfl free ((if_neg idle).trans (if_pos fails)) rfl
    · subst remove
      have checked := reqStageSpecialDay_remove pending (ranges.2 fields)
      exact exec_of_act rfl free (checked.trans (if_neg (mt holds.1 absent))) rfl
    · obtain ⟨n, rfl⟩ := Option.isSome_iff_exists.1 weekday
      have checked := reqStageSpecialDay_weekday pending (ranges.2 fields)
      have fills := And.intro (mt holds.1 absent) (Nat.le_of_eq full.symm)
      exact exec_of_act rfl free (checked.trans (if_pos fills)) rfl
    · cases w with
      | none =>
        have present := removes rfl
        have checked := reqStageSpecialDay_remove pending (ranges.2 fields)
        refine ⟨removeDay day month days,
          exec_of_act rfl free (checked.trans (if_pos (holds.2 present))) rfl, fun d => ?_,
          nofun, nofun, fun _ => length_removeDay_held ok.ascending present⟩
        rw [mem_removeDay]
        exact ⟨.inl, fun h => h.resolve_right nofun⟩
      | some n =>
        have room : ¬ (¬ holdsDay day month days = true ∧ specialDayCapacity ≤ days.length) :=
          fun full => (adds rfl).elim (fun present => full.1 (holds.2 present))
            fun fewer => absurd full.2 (Nat.not_le_of_lt fewer)
        have checked := reqStageSpecialDay_weekday pending (ranges.2 fields)
        refine ⟨insertDay ⟨day, month, n⟩ days,
          exec_of_act rfl free (checked.trans (if_neg room)) rfl, fun d => ?_,
          fun _ present => length_insertDay_held ok.ascending (holds.2 present),
          fun _ absent => length_insertDay_new absent, nofun⟩
        rw [mem_insertDay_iff ok.ascending]
        refine or_congr Iff.rfl ⟨?_, ?_⟩
        · rintro rfl
          exact ⟨rfl, rfl, rfl⟩
        · rintro ⟨weekday, rfl, rfl⟩
          cases weekday
          rfl

end

section
/-! SUPPORT. The second that follows (O58): the carries of R136 as one calendar, field by field. -/

namespace Sys2Proof.Machine

open Sys2Proof

/-- R136: the day after, with its carries into the month and the year. -/
def dayAfter (c : Calendar) : Calendar :=
  let last := if c.month = 2 then (if c.year % 4 = 0 then 29 else 28)
    else if c.month ∈ [4, 6, 9, 11] then 30 else 31
  { second := 0, minute := 0, hour := 0, weekday := if c.weekday = 7 then 1 else c.weekday + 1
    day := if c.day = last then 1 else c.day + 1
    month := if c.day = last then (if c.month = 12 then 1 else c.month + 1) else c.month
    year := if c.day = last ∧ c.month = 12 then (if c.year = 2099 then 2000 else c.year + 1)
      else c.year }

/-- R136: the second that follows a date and time that exists. -/
def secondAfter (c : Calendar) : Calendar :=
  if c.second < 59 then { c with second := c.second + 1 }
  else if c.minute < 59 then { c with second := 0, minute := c.minute + 1 }
  else if c.hour < 23 then { c with second := 0, minute := 0, hour := c.hour + 1 }
  else dayAfter c

theorem carryDay_eq (c : Calendar) :
    carryDay { c with second := 0, minute := 0, hour := 0 } = dayAfter c := by
  have last := monthLength_eq c.month (isLeap c.year)
  simp only [isLeap, beq_iff_eq] at last
  unfold dayAfter
  rw [← last]
  unfold carryDay carryMonth carryYear
  dsimp only [isLeap]
  by_cases ends : c.day = monthLength c.month (c.year % 4 == 0)
  · by_cases december : c.month = 12
    · by_cases wraps : c.year = 2099
      · simp [ends, december, wraps]
      · simp [ends, december, wraps]
    · simp [ends, december]
  · simp [ends]

theorem addSecond_eq {c : Calendar} (h : calendarInRange c = true) : addSecond c = secondAfter c := by
  obtain ⟨second, minute, hour, _⟩ := calendarInRange_iff.1 h
  unfold secondAfter addSecond
  by_cases lastSecond : c.second = 59
  · rw [if_pos lastSecond, if_neg (by omega), carryMinute]
    by_cases lastMinute : c.minute = 59
    · rw [if_pos lastMinute, if_neg (by omega), carryHour]
      by_cases lastHour : c.hour = 23
      · rw [if_pos lastHour, if_neg (by omega)]
        exact carryDay_eq c
      · rw [if_neg lastHour, if_pos (by omega)]
    · rw [if_neg lastMinute, if_pos (by omega)]
  · rw [if_neg lastSecond, if_pos (by omega)]

/-- R136, R137: the state in which the sessions take a second tick. -/
def State.ticked (s : State) : State :=
  { s with deviceTime := s.deviceTime + (1000 - s.clock.phase), clock := tickClock s.clock }

theorem exec_secondTick (s : State) :
    exec .secondTick s = .next (allSessions.foldl State.sessionTick s.ticked).settleTrunk := rfl

end Sys2Proof.Machine
end

section
/-! SUPPORT. A tick short of a minute (O58): what it makes of each session, one after another (R151, R157). -/

namespace Sys2Proof.Machine

open Sys2Proof

/-! ## One more second on a record -/

theorem bumpSeconds_eq {n : Nat} (h : n < 4294967295) (which : Nat) : bumpSeconds which n = n + 1 :=
  if_pos h

/-- R151, R157: a record that has room for one more second, and whose tick neither charges a minute nor
ends an expiry wait. -/
structure ShortOfMinute (b : BillingRecord) : Prop where
  chargeable : b.chargeable < 4294967295
  credited : b.credited < 4294967295
  elapsed : b.elapsed < 4294967295
  running : b.state = .running → b.secondsInMinute < 59
  stopped : ∀ n, b.state = .stopped → b.expiryCount = some n → 2 ≤ n

/-- R151, R157: one more second on such a record. -/
def secondCounted (b : BillingRecord) : BillingRecord :=
  match b.state with
  | .gameMode => b
  | .running => { b with
      chargeable := b.chargeable + 1, elapsed := b.elapsed + 1
      secondsInMinute := b.secondsInMinute + 1 }
  | .crediting => { b with credited := b.credited + 1, elapsed := b.elapsed + 1 }
  | .stopped => { b with expiryCount := b.expiryCount.map fun n => n - 1 }

section Counted

variable {b : BillingRecord}

theorem secondCounted_gameMode (h : b.state = .gameMode) : secondCounted b = b := by
  rw [secondCounted, h]

theorem secondCounted_running (h : b.state = .running) :
    secondCounted b = { b with
      chargeable := b.chargeable + 1, elapsed := b.elapsed + 1
      secondsInMinute := b.secondsInMinute + 1 } := by
  cases b; cases h; rfl

theorem secondCounted_crediting (h : b.state = .crediting) :
    secondCounted b = { b with credited := b.credited + 1, elapsed := b.elapsed + 1 } := by
  cases b; cases h; rfl

theorem secondCounted_stopped (h : b.state = .stopped) :
    secondCounted b = { b with expiryCount := b.expiryCount.map fun n => n - 1 } := by
  cases b; cases h; rfl

end Counted

/-- A session with another billing record. -/
def withBilling (x : Session) (b : BillingRecord) : Session := { x with billing := b }

/-- A session one more second on. -/
def sessionCounted (x : Session) : Session := withBilling x (secondCounted x.billing)

/-! ## A session takes the tick -/

section Tick

variable {s : State} {i : SessionId} {x : Session}

theorem setSession_billing (hx : s.session i = some x) :
    s.setSession i (some (withBilling x x.billing)) = s := setSession_session hx

theorem settleSession_stays (stays : s.NoneLeaving) : s.settleSession i = s := by
  unfold State.settleSession
  split
  · rfl
  · exact settleLane_stays (stays.holderStays _)

theorem runningSecond_eq {b : BillingRecord} (chargeable : b.chargeable < 4294967295)
    (elapsed : b.elapsed < 4294967295) :
    runningSecond b = { b with
      chargeable := b.chargeable + 1, elapsed := b.elapsed + 1
      secondsInMinute := b.secondsInMinute + 1 } := by
  rw [runningSecond, bumpSeconds_eq chargeable, bumpSeconds_eq elapsed]

theorem minuteDue_short (hx : s.session i = some x) (short : x.billing.secondsInMinute < 60) :
    s.minuteDue i = s := by
  rw [State.minuteDue, hx]
  exact if_neg (Nat.not_le_of_lt short)

theorem expirySecond_counts (hx : s.session i = some x)
    (waits : ∀ n, x.billing.expiryCount = some n → 2 ≤ n) :
    s.expirySecond i = s.setSession i (some (withBilling x
      { x.billing with expiryCount := x.billing.expiryCount.map fun n => n - 1 })) := by
  rw [State.expirySecond, hx]
  dsimp only
  split
  · next count =>
    rw [count, Option.map_none, ← count]
    exact (setSession_billing hx).symm
  · next n count =>
    have := waits n count
    rw [if_neg (by omega), modSession_eq hx, count, Option.map_some]
    rfl

theorem billingTick_running (hx : s.session i = some x) (running : x.billing.state = .running) :
    s.billingTick i =
      (s.setSession i (some (withBilling x (runningSecond x.billing)))).minuteDue i := by
  rw [State.billingTick, hx]
  dsimp only
  rw [running]
  dsimp only
  rw [modSession_eq hx]
  rfl

/-- R151, R157: what a tick makes of one session. -/
theorem billingTick_counts (hx : s.session i = some x) (short : ShortOfMinute x.billing) :
    s.billingTick i = s.setSession i (some (sessionCounted x)) := by
  unfold sessionCounted
  cases state : x.billing.state with
  | gameMode =>
    rw [secondCounted_gameMode state, setSession_billing hx]
    simp only [State.billingTick, hx, state]
  | running =>
    have below := Nat.succ_lt_succ (short.running state)
    rw [billingTick_running hx state, minuteDue_short (session_setSession_self ..) below,
      secondCounted_running state, runningSecond_eq short.chargeable short.elapsed]
  | crediting =>
    rw [State.billingTick, hx]
    dsimp only
    rw [state]
    dsimp only
    rw [modSession_eq hx, creditedSecond, bumpSeconds_eq short.credited, bumpSeconds_eq short.elapsed,
      secondCounted_crediting state]
    rfl
  | stopped =>
    rw [State.billingTick, hx]
    dsimp only
    rw [state]
    dsimp only
    rw [expirySecond_counts hx fun n => short.stopped n state, secondCounted_stopped state]

/-- R151: what the tick leaves of a session record, in use or free; no session begins to leave. -/
theorem sessionTick_counts (stays : s.NoneLeaving)
    (short : ∀ x, s.session i = some x → ShortOfMinute x.billing) :
    s.sessionTick i = s.setSession i ((s.session i).map sessionCounted) ∧
      (s.sessionTick i).NoneLeaving := by
  cases hx : s.session i with
  | none =>
    have free : s.sessionTick i = s := by
      simp only [State.sessionTick, State.billingTick, State.settleSession, hx]
    rw [free]
    exact ⟨(setSession_session hx).symm, stays⟩
  | some x =>
    have staysAfter := stays.setSession (y := sessionCounted x) hx rfl
    have counted : s.sessionTick i = s.setSession i (some (sessionCounted x)) := by
      rw [State.sessionTick, billingTick_counts hx (short x hx)]
      exact settleSession_stays staysAfter
    rw [counted]
    exact ⟨rfl, staysAfter⟩

/-- R151: the sessions of a list take the tick one after another, each for itself. -/
theorem foldl_sessionTick (is : List SessionId) : ∀ {s : State}, is.Nodup → s.NoneLeaving →
    (∀ i ∈ is, ∀ x, s.session i = some x → ShortOfMinute x.billing) →
    let t := is.foldl State.sessionTick s
    t = { s with sessions := t.sessions } ∧
      ∀ j, t.session j = if j ∈ is then (s.session j).map sessionCounted else s.session j := by
  induction is with
  | nil => exact fun _ _ _ => ⟨rfl, fun j => (if_neg List.not_mem_nil).symm⟩
  | cons i is ih =>
    intro s nodup stays short
    obtain ⟨new, later⟩ := List.nodup_cons.1 nodup
    obtain ⟨shortHere, shortLater⟩ := List.forall_mem_cons.1 short
    obtain ⟨counted, staysAfter⟩ := sessionTick_counts stays shortHere
    have session : ∀ j, (s.sessionTick i).session j =
        if j = i then (s.session i).map sessionCounted else s.session j := fun j => by
      rw [counted, session_setSession]
    have ne : ∀ j ∈ is, j ≠ i := fun j hj e => new (e ▸ hj)
    obtain ⟨others, sessions⟩ := ih later staysAfter fun j hj y hy =>
      shortLater j hj y (by rwa [session, if_neg (ne j hj)] at hy)
    refine ⟨?_, fun j => (sessions j).trans ?_⟩
    · rw [List.foldl_cons, others, counted]
      rfl
    · rw [session]
      by_cases here : j = i
      · subst here
        rw [if_neg new, if_pos rfl, if_pos (List.mem_cons_self ..)]
      · simp only [List.mem_cons, here, false_or, ↓reduceIte]

end Tick

end Sys2Proof.Machine
end

section
/-! SUPPORT. The minute charged (O58): the lane's meter and the session's record at the sixtieth chargeable
second (R152 to R154), and the tick of the one session that bills by time. -/

namespace Sys2Proof.Machine

open Sys2Proof

/-! ## The meter and the record -/

theorem modMeter_modMeter (s : State) (l : LaneId) (f g : Meter → Meter) :
    (s.modMeter l f).modMeter l g = s.modMeter l fun m => g (f m) := by
  simp only [State.modMeter, State.meter, lane_setLane_self, setLane_setLane]

theorem modMeter_congr {s : State} {l : LaneId} {f g : Meter → Meter}
    (h : f (s.meter l) = g (s.meter l)) : s.modMeter l f = s.modMeter l g := by
  rw [State.modMeter, h, State.modMeter]

/-- R152 to R154: the first minute of an open line at a looked-up rate, on the lane's meter. -/
def minuteMetered (i : SessionId) (k : Lookup) (charge : Nat) (now : Calendar) (m : Meter) : Meter :=
  { m with
    openLine := some ⟨i, k.reference, k.version, 1, min 4294967295 charge, now⟩
    chargedTotal := min 4294967295 (m.chargedTotal + charge)
    saturated := m.saturated || decide (4294967295 ≤ m.chargedTotal + charge) }

/-- R152: a minute at a looked-up rate on the session's record: the amount, and the rest carried. -/
def minuteBilled (k : Lookup) (b : BillingRecord) : BillingRecord :=
  let charge := (k.hourlyRate + b.carry) / 60
  { b with
    carry := (k.hourlyRate + b.carry) % 60
    chargedMinutes := min 65535 (b.chargedMinutes + 1)
    timeTotal := min 4294967295 (b.timeTotal + charge)
    saturated := b.saturated || decide (4294967295 ≤ b.timeTotal + charge) }

/-! ## The minute -/

section Minute

variable {s : State} {i : SessionId} {x : Session}

/-- R152, R153: a minute charged on a lane without an open line. -/
theorem chargeMinute_eq (hx : s.session i = some x) (noLine : (s.meter x.lane).openLine = none)
    (k : Lookup) :
    s.chargeMinute i k =
      (s.modMeter x.lane (minuteMetered i k ((k.hourlyRate + x.billing.carry) / 60)
        s.clock.calendar)).setSession i (some (withBilling x (minuteBilled k x.billing))) := by
  simp only [State.chargeMinute, hx, State.settleLine, noLine, State.addCharged, modMeter_modMeter]
  have same : ∀ f, (s.modMeter x.lane f).session i = some x := fun _ => hx
  rw [modSession_eq (same _)]
  refine congrArg (fun u : State => u.setSession i _) (modMeter_congr ?_)
  simp [minuteMetered, newOpenLine, addToLine, bumpMinutes, satAdd]

/-- R152: the sixtieth chargeable second, with no commit pending, no limit and no open line. -/
theorem minuteDue_charges (hx : s.session i = some x) (due : x.billing.secondsInMinute = 60)
    (pending : s.tariff.pending = none) (limit : x.terms.limit = .none)
    (noLine : (s.meter x.lane).openLine = none) :
    let k := lookupIn s.tariff x.terms.tariffClass s.clock.calendar
    s.minuteDue i =
      (s.modMeter x.lane (minuteMetered i k ((k.hourlyRate + x.billing.carry) / 60)
        s.clock.calendar)).setSession i (some (withBilling x
          { minuteBilled k x.billing with secondsInMinute := 0 })) := by
  intro k
  let z := withBilling x { x.billing with secondsInMinute := 0 }
  have swap : (s.setSession i (some z)).swapForLookup = s.setSession i (some z) := by
    simp only [State.swapForLookup, tariff_setSession, pending]
  have charged := chargeMinute_eq (s := s.setSession i (some z)) (x := z)
    (session_setSession_self ..) noLine k
  rw [State.minuteDue, hx]
  dsimp only
  rw [if_pos (Nat.le_of_eq due.symm), modSession_eq hx]
  show State.limitTests (State.chargeMinute (State.swapForLookup (s.setSession i (some z))) i
    (State.lookup (State.swapForLookup (s.setSession i (some z))) _)) i = _
  rw [swap]
  show State.limitTests (State.chargeMinute (s.setSession i (some z)) i k) i = _
  rw [charged]
  refine (limitTests_none (x := withBilling z (minuteBilled k z.billing))
    (session_setSession_self ..) limit).trans ?_
  exact setSession_setSession (s.modMeter x.lane _) i (some z) _

/-- R151, R152: the tick that brings the sixtieth chargeable second. -/
theorem sessionTick_charges (stays : s.NoneLeaving) (hx : s.session i = some x)
    (running : x.billing.state = .running) (due : x.billing.secondsInMinute = 59)
    (limit : x.terms.limit = .none) (pending : s.tariff.pending = none)
    (noLine : (s.meter x.lane).openLine = none) (chargeable : x.billing.chargeable < 4294967295)
    (elapsed : x.billing.elapsed < 4294967295) :
    let k := lookupIn s.tariff x.terms.tariffClass s.clock.calendar
    s.sessionTick i =
      (s.modMeter x.lane (minuteMetered i k ((k.hourlyRate + x.billing.carry) / 60)
        s.clock.calendar)).setSession i (some (withBilling x
          { minuteBilled k x.billing with
            chargeable := x.billing.chargeable + 1, elapsed := x.billing.elapsed + 1
            secondsInMinute := 0 })) := by
  intro k
  let z := withBilling x { x.billing with
    chargeable := x.billing.chargeable + 1, elapsed := x.billing.elapsed + 1
    secondsInMinute := x.billing.secondsInMinute + 1 }
  have sixty : z.billing.secondsInMinute = 60 := congrArg (· + 1) due
  have tick : s.billingTick i = (s.setSession i (some z)).minuteDue i := by
    rw [billingTick_running hx running, runningSecond_eq chargeable elapsed]
  have charged := minuteDue_charges (s := s.setSession i (some z)) (x := z)
    (session_setSession_self ..) sixty pending limit noLine
  have billed : s.billingTick i = _ :=
    (tick.trans charged).trans (setSession_setSession (s.modMeter x.lane _) i (some z) _)
  rw [State.sessionTick, billed]
  exact settleSession_stays (State.NoneLeaving.setSession (s := s.modMeter x.lane _) stays hx rfl)

/-- R151: a tick passes over sessions that bill by the game. -/
theorem foldl_sessionTick_idle {is : List SessionId} (stays : s.NoneLeaving)
    (idle : ∀ j ∈ is, ∀ y, s.session j = some y → y.billing.state = .gameMode) :
    is.foldl State.sessionTick s = s := by
  have tick : ∀ j ∈ is, s.sessionTick j = s := fun j hj => by
    have same : s.billingTick j = s := by
      unfold State.billingTick
      split
      · rfl
      · next y hy => rw [idle j hj y hy]
    rw [State.sessionTick, same]
    exact settleSession_stays stays
  induction is with
  | nil => rfl
  | cons j is ih =>
    obtain ⟨here, later⟩ := List.forall_mem_cons.1 tick
    rw [List.foldl_cons, here]
    exact ih (fun k hk => idle k (List.mem_cons_of_mem _ hk)) later

end Minute

/-- R151: where every other session bills by the game, a tick is the tick of one session. -/
theorem foldl_sessionTick_one {s t : State} {i : SessionId} (stays : s.NoneLeaving)
    (idle : ∀ j y, j ≠ i → s.session j = some y → y.billing.state = .gameMode)
    (tick : s.sessionTick i = t) (staysAfter : t.NoneLeaving)
    (others : ∀ j, j ≠ i → t.session j = s.session j) :
    allSessions.foldl State.sessionTick s = t := by
  obtain ⟨before, after, split⟩ := List.append_of_mem (List.mem_finRange i)
  have nodup : (before ++ i :: after).Nodup := split ▸ List.nodup_finRange 32
  have once : i ∉ before ++ after := (List.nodup_cons.1 (List.nodup_middle.1 nodup)).1
  have apart : ∀ j, j ∈ before ∨ j ∈ after → j ≠ i :=
    fun j hj e => once (e ▸ List.mem_append.2 hj)
  rw [allSessions, split, List.foldl_append, List.foldl_cons,
    foldl_sessionTick_idle stays fun j hj y => idle j y (apart j (.inl hj)), tick]
  refine foldl_sessionTick_idle staysAfter fun j hj y hy => ?_
  have ne := apart j (.inr hj)
  exact idle j y ne ((others j ne).symm.trans hy)

end Sys2Proof.Machine

open Sys2Proof Sys2Proof.Machine

/-- Settles O58: the sessions take the tick one after another, each for itself, and a boundary swaps. -/
theorem ticksCountAndCharge : Obligations.TicksCountAndCharge := by
  unfold Obligations.TicksCountAndCharge
  intro s stays inRange c last next passed ticked
  have second : next = addSecond c := (addSecond_eq inRange).symm
  have ticks : ticked = s.ticked := by
    simp only [ticked, second]
    rfl
  clear_value ticked
  subst ticks
  clear_value next
  subst second
  refine ⟨?_, fun short => ?_, ?_, fun idle => ?_, fun m pending => ?_⟩
  · have kept : Kept s.ticked (allSessions.foldl State.sessionTick s.ticked) :=
      Kept.foldl (fun _ i k => k.sessionTick i) _ (Kept.refl _)
    exact ⟨_, exec_secondTick s, kept.clock, kept.deviceTime⟩
  · obtain ⟨others, sessions⟩ := foldl_sessionTick allSessions (s := s.ticked) (List.nodup_finRange 32)
      stays fun i _ x hx => by
        obtain ⟨chargeable, credited, elapsed, running, stopped⟩ := short i x hx
        exact ⟨chargeable, credited, elapsed, running, stopped⟩
    refine ⟨_, exec_secondTick s, others, fun i => (sessions i).trans ?_⟩
    rw [if_pos (show i ∈ allSessions from List.mem_finRange i)]
    refine congrArg (fun f => (s.session i).map f) (funext fun x => ?_)
    split
    · next gameMode => rw [sessionCounted, secondCounted_gameMode gameMode]; rfl
    · next running => rw [sessionCounted, secondCounted_running running]; rfl
    · next crediting => rw [sessionCounted, secondCounted_crediting crediting]; rfl
    · next stopped => rw [sessionCounted, secondCounted_stopped stopped]; rfl
  · intro i x hx running due limit pending noLine chargeable elapsed idle k charge top
    have tick := sessionTick_charges (s := s.ticked) stays hx running due limit pending noLine
      chargeable elapsed
    have others : ∀ (f : Meter → Meter) (y : Session) (j : SessionId), j ≠ i →
        ((s.ticked.modMeter x.lane f).setSession i (some y)).session j = s.session j :=
      fun f y j hj => (session_setSession ..).trans (if_neg hj)
    have one := foldl_sessionTick_one (s := s.ticked) stays idle tick
      (State.NoneLeaving.setSession (s := s.ticked.modMeter x.lane _) stays hx rfl) (others _ _)
    have run := exec_secondTick s
    rw [one] at run
    refine ⟨_, run, rfl, others _ _, ?_, fun l hl => ?_, ?_⟩
    · exact session_setSession_self ..
    · exact (lane_modMeter ..).trans (if_neg hl)
    · exact (meter_modMeter ..).trans (if_pos rfl)
  · show State.done s.takeBoundary = _
    rw [State.takeBoundary, idle]
    rfl
  · refine ⟨stagedPeriods s.tariff m.count, trimSlots s.tariff.slots m.count, ?_,
      getElem_trimSlots _ m.count, fun filled count =>
        ⟨length_stagedPeriods_filled filled count, getElem?_stagedPeriods filled⟩⟩
    show State.done s.takeBoundary = _
    rw [State.takeBoundary, pending]
    rfl

end

section
/-! SUPPORT. COLLECT_CHARGES (O31): a line handed to the Charge List, and the unlisted totals that are read
and cleared. -/

namespace Sys2Proof.Machine

open Sys2Proof

/-! ## A line handed to the list (R161) -/

section
variable {s : State}

/-- R161: a line that does not fill the list, or that fills one already told full, is appended. -/
theorem appendLine_fits (x : ChargeLine) (room : s.charges.lines.length < 255 ∨
    s.charges.lines.length = 255 ∧ s.charges.full = true) :
    s.appendLine x = { s with charges := { s.charges with lines := s.charges.lines ++ [x] } } := by
  rcases room with below | ⟨last, full⟩
  · exact appendLine_appends below x
  · have fits : s.charges.lines.length < 256 := by omega
    rw [State.appendLine, if_pos fits]
    exact if_neg fun told => Bool.false_ne_true (told.2.symm.trans full)

/-- R161: the line that fills the list is appended, and CHARGE_LIST_FULL is raised. -/
theorem appendLine_fills (x : ChargeLine) (last : s.charges.lines.length = 255)
    (clear : s.charges.full = false) :
    s.appendLine x = State.raise { s with charges := ⟨s.charges.lines ++ [x], true⟩ } 0
      (.chargeListFull 256 s.unlistedLanes) := by
  have fits : s.charges.lines.length < 256 := by omega
  have fills : s.charges.lines.length + 1 = 256 := by omega
  rw [State.appendLine, if_pos fits]
  exact if_pos ⟨fills, clear⟩

/-- R161: at 256 lines a line is folded into its lane's unlisted total. -/
theorem appendLine_folds (x : ChargeLine) (filled : 256 ≤ s.charges.lines.length) :
    s.appendLine x = s.modMeter x.lane fun m => { m with unlisted := foldLine x.amount m.unlisted } :=
  if_neg (Nat.not_lt.2 filled)

end

/-! ## The unlisted totals (R162) -/

theorem unlistedHolds_iff {u : Unlisted} : unlistedHolds u = true ↔ u.amount ≠ 0 ∨ u.lines ≠ 0 := by
  simp only [unlistedHolds, Bool.or_eq_true, bne_iff_ne]

theorem mem_unlistedLanes {s : State} {l : LaneId} : l ∈ s.unlistedLanes ↔
    (s.meter l).unlisted.amount ≠ 0 ∨ (s.meter l).unlisted.lines ≠ 0 := by
  rw [State.unlistedLanes, List.mem_filter, unlistedHolds_iff]
  exact and_iff_right (List.mem_finRange l)

theorem mem_unlistedTotals {s : State} {l : LaneId} {u : Unlisted} : (l, u) ∈ s.unlistedTotals ↔
    u = (s.meter l).unlisted ∧ (u.amount ≠ 0 ∨ u.lines ≠ 0) := by
  rw [State.unlistedTotals, List.mem_map]
  constructor
  · rintro ⟨k, holds, same⟩
    cases same
    exact ⟨rfl, mem_unlistedLanes.1 holds⟩
  · rintro ⟨rfl, holds⟩
    exact ⟨l, mem_unlistedLanes.2 holds, rfl⟩

/-- R162: totals cleared one after another change the lanes alone. -/
theorem foldl_clearUnlisted_others (ls : List LaneId) (s : State) :
    ls.foldl State.clearUnlisted s =
      { s with lanes := (ls.foldl State.clearUnlisted s).lanes } := by
  induction ls generalizing s with
  | nil => rfl
  | cons l ls ih =>
    rw [List.foldl_cons, ih]
    rfl

/-- R162: of the lanes named the unlisted totals become 0, and the rest of each lane stands. -/
theorem lane_foldl_clearUnlisted (ls : List LaneId) (s : State) (k : LaneId) :
    (ls.foldl State.clearUnlisted s).lane k =
      { s.lane k with meter :=
        { s.meter k with unlisted := if k ∈ ls then ⟨0, false, 0⟩ else (s.meter k).unlisted } } := by
  induction ls generalizing s with
  | nil => rfl
  | cons l ls ih =>
    have cleared : (s.clearUnlisted l).lane k = { s.lane k with meter :=
        { s.meter k with unlisted := if k = l then ⟨0, false, 0⟩ else (s.meter k).unlisted } } := by
      rw [State.clearUnlisted, lane_modMeter]
      split <;> rfl
    rw [List.foldl_cons, ih, State.meter, cleared]
    by_cases here : k = l
    · simp [here]
    · simp [here]

/-! ## The request (R162) -/

/-- R162: the full flag is cleared where a line is removed. -/
theorem takeLines_eq (n : Nat) (c : ChargeList) :
    takeLines n c = ⟨c.lines.drop n, if n = 0 ∨ c.lines = [] then c.full else false⟩ := by
  have none_removed : min n c.lines.length = 0 ↔ n = 0 ∨ c.lines = [] := by
    rw [Nat.min_eq_zero_iff, List.length_eq_zero_iff]
  simp only [takeLines, none_removed]

section
variable {s : State} {n : Nat}

/-- R162: without the unlisted option the oldest lines leave the list. -/
theorem reqCollectCharges_lines (fits : n ≤ 16) : reqCollectCharges n false s =
    ({ s with charges := takeLines n s.charges },
      ⟨.ok, .charges (s.charges.lines.take n) [] (s.charges.lines.drop n).length⟩) :=
  if_neg (Nat.not_lt.2 fits)

/-- R162: with the unlisted option the totals that are not 0 become 0 too. -/
theorem reqCollectCharges_totals (fits : n ≤ 16) : reqCollectCharges n true s =
    ({ s with
        lanes := (s.unlistedLanes.foldl State.clearUnlisted
          { s with charges := takeLines n s.charges }).lanes
        charges := takeLines n s.charges },
      ⟨.ok, .charges (s.charges.lines.take n) s.unlistedTotals (s.charges.lines.drop n).length⟩) :=
  (if_neg (Nat.not_lt.2 fits)).trans (congrArg (·, _) (foldl_clearUnlisted_others ..))

end

end Sys2Proof.Machine

open Sys2Proof Sys2Proof.Machine

/-- Settles O31: the three cases of a line handed over, then what the request takes and clears. -/
theorem collectChargesTakesOldest : Obligations.CollectChargesTakesOldest := by
  unfold Obligations.CollectChargesTakesOldest
  constructor
  · intro s x longer
    exact ⟨appendLine_fits x, fun last clear =>
      ⟨s.unlistedLanes, appendLine_fills x last clear, fun l => mem_unlistedLanes⟩, appendLine_folds x⟩
  intro s tag n unlisted trunk
  refine ⟨fun above => exec_of_act rfl trunk (if_pos above) rfl, fun fits => ?_⟩
  cases unlisted with
  | false =>
    refine ⟨s.lanes, [], ?_, fun _ => ⟨rfl, rfl⟩, fun h => absurd h Bool.false_ne_true⟩
    rw [← List.length_drop, ← takeLines_eq]
    exact exec_of_act rfl trunk (reqCollectCharges_lines fits) rfl
  | true =>
    let lists := { s with charges := takeLines n s.charges }
    refine ⟨(s.unlistedLanes.foldl State.clearUnlisted lists).lanes, s.unlistedTotals, ?_,
      fun h => absurd h.symm Bool.false_ne_true, fun _ => ⟨fun l u => mem_unlistedTotals, fun l => ?_⟩⟩
    · rw [← List.length_drop, ← takeLines_eq]
      exact exec_of_act rfl trunk (reqCollectCharges_totals fits) rfl
    · have lane := lane_foldl_clearUnlisted s.unlistedLanes lists l
      simp only [mem_unlistedLanes] at lane
      exact lane

end

section
/-! SUPPORT. The limit tests (O41, R156): what the warning test makes of the record, the LIMIT_REACHED that
stays pending, and the expiry of R8 that a MINUTES limit brings about. -/

namespace Sys2Proof.Machine

open Sys2Proof

/-! ## The limit and the count charged toward it -/

section
variable {s : State} {i : SessionId} {x : Session} {value charged : Nat}

theorem limitCount_eq_some (h : x.terms.limit = .games value ∧ charged = x.billing.gamesCharged ∨
    x.terms.limit = .minutes value ∧ charged = x.billing.chargedMinutes) :
    limitCount x = some (value, charged) := by
  rcases h with ⟨limit, rfl⟩ | ⟨limit, rfl⟩ <;> simp only [limitCount, limit]

theorem remainingCount_eq (count : limitCount x = some (value, charged)) :
    remainingCount x = value - charged := by
  rw [remainingCount, count]
  rfl

/-! ## The warning test -/

/-- R156: a session not yet warned, with a remaining count from 1 to its threshold, is warned. -/
theorem warningTest_warns (hx : s.session i = some x) (count : limitCount x = some (value, charged))
    (below : charged < value) (fresh : x.billing.warned = false)
    (near : value - charged ≤ x.terms.warning) :
    s.warningTest i = (s.setSession i (some { x with billing := { x.billing with warned := true } })).raise
      (laneSource x.lane) (.limitWarning (limitReport i x value charged false)) := by
  have due : x.billing.warned = false ∧ 0 < x.terms.warning ∧ 0 < value - charged ∧
      value - charged ≤ x.terms.warning := ⟨fresh, by omega, by omega, near⟩
  simp only [State.warningTest, hx, count]
  rw [if_pos due, modSession_eq hx]

/-- R156: a session already warned, at its limit, or farther from it than the threshold, is not. -/
theorem warningTest_stays (hx : s.session i = some x) (count : limitCount x = some (value, charged))
    (h : x.billing.warned = true ∨ value ≤ charged ∨ x.terms.warning < value - charged) :
    s.warningTest i = s := by
  simp only [State.warningTest, hx, count]
  refine if_neg fun due => ?_
  obtain ⟨fresh, -, left, near⟩ := due
  rcases h with warned | reached | far
  · exact Bool.false_ne_true (fresh.symm.trans warned)
  · omega
  · omega

/-- R156: the warning test changes warned and the notices alone, and not warned where the remaining count is
above the threshold. -/
theorem warningTest_marks (hx : s.session i = some x) (count : limitCount x = some (value, charged)) :
    ∃ w, s.warningTest i =
        { s.setSession i (some { x with billing := { x.billing with warned := w } }) with
          notices := (s.warningTest i).notices } ∧
      (x.terms.warning < value - charged → w = x.billing.warned) := by
  have same : s.setSession i (some x) = s := setSession_session hx
  by_cases far : x.terms.warning < value - charged
  · refine ⟨x.billing.warned, ?_, fun _ => rfl⟩
    rw [warningTest_stays hx count (.inr (.inr far))]
    exact same.symm
  · rcases warningTest_cases hx with e | ⟨n, p, e⟩ <;> rw [e]
    · exact ⟨x.billing.warned, same.symm, fun h => absurd h far⟩
    · exact ⟨true, rfl, fun h => absurd h far⟩

/-- What is pending stays pending after a warning test. -/
theorem keys_warningTest (hx : s.session i = some x) {k : Nat × NoticeKind}
    (h : k ∈ s.notices.map noticeKey) : k ∈ (s.warningTest i).notices.map noticeKey := by
  rcases warningTest_cases hx with e | ⟨n, p, e⟩ <;> rw [e]
  · exact h
  · exact mem_keys_addNotice (.inl h)

/-! ## The limit test -/

/-- R156: above a remaining count of 0 the limit test finds nothing. -/
theorem limitTest_below (hx : s.session i = some x) (count : limitCount x = some (value, charged))
    (below : charged < value) : s.limitTest i = s := by
  simp only [State.limitTest, hx, count]
  exact if_neg (by omega)

/-- R156: a GAMES limit reached is told. -/
theorem limitTest_games (hx : s.session i = some x) (limit : x.terms.limit = .games value)
    (count : limitCount x = some (value, charged)) (reached : value ≤ charged) :
    s.limitTest i =
      s.raise (laneSource x.lane) (.limitReached (limitReport i x value charged true)) := by
  simp only [State.limitTest, hx, count, limit]
  exact if_pos (by omega)

/-- R156: the record a MINUTES limit reached stops. -/
def timeStopped (x : Session) : Session :=
  { x with billing := { x.billing with state := .stopped, secondsInMinute := 0 } }

/-- R156: a MINUTES limit reached is told, stops the record and is reported by R8. -/
theorem limitTest_minutes (hx : s.session i = some x) (limit : x.terms.limit = .minutes value)
    (count : limitCount x = some (value, charged)) (reached : value ≤ charged) :
    s.limitTest i = ((s.raise (laneSource x.lane)
      (.limitReached (limitReport i x value charged true))).setSession i
        (some (timeStopped x))).limitReached i := by
  let told := s.raise (laneSource x.lane) (.limitReached (limitReport i x value charged true))
  have stopped := modSession_eq (show told.session i = some x from hx) timeStopped
  simp only [State.limitTest, hx, count, limit]
  rw [if_pos (by omega)]
  exact congrArg (fun u => State.limitReached u i) stopped

end

/-! ## LIMIT_REACHED stays pending (R178) -/

section
variable {m : Notice} {u : State}

/-- A raise leaves the notices of other sources and kinds. -/
theorem mem_addNotice_of_key {n : Nat} {p : NoticePayload} {w : Nat} {ns : List Notice} (h : m ∈ ns)
    (other : noticeKey m ≠ (n, payloadKind p)) : m ∈ addNotice n p w ns := by
  induction ns with
  | nil => cases h
  | cons a ns ih =>
    simp only [addNotice]
    rcases List.mem_cons.1 h with rfl | h
    · rw [if_neg (by simpa [sameNotice, noticeKey] using other)]
      exact List.mem_cons_self ..
    · split
      · exact List.mem_cons_of_mem _ h
      · exact List.mem_cons_of_mem _ (ih h)

theorem mem_raise_of_kind {n : Nat} {p : NoticePayload} (other : payloadKind m.payload ≠ payloadKind p)
    (h : m ∈ u.notices) : m ∈ (u.raise n p).notices :=
  mem_addNotice_of_key h fun same => other (congrArg Prod.snd same)

theorem notices_cancelMove (s : State) (l : LaneId) : (s.cancelMove l).notices = s.notices := by
  unfold State.cancelMove
  split
  · rfl
  · exact notices_armingCheck ..

variable (kind : payloadKind m.payload = .limitReached)
include kind

theorem reached_mem_raiseSessionState (i : SessionId) (h : m ∈ u.notices) :
    m ∈ (u.raiseSessionState i none).notices := by
  unfold State.raiseSessionState
  split
  · exact h
  · exact mem_raise_of_kind (by rw [kind]; exact nofun) h

theorem reached_mem_cancelPark (l : LaneId) (h : m ∈ u.notices) : m ∈ (u.cancelPark l).notices := by
  rcases cancelPark_cases u l with e | e <;> rw [e]
  · exact h
  · exact mem_raise_of_kind (u := u.modSupervisor l unparked) (by rw [kind]; exact nofun) h

theorem reached_mem_becomeClosing (i : SessionId) (h : m ∈ u.notices) :
    m ∈ (u.becomeClosing i).notices := by
  unfold State.becomeClosing
  split
  · exact h
  · rw [notices_armingCheck]
    refine reached_mem_raiseSessionState kind i ?_
    split
    · rw [notices_cancelMove]; exact h
    · exact h

theorem reached_mem_becomeExpired (i : SessionId) (h : m ∈ u.notices) :
    m ∈ (u.becomeExpired i).notices := by
  unfold State.becomeExpired
  split
  · exact h
  · next x _ =>
    have told : ∀ v : State, m ∈ v.notices →
        m ∈ ((v.raiseSessionState i none).armingCheck x.lane).notices := fun v hv => by
      rw [notices_armingCheck]
      exact reached_mem_raiseSessionState kind i hv
    split
    · exact reached_mem_becomeClosing kind i (told _ h)
    · exact told _ h

theorem reached_mem_expireOpen (i : SessionId) (x : Session) (h : m ∈ u.notices) :
    m ∈ (u.expireOpen i x).notices := by
  unfold State.expireOpen
  split
  · exact reached_mem_becomeExpired kind i h
  · exact reached_mem_raiseSessionState kind i h

theorem reached_mem_limitReached (i : SessionId) (h : m ∈ u.notices) :
    m ∈ (u.limitReached i).notices := by
  unfold State.limitReached
  split
  · exact h
  · split
    · exact reached_mem_expireOpen kind i _ h
    · refine reached_mem_expireOpen kind i _ ?_
      rw [notices_cancelMove]
      exact reached_mem_cancelPark kind _ h
    all_goals exact h

theorem reached_mem_warningTest (i : SessionId) (h : m ∈ u.notices) :
    m ∈ (u.warningTest i).notices := by
  cases hx : u.session i with
  | none => simpa only [State.warningTest, hx] using h
  | some x =>
    simp only [State.warningTest, hx]
    split
    · exact h
    · split
      · exact mem_raise_of_kind (by rw [kind]; exact nofun) h
      · exact h

end

/-! ## A record replaced and told (R8, R19) -/

/-- Session `i` has the record `y`; beside it the equipment of the pair of lane `l` may have been decided,
but not the machine of the lane. -/
structure RecordTold (s : State) (i : SessionId) (l : LaneId) (y : Session) (t : State) : Prop where
  onPair : OnPair (pairOf l) (s.setSession i (some y)) t
  supervisor : t.supervisor l = s.supervisor l

section
variable {s t u : State} {i : SessionId} {l : LaneId} {x y z : Session}

theorem RecordTold.session (h : RecordTold s i l y t) : t.session i = some y :=
  (h.onPair.session i).trans (session_setSession_self ..)

/-- A second record takes the place of the first. -/
theorem RecordTold.trans (h : RecordTold s i l y t) (k : RecordTold t i l z u) :
    RecordTold s i l z u where
  onPair := by
    have replaced := h.onPair.setSession_congr i (some z)
    rw [setSession_setSession] at replaced
    exact replaced.trans k.onPair
  supervisor := k.supervisor.trans h.supervisor

theorem supervisor_raiseSessionState (s : State) (i : SessionId) (k : Option LaneId) (l : LaneId) :
    (s.raiseSessionState i k).supervisor l = s.supervisor l := by
  simp only [State.supervisor, State.lane, (raiseSessionState_equipment s i k).1]

theorem recordTold_raised (s : State) (i : SessionId) (l : LaneId) (y : Session) :
    RecordTold s i l y ((s.setSession i (some y)).raiseSessionState i none) where
  onPair := (OnPair.refl _ _).raiseSessionState i none
  supervisor := supervisor_raiseSessionState ..

/-- SESSION_STATE raised and the lane armed afresh. -/
theorem recordTold_armed (s : State) (i : SessionId) (l : LaneId) (y : Session) :
    RecordTold s i l y (((s.setSession i (some y)).raiseSessionState i none).armingCheck l) where
  onPair := (recordTold_raised s i l y).onPair.armingCheck l rfl
  supervisor := (supervisor_armingCheck ..).trans (supervisor_raiseSessionState ..)

/-- R24: with no move pending there is none to cancel. -/
theorem cancelMove_none (h : (s.entry l).movePending = none) : s.cancelMove l = s := by
  simp only [State.cancelMove, h]

/-- R19: a session with no move pending becomes CLOSING. -/
theorem becomeClosing_unmoved (hx : s.session i = some x)
    (unmoved : (s.entry x.lane).movePending = none) :
    RecordTold s i x.lane (closingOf x) (s.becomeClosing i) := by
  let v := s.setSession i (some (closingOf x))
  have stays : v.cancelMove x.lane = v := cancelMove_none unmoved
  have become : s.becomeClosing i = (v.raiseSessionState i none).armingCheck x.lane := by
    simp only [State.becomeClosing, hx]
    show State.armingCheck (State.raiseSessionState
      (if v.holdsLane i x.lane = true then v.cancelMove x.lane else v) i none) x.lane = _
    rw [stays, ite_self]
  rw [become]
  exact recordTold_armed ..

/-! ## Expiry (R8, R157) -/

/-- R8, R157: the record of a session that expires between frames: CLOSING at once where there is no expiry
wait. -/
def expiredNow (x : Session) : Session :=
  if x.billing.expiryWait = 0 then closingOf x
  else { x with
    state := .expired, expiryDue := false
    billing := { x.billing with expiryCount := some (60 * x.billing.expiryWait) } }

/-- R8, R157: between frames the session becomes EXPIRED, or CLOSING where there is no expiry wait. -/
theorem expiredNow_cases (x : Session) : let y := expiredNow x
    y.expiryDue = false ∧
      (0 < x.billing.expiryWait →
        y.state = .expired ∧ y.billing.expiryCount = some (60 * x.billing.expiryWait)) ∧
      (x.billing.expiryWait = 0 → y.state = .closing ∧ y.billing.expiryCount = none) := by
  by_cases noWait : x.billing.expiryWait = 0
  · rw [expiredNow, if_pos noWait]
    exact ⟨rfl, fun wait => absurd noWait (Nat.pos_iff_ne_zero.1 wait), fun _ => ⟨rfl, rfl⟩⟩
  · rw [expiredNow, if_neg noWait]
    exact ⟨rfl, fun _ => ⟨rfl, rfl⟩, fun none_ => absurd none_ noWait⟩

/-- R8: the record of an OPEN session that expires, between frames or with its frame begun. -/
def expiryRecord (between : Bool) (x : Session) : Session :=
  if between then expiredNow x else { x with expiryDue := true }

/-- R8: expiry changes the state, expiry due and the expiry count. -/
theorem expiryRecord_eq (between : Bool) (x : Session) :
    let y := expiryRecord between x
    y = { x with
      state := y.state, expiryDue := y.expiryDue
      billing := { x.billing with expiryCount := y.billing.expiryCount } } := by
  cases between with
  | false => rfl
  | true =>
    simp only [expiryRecord, expiredNow, if_true]
    split <;> rfl

theorem becomeExpired_expires (hx : s.session i = some x)
    (unmoved : (s.entry x.lane).movePending = none) :
    RecordTold s i x.lane (expiredNow x) (s.becomeExpired i) := by
  by_cases noWait : x.billing.expiryWait = 0
  · let y : Session := { x with
      state := .expired, expiryDue := false, billing := { x.billing with expiryCount := none } }
    have expired := recordTold_armed s i x.lane y
    let v := ((s.setSession i (some y)).raiseSessionState i none).armingCheck x.lane
    have closes := becomeClosing_unmoved (s := v) expired.session (by
      rw [expired.onPair.entry]
      exact unmoved)
    have become : s.becomeExpired i = v.becomeClosing i := by
      simp only [State.becomeExpired, hx, if_pos noWait]
      rfl
    rw [become, expiredNow, if_pos noWait]
    exact expired.trans closes
  · simp only [State.becomeExpired, hx, if_neg noWait, expiredNow]
    exact recordTold_armed ..

/-- R8: an OPEN session with no move pending expires. -/
theorem expireOpen_expires (hx : s.session i = some x)
    (unmoved : (s.entry x.lane).movePending = none) :
    RecordTold s i x.lane (expiryRecord (frameNotBegun x && !s.sessionInFlight i x) x)
      (s.expireOpen i x) := by
  unfold State.expireOpen
  split
  · next between =>
    have yes : (frameNotBegun x && !s.sessionInFlight i x) = true := by simpa using between
    rw [yes]
    exact becomeExpired_expires hx unmoved
  · next begun =>
    have no : (frameNotBegun x && !s.sessionInFlight i x) = false := by
      rw [Bool.eq_false_iff]
      simpa using begun
    rw [no, modSession_eq hx]
    exact recordTold_raised ..

/-! ## A MINUTES limit reached (R8, R156) -/

theorem tracker_cancelPark (s : State) (l k : LaneId) : (s.cancelPark l).tracker k = s.tracker k := by
  rcases cancelPark_cases s l with e | e <;> rw [e]
  · exact tracker_modSupervisor ..
  · exact tracker_modSupervisor ..

theorem supervisor_cancelMove (s : State) (l k : LaneId) :
    (s.cancelMove l).supervisor k = s.supervisor k := by
  unfold State.cancelMove
  split
  · rfl
  · rw [supervisor_armingCheck, supervisor_modEntry]

theorem inFlight_cancelMove (s : State) (l k : LaneId) :
    inFlight ((s.cancelMove l).tracker k).play = inFlight (s.tracker k).play := by
  unfold State.cancelMove
  split
  · rfl
  · rw [inFlight_armingCheck, tracker_modEntry]

/-- R8: a limit reached by an OPEN session with no move pending, or by a MOVING one, whose move is cancelled
and whose machine is not parked by the leaving. -/
theorem limitReached_expires (hx : s.session i = some x)
    (h : x.state = .opened ∧ (s.entry x.lane).movePending = none ∨ x.state = .moving) :
    OnPair (pairOf x.lane)
      ((s.setSession i (some (expiryRecord (frameNotBegun x && !s.sessionInFlight i x)
        { x with state := .opened }))).modEntry x.lane fun e => { e with movePending := none })
      (s.limitReached i) ∧
    (x.state = .moving → (s.limitReached i).supervisor x.lane = unparked (s.supervisor x.lane)) := by
  let y : Session := { x with state := .opened }
  rcases h with ⟨opened, unmoved⟩ | moving
  · have same : y = x := by
      show { x with state := .opened } = x
      rw [← opened]
    have reached : s.limitReached i = s.expireOpen i x := by simp only [State.limitReached, hx, opened]
    refine ⟨?_, fun moving => nomatch opened.symm.trans moving⟩
    rw [reached, modEntry_setSession, modEntry_entry (by rw [← unmoved])]
    change OnPair _ (s.setSession i (some (expiryRecord _ y))) _
    rw [same]
    exact (expireOpen_expires hx unmoved).onPair
  · let u := (((s.setSession i (some y)).cancelPark x.lane).cancelMove x.lane)
    have reached : s.limitReached i = u.expireOpen i y := by
      simp only [State.limitReached, hx, moving, modSession_eq hx]
      rfl
    have before : OnPair (pairOf x.lane)
        ((s.setSession i (some y)).modEntry x.lane fun e => { e with movePending := none }) u :=
      (((OnPair.refl _ _).cancelPark x.lane rfl).modEntry_congr x.lane _).trans
        (cancelMove_cancels _ x.lane).1
    have entry : u.entry x.lane = { s.entry x.lane with movePending := none } :=
      (before.entry x.lane).trans ((entry_modEntry ..).trans (if_pos rfl))
    have flight : u.sessionInFlight i y = s.sessionInFlight i x := by
      rw [State.sessionInFlight, State.sessionInFlight, State.holdsLane, State.holdsLane,
        show y.lane = x.lane from rfl, entry, inFlight_cancelMove, tracker_cancelPark]
      rfl
    have expires := expireOpen_expires (s := u)
      ((before.session i).trans (session_setSession_self ..)) (congrArg LaneEntry.movePending entry)
    rw [flight] at expires
    refine ⟨?_, fun _ => ?_⟩
    · have replaced := before.setSession_congr i
        (some (expiryRecord (frameNotBegun y && !s.sessionInFlight i x) y))
      rw [← modEntry_setSession, setSession_setSession] at replaced
      rw [reached]
      exact replaced.trans expires.onPair
    · rw [reached]
      exact expires.supervisor.trans ((supervisor_cancelMove ..).trans (supervisor_cancelPark ..))

end

/-! ## The two tests in order (R156) -/

section
variable {s : State} {i : SessionId} {x : Session} {value charged : Nat}

/-- R156: at a remaining count of 0 LIMIT_REACHED is pending after the tests. -/
theorem limitTests_told (hx : s.session i = some x)
    (kind : x.terms.limit = .games value ∧ charged = x.billing.gamesCharged ∨
      x.terms.limit = .minutes value ∧ charged = x.billing.chargedMinutes)
    (reached : value ≤ charged) : ∃ n ∈ (s.limitTests i).notices, n.source = laneSource x.lane ∧
      n.payload = .limitReached (limitReport i x value charged true) := by
  let told := s.raise (laneSource x.lane) (.limitReached (limitReport i x value charged true))
  obtain ⟨n, hn, source, payload⟩ : ∃ n ∈ told.notices, n.source = laneSource x.lane ∧
      n.payload = .limitReached (limitReport i x value charged true) := exists_mem_addNotice ..
  have limitReached : payloadKind n.payload = .limitReached := by rw [payload]; rfl
  have count := limitCount_eq_some kind
  refine ⟨n, reached_mem_warningTest limitReached i ?_, source, payload⟩
  rcases kind with ⟨limit, -⟩ | ⟨limit, -⟩
  · rw [limitTest_games hx limit count reached]
    exact hn
  · rw [limitTest_minutes hx limit count reached]
    exact reached_mem_limitReached limitReached i hn

/-- R156: a GAMES limit reached changes the notices alone. -/
theorem limitTests_games (hx : s.session i = some x) (limit : x.terms.limit = .games value)
    (count : limitCount x = some (value, charged)) (reached : value ≤ charged) :
    s.limitTests i = { s with notices := (s.limitTests i).notices } := by
  have tests : s.limitTests i = s.limitTest i := by
    rw [State.limitTests, limitTest_games hx limit count reached]
    exact warningTest_stays (x := x) hx count (.inr (.inl reached))
  rw [tests, limitTest_games hx limit count reached]
  rfl

/-- R156, R8: the record of a session whose MINUTES limit is reached. -/
def timeUpRecord (between : Bool) (x : Session) : Session :=
  expiryRecord between (timeStopped { x with state := .opened })

/-- R8: what taking a park back leaves of a need. -/
theorem map_withoutPark (o : Option Need) :
    o.map withoutPark = if o = some .fullThenPark then some .full else o := by
  rcases o with _ | _ | _ | _ <;> rfl

/-- R156, R8: a MINUTES limit reached stops the record and expires the session. -/
theorem limitTests_minutes (hx : s.session i = some x) (limit : x.terms.limit = .minutes value)
    (count : limitCount x = some (value, charged)) (reached : value ≤ charged)
    (h : x.state = .opened ∧ (s.entry x.lane).movePending = none ∨ x.state = .moving) :
    OnPair (pairOf x.lane)
      ((s.setSession i (some (timeUpRecord (frameNotBegun x && !s.sessionInFlight i x) x))).modEntry
        x.lane fun e => { e with movePending := none })
      (s.limitTests i) ∧
    (x.state = .moving → (s.limitTests i).supervisor x.lane = unparked (s.supervisor x.lane)) := by
  let y := timeUpRecord (frameNotBegun x && !s.sessionInFlight i x) x
  let u := (s.raise (laneSource x.lane)
    (.limitReached (limitReport i x value charged true))).setSession i (some (timeStopped x))
  have raised : OnPair (pairOf x.lane) (s.setSession i (some (timeStopped x))) u :=
    ((OnPair.refl _ s).raise _ _).setSession_congr i _
  obtain ⟨expires, unparks⟩ := limitReached_expires (s := u) (x := timeStopped x)
    (session_setSession_self ..) h
  have onPair : OnPair (pairOf x.lane)
      ((s.setSession i (some y)).modEntry x.lane fun e => { e with movePending := none })
      (u.limitReached i) := by
    have replaced := (raised.setSession_congr i (some y)).modEntry_congr x.lane
      fun e => { e with movePending := none }
    rw [setSession_setSession] at replaced
    exact replaced.trans expires
  have session : (u.limitReached i).session i = some y :=
    (onPair.session i).trans (session_setSession_self ..)
  have stays : limitCount y = some (value, charged) := by
    rw [← count]
    show limitCount (expiryRecord _ _) = _
    rw [expiryRecord_eq]
    rfl
  have tests : s.limitTests i = u.limitReached i := by
    rw [State.limitTests, limitTest_minutes hx limit count reached]
    exact warningTest_stays session stays (.inr (.inl reached))
  rw [tests]
  exact ⟨onPair, unparks⟩

end

/-! ## EXTEND_LIMIT (R158) -/

/-- R158: the record with its new limit, warned no longer where that limit is far. -/
def withLimit (k : Limit) (x : Session) : Session :=
  clearWarned { x with terms := { x.terms with limit := k } }

/-- R158: the record an extension makes of a session. -/
def extendedRecord (credit : Bool) (k : Limit) (x : Session) : Session :=
  match k with
  | .none => withLimit k x
  | .games _ =>
    if x.state = .exhausted then (startGame { withLimit k x with state := .opened }).1
    else withLimit k x
  | .minutes _ =>
    if x.billing.state = .stopped then resumeAccrual credit (withLimit k x) else withLimit k x

/-- R40: a game that starts leaves the terms, the billing record and the state of its session. -/
theorem startGame_leaves (x : Session) : (startGame x).1.terms = x.terms ∧
    (startGame x).1.billing = x.billing ∧ (startGame x).1.state = x.state := by
  obtain ⟨bs, e⟩ := findFrameOne_eq (memberSlots x)
    { x with takingPart := memberSlots x, bowlers := x.bowlers.map (joinGame x), frame := 1 }
  unfold startGame
  dsimp only
  split <;> next found =>
    rw [found] at e
    cases e
    exact ⟨rfl, rfl, rfl⟩

/-- R158: an extension gives the record its new limit, and of the billing record it changes the state and
the expiry count at most. -/
theorem extendedRecord_leaves (credit : Bool) (k : Limit) (x : Session) :
    let y := extendedRecord credit k x
    y.terms = { x.terms with limit := k } ∧ ∃ b count,
      y.billing = { (withLimit k x).billing with state := b, expiryCount := count } := by
  unfold extendedRecord
  split
  · exact ⟨rfl, _, _, rfl⟩
  · split
    · next m _ =>
      obtain ⟨terms, billing, -⟩ := startGame_leaves { withLimit (.games m) x with state := .opened }
      exact ⟨terms, _, _, billing⟩
    · exact ⟨rfl, _, _, rfl⟩
  · split <;> exact ⟨rfl, _, _, rfl⟩

theorem limitCount_extendedRecord (credit : Bool) (k : Limit) (x : Session) :
    limitCount (extendedRecord credit k x) =
      limitCount { x with terms := { x.terms with limit := k } } := by
  obtain ⟨terms, b, count, billing⟩ := extendedRecord_leaves credit k x
  simp only [limitCount, terms, billing]
  rfl

section
variable {s : State} {i : SessionId} {x : Session} {n value old top charged : Nat} {k : Limit}

theorem reqExtendLimit_refused (run : s.device = .run) (hi : s.sessionInUse? n = some (i, x))
    (closing : x.state ≠ .closing) (limited : x.terms.limit ≠ .none)
    (low : raiseLimit x.terms.limit value = none) :
    reqExtendLimit n value s = (s, refuse .range) := by
  simp only [reqExtendLimit, run, hi, limited, closing, low, ne_eq, not_true_eq_false, or_self,
    if_false]

theorem reqExtendLimit_accepted (run : s.device = .run) (hi : s.sessionInUse? n = some (i, x))
    (closing : x.state ≠ .closing) (limited : x.terms.limit ≠ .none)
    (higher : raiseLimit x.terms.limit value = some k) :
    reqExtendLimit n value s = (s.extend i x k,
      ⟨.ok, .limit k (remainingCount { x with terms := { x.terms with limit := k } })⟩) := by
  simp only [reqExtendLimit, run, hi, limited, closing, higher, ne_eq, not_true_eq_false, or_self,
    if_false]

/-- R158: an accepted extension that leaves a remaining count of `left`: the record with its warning, the
equipment decided beside it, and what stays pending. -/
structure LimitExtended (s : State) (i : SessionId) (x : Session) (k : Limit) (left : Nat) (w : Bool)
    (y : Session) (t : State) : Prop where
  record : y = { extendedRecord (s.credit x.lane) k x with
    billing := { (extendedRecord (s.credit x.lane) k x).billing with warned := w } }
  onPair : OnPair (pairOf x.lane) (s.setSession i (some y)) t
  tested : t = { ((s.setSession i (some (withLimit k x))).extendEffects i x).setSession i (some y) with
    notices := t.notices }
  unwarned : x.terms.warning < left → w = false
  keys : ∀ q ∈ ((s.setSession i (some (withLimit k x))).extendEffects i x).notices.map noticeKey,
    q ∈ t.notices.map noticeKey

/-- R158: a STOPPED record under a MINUTES limit resumes, and SESSION_STATE is raised. -/
theorem extendEffects_stopped (limit : x.terms.limit = .minutes old) (stopped : x.billing.state = .stopped) :
    (laneSource x.lane, .sessionState) ∈
      ((s.setSession i (some (withLimit k x))).extendEffects i x).notices.map noticeKey := by
  let u := s.setSession i (some (withLimit k x))
  have hu : u.session i = some (withLimit k x) := session_setSession_self ..
  simp only [State.extendEffects, limit, if_pos stopped, State.extendStopped]
  rw [notices_armingCheck, modSession_eq hu, State.raiseSessionState, session_setSession_self]
  exact mem_keys_addNotice (.inr rfl)

variable (kind : x.terms.limit = .games old ∧ k = .games value ∧ top = 255 ∨
  x.terms.limit = .minutes old ∧ k = .minutes value ∧ top = 1440)
include kind

/-- R158: a value that is not above the present one, or above the top of its kind, raises no limit. -/
theorem raiseLimit_eq :
    raiseLimit x.terms.limit value = if old < value ∧ value ≤ top then some k else none := by
  rcases kind with ⟨limit, rfl, rfl⟩ | ⟨limit, rfl, rfl⟩ <;> rw [limit] <;> rfl

/-- R158: what the extension means for a session of each kind, before the warning test. -/
theorem extendEffects_extends :
    OnPair (pairOf x.lane) (s.setSession i (some (extendedRecord (s.credit x.lane) k x)))
      ((s.setSession i (some (withLimit k x))).extendEffects i x) := by
  let u := s.setSession i (some (withLimit k x))
  have hu : u.session i = some (withLimit k x) := session_setSession_self ..
  unfold State.extendEffects extendedRecord
  rcases kind with ⟨limit, rfl, -⟩ | ⟨limit, rfl, -⟩ <;> rw [limit] <;> dsimp only <;> split
  · rw [State.extendExhausted, modSession_eq hu, setSession_setSession]
    exact (recordTold_raised ..).onPair.holderArrives x.lane rfl
  · exact .refl _ _
  · rw [State.extendStopped, modSession_eq hu, setSession_setSession]
    exact (recordTold_armed ..).onPair
  · exact .refl _ _

/-- R158: any other session takes the new limit alone. -/
theorem extend_plain (exhausted : x.state = .exhausted → k ≠ .games value)
    (stopped : x.billing.state = .stopped → k ≠ .minutes value) (credit : Bool) :
    extendedRecord credit k x = withLimit k x ∧ ∀ u : State, u.extendEffects i x = u := by
  rcases kind with ⟨limit, rfl, -⟩ | ⟨limit, rfl, -⟩
  · have other : ¬ x.state = .exhausted := fun h => exhausted h rfl
    exact ⟨if_neg other, fun u => by simp only [State.extendEffects, limit, if_neg other]⟩
  · have other : ¬ x.billing.state = .stopped := fun h => stopped h rfl
    exact ⟨if_neg other, fun u => by simp only [State.extendEffects, limit, if_neg other]⟩

theorem extend_extends (hx : s.session i = some x)
    (count : limitCount { x with terms := { x.terms with limit := k } } = some (value, charged)) :
    ∃ w y, LimitExtended s i x k (value - charged) w y (s.extend i x k) := by
  let x1 := extendedRecord (s.credit x.lane) k x
  let u := (s.setSession i (some (withLimit k x))).extendEffects i x
  obtain ⟨terms, b, c, billing⟩ := extendedRecord_leaves (s.credit x.lane) k x
  have effects : OnPair (pairOf x.lane) (s.setSession i (some x1)) u := extendEffects_extends kind
  have hu : u.session i = some x1 := (effects.session i).trans (session_setSession_self ..)
  have extended : s.extend i x k = u.warningTest i :=
    congrArg (fun v => State.warningTest (State.extendEffects v i x) i) (modSession_eq hx _)
  obtain ⟨w, tested, unwarned⟩ := warningTest_marks hu
    ((limitCount_extendedRecord (s.credit x.lane) k x).trans count)
  rw [extended]
  refine ⟨w, _, rfl, ?_, tested, fun far => ?_, fun q hq => keys_warningTest hu hq⟩
  · have replaced := effects.setSession_congr i
      (some { x1 with billing := { x1.billing with warned := w } })
    rw [setSession_setSession] at replaced
    exact replaced.trans (.of_notices tested)
  · have none_left : decide (value - charged ≤ x.terms.warning) = false := decide_eq_false (by omega)
    have cleared : x1.billing.warned = (withLimit k x).billing.warned :=
      (congrArg BillingRecord.warned billing :)
    rw [unwarned (by rw [terms]; exact far), cleared]
    show (x.billing.warned && decide (remainingCount { x with terms := _ } ≤ x.terms.warning)) = false
    rw [remainingCount_eq count, none_left, Bool.and_false]

end

end Sys2Proof.Machine

open Sys2Proof Sys2Proof.Machine

/-- Settles O41: the tests at a remaining count of 0, near 0 and above, then the record an extension makes
and the warning test after it. -/
theorem extendLimitRaisesLimit : Obligations.ExtendLimitRaisesLimit := by
  unfold Obligations.ExtendLimitRaisesLimit
  constructor
  · intro s i x hx
    refine ⟨limitTests_none hx, fun value charged kind => ?_⟩
    have count := limitCount_eq_some kind
    refine ⟨fun reached => ⟨?_, fun limit => limitTests_games hx limit count reached,
      fun limit leaves => ?_⟩, fun below fresh near => ?_, fun below quiet => ?_⟩
    · obtain ⟨n, hn, source, payload⟩ := limitTests_told hx kind reached
      refine ⟨n, hn, source, payload.trans ?_⟩
      have none_left : value - charged = 0 := Nat.sub_eq_zero_of_le reached
      simp only [limitReport, none_left, if_true]
      cases x.terms.limit <;> rfl
    · obtain ⟨onPair, unparks⟩ := limitTests_minutes hx limit count reached leaves
      refine ⟨_, onPair, fun moving => ?_, expiryRecord_eq .., fun begins flight => ?_,
        fun begun => ?_⟩
      · rw [unparks moving]
        exact ⟨rfl, map_withoutPark _, map_withoutPark _⟩
      · rw [begins, flight]
        exact expiredNow_cases (timeStopped { x with state := .opened })
      · have holds : (frameNotBegun x && !s.sessionInFlight i x) = false := by
          rcases begun with h | h <;> simp [h]
        rw [holds]
        exact ⟨rfl, rfl, rfl⟩
    · have stays := limitTest_below hx count below
      have warns := warningTest_warns hx count below fresh near
      rw [State.limitTests, stays, warns]
      refine ⟨_, rfl, rfl, ?_⟩
      obtain ⟨n, hn, source, payload⟩ := exists_mem_addNotice (laneSource x.lane)
        (.limitWarning (limitReport i x value charged false)) _ s.notices
      refine ⟨n, hn, source, payload.trans ?_⟩
      simp only [limitReport]
      cases x.terms.limit <;> rfl
    · rw [State.limitTests, limitTest_below hx count below]
      exact warningTest_stays hx count (quiet.imp id .inr)
  · intro s tag n value i x trunk run hi closing charged k old top kind
    have hx := sessionInUse_eq_some hi
    have raised := raiseLimit_eq kind
    have limited : x.terms.limit ≠ .none := by
      rcases kind with ⟨limit, -⟩ | ⟨limit, -⟩ <;> rw [limit] <;> exact nofun
    have count : limitCount { x with terms := { x.terms with limit := k } } = some (value, charged) := by
      rcases kind with ⟨limit, rfl, -⟩ | ⟨limit, rfl, -⟩ <;> simp only [limitCount, charged, limit]
    constructor
    · intro low
      rw [if_neg (by omega)] at raised
      exact exec_of_act rfl trunk (reqExtendLimit_refused run hi closing limited raised) rfl
    · intro above below
      rw [if_pos ⟨above, below⟩] at raised
      obtain ⟨w, y, extended⟩ := extend_extends kind hx count
      have accepted := reqExtendLimit_accepted run hi closing limited raised
      rw [remainingCount_eq count] at accepted
      have onPair := extended.onPair
      obtain ⟨terms, -⟩ := extendedRecord_leaves (s.credit x.lane) k x
      have record := extended.record
      refine ⟨s.extend i x k, y, exec_of_act rfl trunk accepted ((congrArg State.trunk onPair.others :)),
        (onPair.session i).trans (session_setSession_self ..), by rw [record]; exact terms,
        fun j hj => (onPair.session j).trans ((session_setSession ..).trans (if_neg hj)),
        onPair.charges, fun far => by rw [record]; exact extended.unwarned far,
        fun exhausted games => ?_, fun stopped minutes => ?_, fun exhausted stopped => ?_⟩
      · subst games
        rw [record]
        obtain ⟨-, -, state⟩ := startGame_leaves { withLimit (.games value) x with state := .opened }
        exact (congrArg Session.state (if_pos exhausted)).trans state
      · subst minutes
        obtain ⟨limit, -⟩ := kind.resolve_left fun ⟨_, games, _⟩ => nomatch games
        refine ⟨?_, onPair, ?_⟩
        · rw [record, extendedRecord, if_pos stopped]
          rfl
        · obtain ⟨m, hm, key⟩ := List.mem_map.1
            (extended.keys _ (extendEffects_stopped (k := .minutes value) limit stopped))
          exact ⟨m, hm, congrArg Prod.fst key, congrArg Prod.snd key⟩
      · obtain ⟨same, nothing⟩ := extend_plain (i := i) kind exhausted stopped (s.credit x.lane)
        have tested := extended.tested
        rw [nothing, setSession_setSession] at tested
        refine ⟨?_, tested⟩
        rw [record, same]
        rfl

end

section
/-! SUPPORT. Frames that end no poll (O51): what arrives while a poll waits, and frames that their own bytes
damage. -/

namespace Sys2Proof.Machine

open Sys2Proof

section
variable {s : State} {p : PairId} {q : Poll}

/-- A poll that waits is the one that counts; none is sent in its stead. -/
theorem ensurePoll_waits (polled : (s.poller p).poll = some q) : s.ensurePoll p = s := by
  simp only [State.ensurePoll, polled]

theorem pollAbandoned_eq (polled : (s.poller p).poll = some q) : s.pollAbandoned p = q.abandoned := by
  simp only [State.pollAbandoned, polled, Option.any_some]

/-- R165: an answer from another address counts unless the poll that waits is abandoned. -/
theorem exec_wrongAddressAnswer (polled : (s.poller p).poll = some q) :
    exec (.wrongAddressAnswer p) s =
      .next (if q.abandoned then s else s.countWrongAddress p).settleTrunk := by
  show State.done (if (s.ensurePoll p).pollAbandoned p then s.ensurePoll p
    else (s.ensurePoll p).countWrongAddress p) = _
  rw [ensurePoll_waits polled, pollAbandoned_eq polled]
  rfl

/-- R173: an abandoned answer counts where the poll that waits is abandoned. -/
theorem exec_abandonedAnswer (polled : (s.poller p).poll = some q) :
    exec (.abandonedAnswer p) s =
      .next (if q.abandoned then s.countAbandoned p else s).settleTrunk := by
  show State.done (if (s.ensurePoll p).pollAbandoned p then (s.ensurePoll p).countAbandoned p
    else s.ensurePoll p) = _
  rw [ensurePoll_waits polled, pollAbandoned_eq polled]
  rfl

/-- R165: a damaged frame counts whichever poll waits. -/
theorem exec_damagedAnswer (polled : (s.poller p).poll = some q) :
    exec (.damagedAnswer p) s = .next (s.countDamaged p).settleTrunk := by
  show State.done ((s.ensurePoll p).countDamaged p) = _
  rw [ensurePoll_waits polled]
  rfl

/-- Section 11.7: a frame too short for its fixed fields is damaged. -/
theorem readAnswer_short {frame : List Byte} (h : frame.length < 7) : readAnswer frame = .damaged := by
  unfold readAnswer
  split
  · next tail =>
    have few : tail.reverse.length < 2 := by
      rw [List.length_reverse]
      simp only [List.length_cons] at h
      omega
    split
    · next reversed =>
      rw [reversed] at few
      simp only [List.length_cons] at few
      omega
    · rfl
  · rfl

/-- Section 11.7: a frame of another delimiter is damaged. -/
theorem readAnswer_delimiter {frame : List Byte} (h : frame.head? ≠ some 0x5A#8) :
    readAnswer frame = .damaged := by
  unfold readAnswer
  split
  · next delimiter _ _ _ _ _ =>
    have other : delimiter.toNat ≠ 0x5A := fun e => h (by
      rw [List.head?_cons, BitVec.eq_of_toNat_eq (y := 0x5A#8) e])
    split
    · exact if_neg fun c => other c.1
    · rfl
  · rfl

/-- R165: a frame damaged by its own bytes counts as damaged when it is received. -/
theorem exec_answerReceived_damaged {frame : List Byte} (polled : (s.poller p).poll = some q)
    (damaged : readAnswer frame = .damaged) :
    exec (.answerReceived p frame) s = exec (.damagedAnswer p) s := by
  rw [exec_damagedAnswer polled]
  show State.done ((s.ensurePoll p).linkFrame p frame) = _
  simp only [ensurePoll_waits polled, State.linkFrame, polled, State.answerFrame, damaged]
  rfl

end

end Sys2Proof.Machine

open Sys2Proof Sys2Proof.Machine

/-- Settles O51: the counts by what waits, and the two ways in which a frame is damaged by its bytes. -/
theorem framesThatEndNoPollAreCounted : Obligations.FramesThatEndNoPollAreCounted := by
  unfold Obligations.FramesThatEndNoPollAreCounted
  intro s p q polled
  have wrong := exec_wrongAddressAnswer polled
  have late := exec_abandonedAnswer polled
  refine ⟨fun waits => ?_, fun abandoned => ?_, exec_damagedAnswer polled, fun frame h => ?_,
    fun abandoned => ?_, fun waits => ?_⟩
  · simp only [wrong, waits]; rfl
  · simp only [wrong, abandoned, if_true]
  · exact exec_answerReceived_damaged polled (h.elim readAnswer_short readAnswer_delimiter)
  · simp only [late, abandoned, if_true]; rfl
  · simp only [late, waits]; rfl

end

section
/-! SUPPORT. SET_POLL_ORDER (O20): the addresses named, and the node that an order must not lack. -/

namespace Sys2Proof.Machine

open Sys2Proof

theorem addressOf_val (a : NodeAddr) : addressOf? (a.val + 1) = some a := by
  revert a
  decide

/-- R164: a list of 1 to 12 addresses names their nodes in order. -/
theorem orderOf_addresses {order : List NodeAddr} (some_ : 1 ≤ order.length) (room : order.length ≤ 12) :
    orderOf? (order.map fun a => a.val + 1) = some order := by
  have named : (order.map fun a => a.val + 1).mapM addressOf? = some order := by
    clear some_ room
    induction order with
    | nil => rfl
    | cons a order ih => simp [addressOf_val, ih]
  rw [orderOf?, List.length_map, if_pos ⟨some_, room⟩, named]

/-- R164: an order that names every required node lacks none. -/
theorem missingNode_none {s : State} {p : PairId} {order : List NodeAddr}
    (names : ∀ a, s.required p a = true → a ∈ order) : s.missingNode p order = none :=
  List.find?_eq_none.2 fun a _ => by
    simp only [Bool.and_eq_true, Bool.not_eq_true', List.contains_eq_mem, decide_eq_false_iff_not, not_and,
      not_not]
    exact names a

/-- R164: what the response tells of a value, which is clamped where it lies outside its range. -/
theorem clamps_eq {low high : Nat} (n : Nat) (h : low ≤ high) :
    clamps low high n = decide (n < low ∨ high < n) := by
  rw [Bool.eq_iff_iff, clamps, clampTo_eq n h, bne_iff_ne, decide_eq_true_iff]
  omega

theorem reqSetPollOrder_accepted {s : State} {n : Nat} {p : PairId} {order : List NodeAddr}
    (timeout threshold : Nat) (hp : pairOf? n = some p) (some_ : 1 ≤ order.length)
    (room : order.length ≤ 12) (names : ∀ a, s.required p a = true → a ∈ order) :
    reqSetPollOrder n (order.map fun a => a.val + 1) timeout threshold s =
      (s.modPoller p fun q =>
        { q with
          pendingOrder := some order, timeout := max 2 (min 50 timeout)
          threshold := max 1 (min 15 threshold) },
        ⟨.ok, .clampedPoll (decide (timeout < 2 ∨ 50 < timeout))
          (decide (threshold < 1 ∨ 15 < threshold))⟩) := by
  simp only [reqSetPollOrder, hp, orderOf_addresses some_ room, missingNode_none names,
    clampTo_eq _ (show 2 ≤ 50 by decide), clampTo_eq _ (show 1 ≤ 15 by decide),
    clamps_eq _ (show 2 ≤ 50 by decide), clamps_eq _ (show 1 ≤ 15 by decide)]

end Sys2Proof.Machine

open Sys2Proof Sys2Proof.Machine

/-- Settles O20: the checks pass, and the values are clamped. -/
theorem setPollOrderMakesPendingList : Obligations.SetPollOrderMakesPendingList := by
  unfold Obligations.SetPollOrderMakesPendingList
  intro s tag n p addresses order timeout threshold trunk hp some_ room addressed names
  subst addressed
  rw [List.length_map] at some_ room
  exact exec_of_act rfl trunk (reqSetPollOrder_accepted timeout threshold hp some_ room names) rfl

end

section
/-! SUPPORT. The next poll (O50): its place in the round, its bytes, and how a poll leaves the slot. -/

namespace Sys2Proof.Machine

open Sys2Proof

section
variable {s : State} {p : PairId}

/-! ## The next POLL (R164, R165) -/

theorem modPoller_congr {f g : Poller → Poller} (h : f (s.poller p) = g (s.poller p)) :
    s.modPoller p f = s.modPoller p g := by
  simp only [State.modPoller, h]

theorem poller_modPoller_self (f : Poller → Poller) :
    (s.modPoller p f).poller p = f (s.poller p) := (poller_modPoller ..).trans (if_pos rfl)

/-- R165: a POLL sent as one change of the poller. -/
theorem sendPoll_eq {a : NodeAddr} (address : currentAddress (s.poller p) = a) :
    s.sendPoll p = s.modPoller p fun q =>
      { q with
        nodes := q.nodes.set a (carry q.nodes[a]), pollsSent := bump q.pollsSent
        poll := some ⟨a, q.nodes[a].slot.map fun e => (e.command, e.serial), s.deviceTime + q.timeout,
          false⟩ } := by
  subst address
  rw [State.sendPoll, State.modNode, modPoller_modPoller]
  exact modPoller_congr rfl

/-- R164: the round goes on, or begins anew with a pending list in force. -/
theorem advance_eq (q : Poller) : advance q =
    { q with
      order := if q.current + 1 < q.order.length then q.order else q.pendingOrder.getD q.order
      current := if q.current + 1 < q.order.length then q.current + 1 else 0
      pendingOrder := if q.current + 1 < q.order.length then q.pendingOrder else none
      poll := none } := by
  unfold advance
  split <;> rfl

/-! ## The fate of a command (R169) -/

theorem pairs_acknowledge (l : LaneId) (c : Command) : (s.acknowledge l c).pairs = s.pairs := by
  unfold State.acknowledge
  split
  · rfl
  · split <;> rfl

/-- R169: telling the owner of an acknowledgment leaves every slot. -/
theorem pairs_acked (a : NodeAddr) (c : Command) : (s.acked p a c).pairs = s.pairs := by
  unfold State.acked
  split
  · split
    · split <;> rfl
    · exact pairs_acknowledge ..
  · split <;> rfl
  · rfl
  · rfl

theorem node_of_pairs {t : State} (h : t.pairs = s.pairs) (a : NodeAddr) : t.node p a = s.node p a := by
  simp only [State.node, State.poller, State.pair, h]

/-- R169: the command carried does not stand in the slot any more. -/
theorem stillInSlot_replaced {n : Node} {c : Command} {q : Serial}
    (replaced : ∀ e, n.slot = some e → e.command = c → e.serial = q → e.tries = none) :
    stillInSlot n c q = false := by
  by_contra still
  obtain ⟨k, slot⟩ := stillInSlot_iff.1 (Bool.eq_true_of_not_eq_false still)
  cases replaced _ slot rfl rfl

/-- R169: a poll whose command has gone from the slot is resolved by telling of its acknowledgment. -/
theorem resolveCommand_replaced {q : Poll} {r : CommandResult} {c : Command} {n : Serial}
    (carried : q.carried = some (c, n))
    (replaced : ∀ e, (s.node p q.address).slot = some e → e.command = c → e.serial = n → e.tries = none) :
    s.resolveCommand p q r = if r = .ack n then s.acked p q.address c else s := by
  simp only [State.resolveCommand, carried, stillInSlot_replaced replaced, Bool.false_eq_true, if_false]

/-- R169: without an acknowledgment a command below three tries stays in the slot. -/
theorem resolveCommand_stays {q : Poll} {r : CommandResult} {c : Command} {n : Serial}
    (carried : q.carried = some (c, n)) (unacked : r ≠ .ack n)
    (few : ∀ e, (s.node p q.address).slot = some e → e.command = c → e.serial = n →
      e.tries.getD 0 < 3) : s.resolveCommand p q r = s := by
  simp only [State.resolveCommand, carried, if_neg unacked]
  split
  · next still =>
    obtain ⟨k, slot⟩ := stillInSlot_iff.1 still
    have unspent : triesSpent (s.node p q.address) = false := by
      have small : k < 3 := few _ slot rfl rfl
      simp only [triesSpent, slot, Option.any_some, Option.getD_some, decide_eq_false_iff_not, not_le]
      exact small
    rw [State.unacknowledged, unspent]
    rfl
  · rfl

end

end Sys2Proof.Machine

open Sys2Proof Sys2Proof.Machine

/-- Settles O50: the bytes as they are laid out, the slot by what it holds, and the poller in the two cases
of the round. -/
theorem nextPollFollowsOrder : Obligations.NextPollFollowsOrder := by
  unfold Obligations.NextPollFollowsOrder
  refine ⟨fun q => ⟨(q.carried.map fun x => commandBody x.1).getD [], ?_, fun empty => ?_,
    fun b n carried => ?_⟩, fun s p q r => ⟨fun empty => ?_, fun c n carried => ?_,
    fun c n carried replaced a => ?_⟩, ?_⟩
  · unfold Poll.bytes commandField
    cases q.carried <;> rfl
  · rw [empty]; rfl
  · rcases carried with h | h <;> rw [h] <;> rfl
  · simp only [State.resolveCommand, empty]
  · exact resolveCommand_stays carried
  · rw [resolveCommand_replaced carried replaced]
    split
    · rw [node_of_pairs (pairs_acked _ c)]
    · rfl
  · intro s p q goesOn order current a at_slot carried
    have address : currentAddress ((s.modPoller p advance).poller p) = a := by
      rw [poller_modPoller_self, advance_eq, currentAddress]
      exact congrArg (·.getD 0) at_slot
    rw [State.nextPoll, sendPoll_eq address, modPoller_modPoller]
    refine modPoller_congr ?_
    simp only [advance_eq]
    rfl

end

section
/-! SUPPORT. Display frames (O28): the oldest frame queued for a console, and a frame that enters the queue or
the console's slot. -/

namespace Sys2Proof.Machine

open Sys2Proof

/-! ## The queue (R172) -/

theorem takeFrame_none {d : Side} {queue : List DisplayFrame} (h : ∀ f ∈ queue, f.side ≠ d) :
    takeFrame d queue = none := by
  induction queue with
  | nil => rfl
  | cons f queue ih =>
    obtain ⟨other, rest⟩ := List.forall_mem_cons.1 h
    rw [takeFrame, if_neg other, ih rest, Option.map_none]

/-- R172: the first frame for a console is the oldest. -/
theorem takeFrame_oldest {d : Side} {before : List DisplayFrame} (h : ∀ f ∈ before, f.side ≠ d)
    (payload : List Byte) (after : List DisplayFrame) :
    takeFrame d (before ++ ⟨d, payload⟩ :: after) = some (payload, before ++ after) := by
  induction before with
  | nil => exact if_pos rfl
  | cons f before ih =>
    obtain ⟨other, rest⟩ := List.forall_mem_cons.1 h
    rw [List.cons_append, takeFrame, if_neg other, ih rest, Option.map_some, List.cons_append]

section
variable {s : State} {p : PairId} {d : Side}

theorem node_queue (g : Poller → List DisplayFrame) (q : PairId) (a : NodeAddr) :
    (s.modPoller p fun r => { r with queue := g r }).node q a = s.node q a := by
  refine node_modPoller ?_ q a
  exact fun _ => rfl

theorem placeDisplay_busy (full : (s.node p (consoleAddr d)).slot.isSome = true) :
    s.placeDisplay p d = s := if_pos full

theorem placeDisplay_nothing (none_ : ∀ f ∈ (s.poller p).queue, f.side ≠ d) : s.placeDisplay p d = s := by
  unfold State.placeDisplay
  split
  · rfl
  · rw [takeFrame_none none_]

/-- R168: a command that enters an empty slot. -/
theorem place_empty {a : NodeAddr} (empty : (s.node p a).slot = none) (c : Command) :
    s.place p a c = s.modNode p a (putCommand c) := if_pos (slotTakes_of_empty empty c)

/-- R172: an empty slot takes the oldest frame of its console. -/
theorem placeDisplay_oldest {before after : List DisplayFrame} {payload : List Byte}
    (empty : (s.node p (consoleAddr d)).slot = none)
    (queue : (s.poller p).queue = before ++ ⟨d, payload⟩ :: after) (older : ∀ f ∈ before, f.side ≠ d) :
    s.placeDisplay p d = (s.modPoller p fun q => { q with queue := before ++ after }).modNode p
      (consoleAddr d) (putCommand (.display payload)) := by
  have slot : ((s.modPoller p fun q => { q with queue := before ++ after }).node p
      (consoleAddr d)).slot = none := by
    rw [node_queue]
    exact empty
  simp only [State.placeDisplay, empty, Option.isSome_none, Bool.false_eq_true, if_false, queue,
    takeFrame_oldest older, place_empty slot]

/-! ## PASS_THROUGH (R172) -/

theorem reqPassThrough_taken {n : Nat} {l : LaneId} {payload : List Byte} (hl : s.mappedLane? n = some l)
    (some_ : 1 ≤ payload.length) (room : payload.length ≤ 64) (console : (s.entry l).hasConsole = true)
    (alive : (s.node (pairOf l) (consoleAddr (sideOf l))).state = .alive)
    (few : (s.poller (pairOf l)).queue.length < 4) :
    reqPassThrough n payload s = ((s.modPoller (pairOf l) fun q =>
      { q with queue := q.queue ++ [⟨sideOf l, payload⟩] }).placeDisplay (pairOf l) (sideOf l), accept) := by
  have fits : ¬ (payload.isEmpty = true ∨ 64 < payload.length) := by
    rw [List.isEmpty_iff_length_eq_zero]
    omega
  simp only [reqPassThrough, hl, if_neg fits, console, alive, Bool.true_eq_false, ne_eq, not_true_eq_false,
    or_self, if_false, if_neg (not_le.2 few)]

/-- R172: a frame that goes into the slot at once leaves the queue as it was. -/
theorem placeDisplay_atOnce (empty : (s.node p (consoleAddr d)).slot = none)
    (none_ : ∀ f ∈ (s.poller p).queue, f.side ≠ d) (payload : List Byte) :
    (s.modPoller p fun q => { q with queue := q.queue ++ [⟨d, payload⟩] }).placeDisplay p d =
      s.modNode p (consoleAddr d) (putCommand (.display payload)) := by
  let u := s.modPoller p fun q => { q with queue := q.queue ++ [⟨d, payload⟩] }
  have slot : (u.node p (consoleAddr d)).slot = none := by
    rw [show u.node p (consoleAddr d) = s.node p (consoleAddr d) from node_queue _ p _]
    exact empty
  have queue : (u.poller p).queue = (s.poller p).queue ++ [⟨d, payload⟩] := by
    rw [poller_modPoller, if_pos rfl]
  rw [placeDisplay_oldest slot queue none_, List.append_nil, State.modNode, modPoller_modPoller,
    modPoller_modPoller]
  exact modPoller_congr rfl

end

end Sys2Proof.Machine

open Sys2Proof Sys2Proof.Machine

/-- Settles O28: the frame is the console's oldest where no other waits for it. -/
theorem passThroughQueuesOrPlaces : Obligations.PassThroughQueuesOrPlaces := by
  unfold Obligations.PassThroughQueuesOrPlaces
  intro s tag n l payload trunk hl some_ room console alive few
  have taken := reqPassThrough_taken hl some_ room console alive few
  refine ⟨fun full => ?_, fun empty none_ => ?_⟩
  · refine exec_of_act rfl trunk (taken.trans (congrArg (·, _) (placeDisplay_busy ?_))) rfl
    rw [node_queue]
    exact full
  · exact exec_of_act rfl trunk (taken.trans (congrArg (·, _) (placeDisplay_atOnce empty none_ payload))) rfl

end

section
/-! SUPPORT. A lane told of a change of its faults with nothing to carry out (R109 to R114): a class raised
with the action NONE or HOLD, or a condition that ends on a lane that runs no owed cycle. The fault set, the
arming of the lane and its holder's billing state follow; all else stands. -/

namespace Sys2Proof.Machine

open Sys2Proof

/-- `t` comes from `s` by a change of lane `l`'s fault set of which the lane has been told: its play state and
foul pending, its holder's billing state and the notices follow. -/
structure LaneTold (l : LaneId) (s t : State) : Prop where
  others : t = { s with lanes := t.lanes, sessions := t.sessions, notices := t.notices }
  elsewhere : ∀ k, k ≠ l → t.lane k = s.lane k
  lane : ∃ play foul, t.lane l = { s.lane l with
    tracker := { s.tracker l with play := play, foulPending := foul }, faults := (t.lane l).faults }
  free : ∀ i, s.session i = none → t.session i = none
  used : ∀ i x, s.session i = some x → ∃ b, t.session i = some (billedAs b x)
  unheld : (s.entry l).holder = none → t.sessions = s.sessions
  keys : ∀ k ∈ s.notices.map noticeKey, k ∈ t.notices.map noticeKey

namespace LaneTold

variable {l : LaneId} {s t u : State}

/-! ## What it leaves -/

theorem pairs (h : LaneTold l s t) : t.pairs = s.pairs := by rw [h.others]

theorem charges (h : LaneTold l s t) : t.charges = s.charges := by rw [h.others]

theorem deviceTime (h : LaneTold l s t) : t.deviceTime = s.deviceTime := by rw [h.others]

theorem faultTable (h : LaneTold l s t) : t.faultTable = s.faultTable := by rw [h.others]

theorem pair (h : LaneTold l s t) (q : PairId) : t.pair q = s.pair q := by
  simp only [State.pair, h.pairs]

theorem node (h : LaneTold l s t) (q : PairId) (a : NodeAddr) : t.node q a = s.node q a := by
  simp only [State.node, State.poller, h.pair]

theorem pinsetter (h : LaneTold l s t) (k : LaneId) : t.pinsetter k = s.pinsetter k := h.node ..

theorem entry (h : LaneTold l s t) (k : LaneId) : t.entry k = s.entry k := by
  obtain ⟨_, _, here⟩ := h.lane
  by_cases e : k = l
  · rw [e, State.entry, here]; rfl
  · rw [State.entry, h.elsewhere k e]; rfl

theorem supervisor (h : LaneTold l s t) (k : LaneId) : t.supervisor k = s.supervisor k := by
  obtain ⟨_, _, here⟩ := h.lane
  by_cases e : k = l
  · rw [e, State.supervisor, here]; rfl
  · rw [State.supervisor, h.elsewhere k e]; rfl

theorem meter (h : LaneTold l s t) (k : LaneId) : t.meter k = s.meter k := by
  obtain ⟨_, _, here⟩ := h.lane
  by_cases e : k = l
  · rw [e, State.meter, here]; rfl
  · rw [State.meter, h.elsewhere k e]; rfl

theorem tracker (h : LaneTold l s t) (k : LaneId) :
    ∃ play foul, t.tracker k = { s.tracker k with play := play, foulPending := foul } := by
  obtain ⟨play, foul, here⟩ := h.lane
  by_cases e : k = l
  · exact ⟨play, foul, by rw [e, State.tracker, here]⟩
  · exact ⟨_, _, congrArg Lane.tracker (h.elsewhere k e)⟩

theorem creditFollows (h : LaneTold l s t) : CreditFollows (pairOf l) s t where
  others := h.others.trans (by rw [h.pairs])
  lanes := fun k hk => h.elsewhere k fun e => hk (e ▸ rfl)
  pairs := fun q _ => h.pair q
  entry := h.entry
  meter := h.meter
  filter := fun q => congrArg Pair.filter (h.pair q)
  free := h.free
  used := fun i x hx => by
    obtain ⟨b, e⟩ := h.used i x hx
    exact ⟨_, e, sameBut_billedAs b x⟩

theorem noneLeaving (h : LaneTold l s t) (stays : s.NoneLeaving) : t.NoneLeaving :=
  h.creditFollows.noneLeaving stays

theorem nothingHeld (h : LaneTold l s t) {k : LaneId} (nothing : s.NothingHeld k) : t.NothingHeld k :=
  fun i x hi hx => by
    rw [h.entry] at hi
    cases hs : s.session i with
    | none => rw [h.free i hs] at hx; cases hx
    | some y =>
      obtain ⟨b, e⟩ := h.used i y hs
      rw [e] at hx
      cases hx
      exact nothing i y hi hs

/-! ## How it comes about -/

theorem refl (l : LaneId) (s : State) : LaneTold l s s where
  others := rfl
  elsewhere := fun _ _ => rfl
  lane := ⟨_, _, rfl⟩
  free := fun _ h => h
  used := fun _ x hx => ⟨x.billing.state, hx⟩
  unheld := fun _ => rfl
  keys := fun _ h => h

theorem trans (h : LaneTold l s t) (k : LaneTold l t u) : LaneTold l s u where
  others := by rw [k.others, h.others]
  elsewhere := fun j hj => (k.elsewhere j hj).trans (h.elsewhere j hj)
  lane := by
    obtain ⟨_, _, first⟩ := h.lane
    obtain ⟨play, foul, second⟩ := k.lane
    exact ⟨play, foul, by rw [second, State.tracker, first]⟩
  free := fun i hi => k.free i (h.free i hi)
  used := fun i x hx => by
    obtain ⟨b, hb⟩ := h.used i x hx
    obtain ⟨c, hc⟩ := k.used i _ hb
    exact ⟨c, hc⟩
  unheld := fun holder => (k.unheld (by rw [h.entry]; exact holder)).trans (h.unheld holder)
  keys := fun j hj => k.keys j (h.keys j hj)

theorem setLaneFaults (s : State) (l : LaneId) (fs : List FaultEntry) :
    LaneTold l s (s.setLaneFaults l fs) where
  others := rfl
  elsewhere := fun k hk => (lane_setLane ..).trans (if_neg hk)
  lane := ⟨(s.tracker l).play, (s.tracker l).foulPending, by
    rw [State.setLaneFaults, lane_setLane_self]; rfl⟩
  free := fun _ h => h
  used := fun _ x hx => ⟨x.billing.state, hx⟩
  unheld := fun _ => rfl
  keys := fun _ h => h

theorem raiseWith (l : LaneId) (s : State) (n : Nat) (x : NoticePayload) (w : Nat) :
    LaneTold l s (s.raiseWith n x w) where
  others := rfl
  elsewhere := fun _ _ => rfl
  lane := ⟨_, _, rfl⟩
  free := fun _ h => h
  used := fun _ x hx => ⟨x.billing.state, hx⟩
  unheld := fun _ => rfl
  keys := fun _ h => mem_keys_addNotice (.inl h)

theorem armingCheck (s : State) (l : LaneId) : LaneTold l s (s.armingCheck l) where
  others := by rw [armingCheck_others]
  elsewhere := fun k hk => by rw [armingCheck_eq, lane_modTracker, if_neg hk]
  lane := by
    obtain ⟨x, rearmed, e⟩ := armingCheck_spec s l
    rw [e, lane_modTracker, if_pos rfl]
    rcases rearmed with rfl | ⟨_, rfl⟩ | ⟨_, rfl⟩
    · exact ⟨_, _, rfl⟩
    · exact ⟨_, _, rfl⟩
    · exact ⟨_, _, rfl⟩
  free := fun i hi => (session_armingCheck s l i).trans hi
  used := fun i x hx => ⟨x.billing.state, (session_armingCheck s l i).trans hx⟩
  unheld := fun _ => by rw [armingCheck_others]
  keys := fun _ h => by rw [notices_armingCheck]; exact h

theorem tellCredit (s : State) (l : LaneId) : LaneTold l s (s.tellCredit l) where
  others := by rw [tellCredit_others]
  elsewhere := fun k _ => lane_tellCredit s l k
  lane := ⟨(s.tracker l).play, (s.tracker l).foulPending, by rw [lane_tellCredit]; rfl⟩
  free := fun _ hi => session_tellCredit_none s l hi
  used := fun _ _ hx => session_tellCredit_some s l hx
  unheld := fun holder => by rw [tellCredit_noHolder holder]
  keys := fun _ h => by rw [notices_tellCredit]; exact h

/-- R109, R119: a class entered into the lane's set, with FAULT_RAISED. -/
theorem faultEntered (s : State) (l : LaneId) (c : FaultClass) : LaneTold l s (s.faultEntered l c) :=
  (setLaneFaults s l _).trans (raiseWith l _ _ _ _)

/-- R109 to R112: a class raised with a mild action. -/
theorem raiseLane {c : FaultClass}
    (mild : s.faultTable[faultIndex c].action = .none ∨ s.faultTable[faultIndex c].action = .hold) :
    LaneTold l s (s.raiseLane l c) := by
  rw [raiseLane_mild mild]
  exact ((faultEntered s l c).trans (tellCredit _ l)).trans (armingCheck _ l)

end LaneTold

/-! ## A condition that ends (R113, R114) -/

/-- R93: no owed cycle of the lane is run by a fall of its effective action. -/
def RunsNothing (v : Supervisor) : Prop := v.owed = none ∨ v.machine ≠ .ready

/-- R114: a fault set once the condition of a class has ended: an entry of the class that latches stays,
another goes. -/
def conditionEnded (c : FaultClass) (fs : List FaultEntry) : List FaultEntry :=
  if (findFault c fs).any fun f => latches f.action then fs.map (latch c) else removeFault c fs

theorem latches_mild {a : Action} (h : a = .none ∨ a = .hold) : latches a = false := by
  rcases h with rfl | rfl <;> rfl

theorem latches_severe {a : Action} (h : a = .stop ∨ a = .park) : latches a = true := by
  rcases h with rfl | rfl <;> rfl

section
variable {s : State} {l : LaneId} {c : FaultClass}

theorem runOwed_nothing (h : RunsNothing (s.supervisor l)) : s.runOwed l = s :=
  h.elim runOwed_none runOwed_unready

/-- R111: a fall told to a lane that runs nothing. -/
theorem LaneTold.tellFall (h : RunsNothing (s.supervisor l)) : LaneTold l s (s.tellFall l) := by
  rw [State.tellFall, runOwed_nothing h]
  exact (LaneTold.armingCheck s l).trans (LaneTold.tellCredit _ l)

theorem faults_tellFall (h : RunsNothing (s.supervisor l)) :
    ((s.tellFall l).lane l).faults = (s.lane l).faults := by
  rw [State.tellFall, runOwed_nothing h, lane_tellCredit, faults_armingCheck]

/-- R113, R114: the condition of a class of a lane that runs nothing ends. -/
theorem LaneTold.laneConditionEnds (h : RunsNothing (s.supervisor l)) :
    LaneTold l s (s.laneConditionEnds l c) ∧
      ((s.laneConditionEnds l c).lane l).faults = conditionEnded c (s.lane l).faults := by
  unfold State.laneConditionEnds conditionEnded
  split
  · next absent =>
    rw [absent, Option.any_none, if_neg Bool.false_ne_true, removeFault_of_absent absent]
    exact ⟨.refl l s, rfl⟩
  · next f found =>
    rw [found, Option.any_some]
    split
    · exact ⟨.setLaneFaults s l _, (faults_setLaneFaults ..).trans (if_pos rfl)⟩
    · let u := s.faultRemoved l c .conditionEnded
      have removed : LaneTold l s u := (setLaneFaults s l _).trans (raiseWith l _ _ _ _)
      have idle : RunsNothing (u.supervisor l) := by rw [removed.supervisor]; exact h
      have taken : s.removeLaneFault l c .conditionEnded = u.tellFall l := by
        simp only [State.removeLaneFault, found]
        rfl
      rw [taken]
      exact ⟨removed.trans (.tellFall idle),
        (faults_tellFall idle).trans (faults_faultRemoved .conditionEnded)⟩

end

section
variable {c : FaultClass} {fs : List FaultEntry}

theorem conditionEnded_absent (absent : ∀ f ∈ fs, f.cls ≠ c) : conditionEnded c fs = fs := by
  have none_ : findFault c fs = none := List.find?_eq_none.2 fun f hf => by simpa using absent f hf
  rw [conditionEnded, none_, Option.any_none, if_neg Bool.false_ne_true, removeFault_of_absent none_]

variable {f : FaultEntry} {before after : List FaultEntry}

theorem conditionEnded_mild (cls : f.cls = c) (only : ∀ g ∈ before ++ after, g.cls ≠ c)
    (mild : f.action = .none ∨ f.action = .hold) :
    conditionEnded c (before ++ f :: after) = before ++ after := by
  rw [conditionEnded, findFault_only cls only, Option.any_some, latches_mild mild,
    if_neg Bool.false_ne_true, removeFault_only cls only]

theorem conditionEnded_severe (cls : f.cls = c) (only : ∀ g ∈ before ++ after, g.cls ≠ c)
    (severe : f.action = .stop ∨ f.action = .park) :
    conditionEnded c (before ++ f :: after) =
      before ++ { f with present := false, latched := true } :: after := by
  rw [conditionEnded, findFault_only cls only, Option.any_some, latches_severe severe, if_pos rfl,
    latch_only cls only]

end

end Sys2Proof.Machine
end

section
/-! SUPPORT. Answers of a pinsetter (R85, R166, R170), and the owed HALT or PARK that its node takes (R115). -/

namespace Sys2Proof.Machine

open Sys2Proof

/-! ## The answer (R86, R170) -/

theorem roleOf_pinsetterAddr (d : Side) : roleOf (pinsetterAddr d) = .pinsetter d := by cases d <;> rfl

/-- A pinsetter's answer frame whose body holds its reports. -/
theorem readAnswer_pinsetter (d : Side) {result count : Byte} {body : List Byte}
    {rs : List (Report × Byte × Byte)} (few : count.toNat ≤ 4) (reports : reportsOf body = some rs)
    (fits : rs.length = count.toNat) :
    let covered := [BitVec.ofNat 8 ((pinsetterAddr d).val + 1), 2#8, result, count] ++ body
    readAnswer ([0x5A#8] ++ covered ++ bytes2 (crc16 covered).toNat) =
      .answer ⟨pinsetterAddr d, commandResult result, .pinsetter rs⟩ :=
  readAnswer_answer (addressOf_succ _) (by
    simp only [contentsOf, roleOf_pinsetterAddr, if_pos few, reports, Option.bind_some, if_pos fits])

section
variable {s : State} {l : LaneId}

/-- R86: a watch that does not run, or runs on, is not found expired. -/
theorem examineWatch_waits
    (h : ∀ e, (s.supervisor l).record.bind (·.watch) = some e → s.deviceTime < e) :
    s.examineWatch l = s := by
  unfold State.examineWatch
  split
  · rfl
  · next r record =>
    split
    · rfl
    · next e watch => exact if_neg (Nat.not_le.2 (h e (by rw [record]; exact watch)))

theorem examineWatch_none (h : (s.supervisor l).record.bind (·.watch) = none) : s.examineWatch l = s :=
  examineWatch_waits fun _ e => nomatch h.symm.trans e

/-- R163: the pinsetter of a lane of the map is required. -/
theorem required_pinsetter (enabled : (s.entry l).enabled = true) :
    s.required (pairOf l) (pinsetterAddr (sideOf l)) = true := by
  simp only [State.required, roleOf_pinsetterAddr, laneAt_pairOf, enabled]

/-- R165, R170: an answer of a pinsetter of a lane of the map to a poll resolved in `w`. -/
theorem takeAnswer_pinsetter {carried : Option (Command × Serial)} {d : Nat} {r : CommandResult} {w : State}
    (resolved : (s.nodeAnswers (pairOf l) (pinsetterAddr (sideOf l))).resolveCommand (pairOf l)
      ⟨pinsetterAddr (sideOf l), carried, d, false⟩ r = w)
    (enabled : (w.entry l).enabled = true) (rs : List (Report × Byte × Byte)) :
    s.takeAnswer (pairOf l) ⟨pinsetterAddr (sideOf l), carried, d, false⟩
        ⟨pinsetterAddr (sideOf l), r, .pinsetter rs⟩ =
      (((rs.foldl (fun t x => t.pinsetterReport l x) w).examineWatch l).settlePair
        (pairOf l)).nextPoll (pairOf l) := by
  rw [State.takeAnswer]
  dsimp only
  rw [resolved]
  simp only [State.handContents, required_pinsetter enabled, or_true, if_true, State.takeContents,
    State.examineAt, roleOf_pinsetterAddr, laneAt_pairOf]

/-! ## The owed command (R115) -/

theorem placeOwed_none (h : (s.pinsetter l).owed = none) : s.placeOwed l = s := by
  simp only [State.placeOwed, h]

theorem placeOwedOf_pinsetter : s.placeOwedOf (pairOf l) (pinsetterAddr (sideOf l)) = s.placeOwed l := by
  simp only [State.placeOwedOf, roleOf_pinsetterAddr, laneAt_pairOf]

/-- R115: the state once an owed HALT or PARK has begun, before the end of what it supersedes is reported. -/
def State.owedBegun (s : State) (l : LaneId) (k : StopKind) : State :=
  ((s.modNode (pairOf l) (pinsetterAddr (sideOf l)) fun n => { n with owed := none }).endUnfinished
    l).beginSequence l (stopSequence k) none

theorem placeOwed_begins {k : StopKind} (owed : (s.pinsetter l).owed = some k)
    (alive : (s.pinsetter l).state = .alive)
    (takes : (s.pinsetter l).slot = none ∨ ∃ j c q u, (s.pinsetter l).slot = some ⟨.cycle j c, q, u⟩) :
    s.placeOwed l = (s.owedBegun l k).stopReleases l (s.supervisor l) := by
  simp only [State.placeOwed, owed]
  exact if_pos ⟨alive, slotTakes_stop.2 takes⟩

/-- R82, R85, R115: the supervisor and the node once it has begun. -/
theorem owedBegun_shows {k : StopKind}
    (takes : (s.pinsetter l).slot = none ∨ ∃ j c q u, (s.pinsetter l).slot = some ⟨.cycle j c, q, u⟩) :
    (s.owedBegun l k).supervisor l = newSequence (stopSequence k) none (unfinished (s.supervisor l)) ∧
    (s.owedBegun l k).pinsetter l =
      putCommand (sequenceCommand (stopSequence k) ((s.supervisor l).cycle + 1))
        { s.pinsetter l with owed := none } := by
  let u := s.modNode (pairOf l) (pinsetterAddr (sideOf l)) fun n => { n with owed := none }
  have node : u.pinsetter l = { s.pinsetter l with owed := none } := node_modNode_self ..
  have ended : Supervised l (unfinished (s.supervisor l)) u (u.endUnfinished l) :=
    Supervised.endUnfinished u l
  obtain ⟨supervisor, command⟩ := beginSequence_takes (s := u.endUnfinished l) (l := l)
    (k := stopSequence k) none (slotTakes_stop.2 (by rw [ended.pinsetter, node]; exact takes))
  rw [ended.supervisor] at supervisor command
  rw [ended.pinsetter, node] at command
  exact ⟨supervisor, command⟩

theorem newSequence_stopping (k : StopKind) (v : Supervisor) :
    Stopping (newSequence (stopSequence k) none v) := by
  cases k
  · exact ⟨.inl rfl, rfl⟩
  · exact ⟨.inr rfl, rfl⟩

theorem Decides.handDeferred {u : State} (h : Decides (pairOf l) s u) :
    Decides (pairOf l) s (u.handDeferred l) := by
  unfold State.handDeferred
  split
  · exact h
  · exact (h.modSupervisor l _).takeNeed _

/-- R87: what the end of a superseded sequence leaves of a lane whose machine is stopping, with nothing in
progress before or nothing held back. -/
theorem stopReleases_stopping {v : Supervisor} (stops : Stopping (s.supervisor l))
    (moved : (s.supervisor l).cycle = v.cycle + 1) (nothing : v.record = none ∨ s.NothingHeld l) :
    let t := s.stopReleases l v
    OnPair (pairOf l) s t ∧ Decides (pairOf l) s t ∧ StaysStopping l s t := by
  intro t
  by_cases record : v.record = none
  · rw [show t = s from stopReleases_begun record stops.record]
    exact ⟨.refl _ s, .refl, .refl l s⟩
  · have none_held := nothing.resolve_left record
    have ended : t = ((s.handDeferred l).armingCheck l).followPark l := by
      rw [show t = _ from stopReleases_superseded (Option.isSome_iff_ne_none.2 record) stops.record moved,
        State.supersededReleases, applyHeld_nothing none_held]
    rw [ended]
    exact ⟨(((OnPair.refl _ s).handDeferred l rfl).armingCheck l rfl).followPark l rfl,
      (Decides.refl.handDeferred.armingCheck l).followPark, superseded_stopping stops⟩

/-- R115: an owed HALT or PARK that its node has taken. -/
structure OwedPlaced (l : LaneId) (k : StopKind) (s t : State) : Prop where
  onPair : OnPair (pairOf l) s t
  decides : Decides (pairOf l) s t
  supervisor : ∃ f d, t.supervisor l =
    { newSequence (stopSequence k) none (unfinished (s.supervisor l)) with
      followOn := f, deferredNeed := d }
  pinsetter : t.pinsetter l =
    putCommand (sequenceCommand (stopSequence k) ((s.supervisor l).cycle + 1))
      { s.pinsetter l with owed := none }

theorem placeOwed_places {k : StopKind} (owed : (s.pinsetter l).owed = some k)
    (alive : (s.pinsetter l).state = .alive)
    (takes : (s.pinsetter l).slot = none ∨ ∃ j c q u, (s.pinsetter l).slot = some ⟨.cycle j c, q, u⟩)
    (nothing : (s.supervisor l).record = none ∨ s.NothingHeld l) :
    OwedPlaced l k s (s.placeOwed l) := by
  let w := s.owedBegun l k
  obtain ⟨supervisor, pinsetter⟩ := owedBegun_shows (k := k) takes
  have onPair : OnPair (pairOf l) s w :=
    (((OnPair.refl _ s).modNode _ _ _ rfl).endUnfinished l rfl).beginSequence l _ none rfl
  have decides : Decides (pairOf l) s w :=
    ((Decides.refl.modNode _ _).endUnfinished (l := l)).beginSequence _ none
  obtain ⟨released, decided, stays⟩ := stopReleases_stopping (s := w) (v := s.supervisor l)
    (by rw [supervisor]; exact newSequence_stopping ..) (by rw [supervisor]; rfl)
    (nothing.imp_right onPair.nothingHeld)
  obtain ⟨f, d, stops⟩ := stays.supervisor
  rw [placeOwed_begins owed alive takes]
  exact ⟨onPair.trans released, decides.trans decided, ⟨f, d, stops.trans (by rw [supervisor])⟩,
    stays.pinsetter.trans pinsetter⟩

end

end Sys2Proof.Machine
end

section
/-! SUPPORT. Commands that wait for a slot (O53), and a pinsetter that returns. -/

namespace Sys2Proof.Machine

open Sys2Proof

section
variable {s : State} {p : PairId}

/-! ## SLOT_COMMAND_PLACE (R168, R172) -/

theorem exec_slotCommandPlace_full {a : NodeAddr} (full : (s.node p a).slot.isSome = true) :
    exec (.slotCommandPlace p a) s = .next s.settleTrunk := by
  have taken : ¬ (s.node p a).slot.isNone = true := by
    rw [Option.isNone_iff_eq_none]
    exact Option.isSome_iff_ne_none.1 full
  exact congrArg State.done (if_neg taken)

theorem exec_slotCommandPlace_empty {a : NodeAddr} {t : State} (empty : (s.node p a).slot = none)
    (placed : s.slotEmptied p a = t) (stays : t.NoneLeaving) :
    exec (.slotCommandPlace p a) s = .next t.settleTrunk := by
  have free : (s.node p a).slot.isNone = true := by rw [empty]; rfl
  refine congrArg State.done ((if_pos free).trans ?_)
  rw [placed, settlePair_stays stays]

theorem slotEmptied_console (d : Side) : s.slotEmptied p (consoleAddr d) = s.placeDisplay p d := by
  simp only [State.slotEmptied, roleOf_consoleAddr]

/-- R168, R172: where nothing can wait for the node, nothing is placed. -/
theorem exec_slotCommandPlace_nothing {a : NodeAddr} (stays : s.NoneLeaving)
    (h : (s.node p a).slot.isSome = true ∨ a = laneIoAddr ∨
      ∃ e, a = consoleAddr e ∧ ∀ f ∈ (s.poller p).queue, f.side ≠ e) :
    exec (.slotCommandPlace p a) s = .next s.settleTrunk := by
  cases slot : (s.node p a).slot with
  | some c => exact exec_slotCommandPlace_full (by rw [slot]; rfl)
  | none =>
    refine exec_slotCommandPlace_empty slot ?_ stays
    rcases h with full | rfl | ⟨e, rfl, none_⟩
    · rw [slot] at full; cases full
    · rfl
    · rw [slotEmptied_console, placeDisplay_nothing none_]

/-! ## OWED_COMMAND_PLACE (R115) -/

theorem exec_owedCommandPlace {l : LaneId} {t : State} (placed : s.placeOwed l = t)
    (stays : t.NoneLeaving) : exec (.owedCommandPlace l) s = .next t.settleTrunk := by
  show State.done ((s.placeOwed l).settleLane l) = _
  rw [placed, settleLane_stays (stays.holderStays l)]
  rfl

variable {l : LaneId} {t : State}

/-- R82, R85: what an owed HALT or PARK that its node has taken shows of the lane. -/
theorem OwedPlaced.shows {k : StopKind} (h : OwedPlaced l k s t) :
    let m := (s.supervisor l).cycle + 1
    (t.pinsetter l).owed = none ∧ (t.supervisor l).cycle = m ∧
    (t.supervisor l).superseded = (match (s.supervisor l).record with
      | some r => some r.number
      | none => (s.supervisor l).superseded) ∧
    (t.supervisor l).machine = (if k = .halt then .halted else .parking) ∧
    (t.pinsetter l).slot = some ⟨if k = .halt then .halt m else .park m, (s.pinsetter l).nextSerial, none⟩ ∧
    (t.supervisor l).record.bind (·.watch) = none := by
  obtain ⟨f, d, supervisor⟩ := h.supervisor
  rw [supervisor, h.pinsetter]
  refine ⟨rfl, rfl, ?_, ?_, ?_, rfl⟩
  · unfold newSequence unfinished
    cases (s.supervisor l).record <;> rfl
  · cases k <;> rfl
  · cases k <;> rfl

/-! ## A pinsetter that returns (R113 to R115, R167) -/

/-- R113: decisions about the equipment leave a fault whose condition no sequence ends. -/
theorem Decides.mem_faults {k : LaneId} {f : FaultEntry} (h : Decides p s t)
    (lasts : endStepCondition f = f) (mem : f ∈ (s.lane k).faults) : f ∈ (t.lane k).faults := by
  induction h with
  | refl => exact mem
  | raise | modNode | modReturn => assumption
  | modSupervisor l g _ ih =>
    rw [lane_modSupervisor]
    split
    · exact ih
    · exact ih
  | modTracker l g _ ih =>
    rw [lane_modTracker]
    split
    · exact ih
    · exact ih
  | endStepConditions l _ ih =>
    rw [State.endStepConditions, faults_setLaneFaults]
    split
    · next e =>
      subst e
      exact List.mem_map.2 ⟨f, ih, lasts⟩
    · exact ih

/-- R166, R167: the node of a pinsetter as its answer finds it. -/
def State.pinsetterBack (s : State) (l : LaneId) : State :=
  s.modNode (pairOf l) (pinsetterAddr (sideOf l)) fun n => { n with state := .alive, misses := 0 }

theorem pinsetter_pinsetterBack :
    (s.pinsetterBack l).pinsetter l = { s.pinsetter l with state := .alive, misses := 0 } :=
  node_modNode_self ..

/-- R167: a pinsetter that returns ends its fault and takes the command it is owed. -/
theorem nodeAnswers_returns (away : (s.pinsetter l).state ≠ .alive) :
    s.nodeAnswers (pairOf l) (pinsetterAddr (sideOf l)) =
      (((s.pinsetterBack l).laneConditionEnds l .machineNodeLost).placeOwed l).raiseNodeState (pairOf l)
        (some (pinsetterAddr (sideOf l))) := by
  have back : s.nodeAnswers (pairOf l) (pinsetterAddr (sideOf l)) =
      s.nodeReturns (pairOf l) (pinsetterAddr (sideOf l)) := if_neg away
  rw [back, State.nodeReturns]
  simp only [State.lossEnds, State.laneIoBack, roleOf_pinsetterAddr, laneAt_pairOf, placeOwedOf_pinsetter]
  rfl

/-- What the owed command, if there is one, makes of a lane in `s`, `t` being what comes of it. -/
structure OwedSettled (l : LaneId) (s t : State) : Prop where
  onPair : OnPair (pairOf l) s t
  decides : Decides (pairOf l) s t
  none_ : (s.pinsetter l).owed = none → t = s
  placed : ∀ k, (s.pinsetter l).owed = some k → OwedPlaced l k s t

theorem placeOwed_settled (alive : (s.pinsetter l).state = .alive)
    (takes : (s.pinsetter l).slot = none ∨ ∃ j c q u, (s.pinsetter l).slot = some ⟨.cycle j c, q, u⟩)
    (nothing : (s.pinsetter l).owed = none ∨ (s.supervisor l).record = none ∨ s.NothingHeld l) :
    OwedSettled l s (s.placeOwed l) := by
  cases owed : (s.pinsetter l).owed with
  | none =>
    rw [placeOwed_none owed]
    exact ⟨.refl _ s, .refl, fun _ => rfl, fun k h => by rw [owed] at h; cases h⟩
  | some k =>
    have placed := placeOwed_places owed alive takes (nothing.resolve_left (by rw [owed]; nofun))
    refine ⟨placed.onPair, placed.decides, ?_, fun j h => ?_⟩
    · intro h; rw [owed] at h; cases h
    · rw [owed] at h; cases h; exact placed

theorem CreditFollows.charges (h : CreditFollows p s t) : t.charges = s.charges := by rw [h.others]

namespace OwedSettled

theorem node (h : OwedSettled l s t) : (t.pinsetter l).state = (s.pinsetter l).state ∧
    (t.pinsetter l).misses = (s.pinsetter l).misses ∧ (t.pinsetter l).owed = none := by
  cases owed : (s.pinsetter l).owed with
  | none => rw [h.none_ owed]; exact ⟨rfl, rfl, owed⟩
  | some k => rw [(h.placed k owed).pinsetter]; exact ⟨rfl, rfl, rfl⟩

theorem watch (h : OwedSettled l s t) (idle : (s.supervisor l).record.bind (·.watch) = none) :
    (t.supervisor l).record.bind (·.watch) = none := by
  cases owed : (s.pinsetter l).owed with
  | none => rw [h.none_ owed]; exact idle
  | some k =>
    obtain ⟨-, -, -, -, -, watch⟩ := (h.placed k owed).shows
    exact watch

end OwedSettled

end

end Sys2Proof.Machine

open Sys2Proof Sys2Proof.Machine

/-- Settles O53: the placing where it is still to be done, and the return of a pinsetter, whose fault ends
before the owed command is placed. -/
theorem waitingCommandsArePlaced : Obligations.WaitingCommandsArePlaced := by
  unfold Obligations.WaitingCommandsArePlaced
  intro s stays
  refine ⟨fun p a => exec_slotCommandPlace_nothing stays,
    fun p e before after payload empty queue older => ?_, fun l owed => ?_,
    fun l k owed alive takes nothing => ?_, ?_⟩
  · have placed := placeDisplay_oldest empty queue older
    have onPair := (OnPair.refl p s).placeDisplay p e rfl
    exact exec_slotCommandPlace_empty empty ((slotEmptied_console e).trans placed)
      (placed ▸ onPair.noneLeaving stays)
  · exact exec_owedCommandPlace (placeOwed_none owed) stays
  · intro m
    have placed := placeOwed_places owed alive takes nothing
    obtain ⟨owes, cycle, superseded, machine, slot, -⟩ := placed.shows
    refine ⟨_, exec_owedCommandPlace rfl (placed.onPair.noneLeaving stays), placed.onPair, owes, cycle,
      fun r record => ?_, ?_, ?_⟩
    · rw [superseded, record]
    · rintro rfl; exact ⟨machine, slot⟩
    · rintro rfl; exact ⟨machine, slot⟩
  · intro l d p a v n lost polled away enabled owed watch takes nothing covered
    let back := s.pinsetterBack l
    let ended := back.laneConditionEnds l .machineNodeLost
    let placed := ended.placeOwed l
    let t := placed.raiseNodeState p (some a)
    have onPair_back : OnPair p s back := (OnPair.refl p s).modNode p a _ rfl
    obtain ⟨told, faults⟩ : LaneTold l back ended ∧ (ended.lane l).faults = conditionEnded _ _ :=
      LaneTold.laneConditionEnds (.inl owed)
    have node : ended.pinsetter l = { n with state := .alive, misses := 0 } :=
      (told.pinsetter l).trans pinsetter_pinsetterBack
    have supervisor : ended.supervisor l = v := told.supervisor l
    have settled : OwedSettled l ended placed := placeOwed_settled (by rw [node]) (by rw [node]; exact takes)
      (by rw [node, supervisor]
          exact nothing.imp_right (.imp_right fun h => told.nothingHeld (onPair_back.nothingHeld h)))
    have follows : CreditFollows p s t :=
      (onPair_back.creditFollows.trans told.creditFollows).trans
        (settled.onPair.raiseNodeState p (some a) rfl).creditFollows
    have watch_t : (t.supervisor l).record.bind (·.watch) = none :=
      settled.watch (by rw [supervisor]; exact watch)
    have resolved : (s.nodeAnswers p a).resolveCommand p ⟨a, none, d, false⟩ (commandResult 0#8) = t :=
      nodeAnswers_returns away
    have taken := takeAnswer_pinsetter resolved (by rw [follows.entry]; exact enabled) []
    rw [List.foldl_nil, examineWatch_none watch_t, settlePair_stays (follows.noneLeaving stays)] at taken
    have answered := exec_answerReceived polled rfl
      (readAnswer_pinsetter (sideOf l) (result := 0#8) (count := 0#8) (body := []) (by decide) rfl rfl) rfl
    rw [taken] at answered
    have told_t : (pairSource p, NoticeKind.nodeState) ∈ t.notices.map noticeKey :=
      mem_keys_addNotice (.inr rfl)
    have supervisor_t : t.supervisor l = placed.supervisor l := rfl
    have node_t : t.node p a = placed.pinsetter l := rfl
    have lane_t : t.lane l = placed.lane l := rfl
    replace faults : (ended.lane l).faults = conditionEnded .machineNodeLost (s.lane l).faults := faults
    clear_value t placed ended back
    have classes := settled.onPair.classes l
    obtain ⟨state, misses, owes⟩ := settled.node
    refine ⟨t, answered, ?_⟩
    rw [supervisor_t, node_t, lane_t, state, misses, classes, faults, node]
    refine ⟨rfl, rfl, owes, fun h => ?_, fun k h => ?_, fun none_ => ?_,
      fun before f after set is_lost only => ⟨fun mild => ?_, fun severe => ?_⟩, follows.lanes,
      follows.pairs, follows.entry, follows.charges, follows.used, exists_of_key told_t⟩
    · rw [settled.none_ (by rw [node]; exact h)]
      exact ⟨supervisor, by rw [node]⟩
    · obtain ⟨-, cycle, superseded, machine, slot, -⟩ := (settled.placed k (by rw [node]; exact h)).shows
      rw [supervisor] at cycle superseded slot
      rw [node] at slot
      exact ⟨cycle, machine, superseded, slot⟩
    · rw [conditionEnded_absent none_]
    · rw [set, conditionEnded_mild is_lost only mild]
    · have kept : endStepCondition { f with present := false, latched := true } =
          { f with present := false, latched := true } :=
        if_neg (by rw [show f.cls = .machineNodeLost from is_lost]; decide)
      refine settled.decides.mem_faults (k := l) kept ?_
      rw [faults, set, conditionEnded_severe is_lost only severe]
      exact List.mem_append_right _ List.mem_cons_self

end

section
/-! SUPPORT. RESTART_PAIR_LINK (O29): the link emptied, then the lanes told that their nodes are no longer
LOST, then the filter and the jam watch without a lane I/O node. -/

namespace Sys2Proof.Machine

open Sys2Proof

section
variable {s t u : State} {p : PairId}

/-! ## The lane I/O node away (R64, R131) -/

/-- R128, R131: the jam watch of a return whose lane I/O node is away. -/
def awayWatch (r : BallReturn) : JamWatch :=
  if r.watchExpired = true then .stopped
  else match r.watch with
    | .stopped => .stopped
    | _ => .suspended

theorem decideWatch_away (away : (s.node p laneIoAddr).state ≠ .alive) :
    s.decideWatch p false = s.modReturn p fun r => { r with watch := awayWatch r } := by
  have silent : ((s.node p laneIoAddr).state == .alive) = false := beq_eq_false_iff_ne.2 away
  have paused : ∀ w, pausedWatch w = match w with
    | .stopped => .stopped
    | _ => .suspended := fun w => by cases w <;> rfl
  simp only [State.decideWatch, State.jamWatchMayRun, silent, Bool.and_false, Bool.false_and, nextWatch,
    Bool.false_eq_true, if_false, paused]
  rfl

/-! ## The readers (R80) -/

/-- R173, step 2: the tracker of a lane whose reader's node loses what is in its slot. -/
def restartTracker (n : Node) (k : Tracker) : Tracker :=
  match n.slot with
  | some ⟨.setCount _, _, _⟩ => { k with resync := .lost, countWaiting := false }
  | _ => k

theorem restartTracker_setCount {n : Node} {c : Stamp} {q : Serial} {w : Option Nat}
    (slot : n.slot = some ⟨.setCount c, q, w⟩) (k : Tracker) :
    restartTracker n k = { k with resync := .lost, countWaiting := false } := by
  simp only [restartTracker, slot]

theorem restartTracker_other {n : Node} (other : ∀ c q w, n.slot ≠ some ⟨.setCount c, q, w⟩) (k : Tracker) :
    restartTracker n k = k := by
  unfold restartTracker
  split
  · next slot => exact absurd slot (other _ _ _)
  · rfl

theorem restartReader_eq (l : LaneId) : s.restartReader l = s.modTracker l (restartTracker (s.reader l)) := by
  unfold State.restartReader
  split
  · next slot => exact (modTracker_congr s l (restartTracker_setCount slot _)).symm
  · next other =>
    exact (modTracker_tracker s l).symm.trans
      (modTracker_congr s l (restartTracker_other (fun c q w h => other c q w h) _).symm)

/-! ## The link emptied (R173, steps 1, 2, 4 and 5) -/

/-- R173: the state once the link is emptied, before the lanes are told. -/
def State.linkEmptied (s : State) (p : PairId) : State :=
  ((((((s.restartReader (laneAt p .left)).restartReader (laneAt p .right)).discardDisplay p
    .left).discardDisplay p .right).modPoller p restartPoller).restartSupervisor
      (laneAt p .left)).restartSupervisor (laneAt p .right)

theorem restartLink_eq : s.restartLink p =
    ((((((s.linkEmptied p).restartConditions (laneAt p .left)).restartConditions
      (laneAt p .right)).filterLost p).decideWatch p false).raiseNodeState p none) := rfl

/-- R173: what emptying the link leaves. -/
structure LinkEmptied (p : PairId) (s t : State) : Prop where
  others : t = { s with lanes := t.lanes, pairs := t.pairs }
  lane : ∀ d, t.lane (laneAt p d) = { s.lane (laneAt p d) with
    tracker := restartTracker (s.reader (laneAt p d)) (s.tracker (laneAt p d))
    supervisor := { s.supervisor (laneAt p d) with awaiting := none } }
  elsewhere : ∀ k, pairOf k ≠ p → t.lane k = s.lane k
  pairs : ∀ q, q ≠ p → t.pair q = s.pair q
  node : ∀ a, ∃ n : Node, n.nextSerial = (s.node p a).nextSerial ∧ t.node p a = restartNode n
  poller : ∃ nodes, t.poller p = { s.poller p with
    order := (s.poller p).pendingOrder.getD (s.poller p).order, pendingOrder := none
    current := 0, queue := [], nodes := nodes
    poll := (s.poller p).poll.map fun x => { x with abandoned := true } }
  filter : t.filter p = s.filter p
  ballReturn : t.ballReturn p = s.ballReturn p
  faults : (t.pair p).faults = (s.pair p).faults

theorem ConsoleLost.nextSerial {d : Side} {b : Bool} (h : ConsoleLost p d b s t) (a : NodeAddr) :
    (t.node p a).nextSerial = (s.node p a).nextSerial := by
  by_cases e : a = consoleAddr d
  · rw [e, h.console]
    split <;> rfl
  · rw [h.nodes a e]

theorem node_restartPoller (a : NodeAddr) :
    (s.modPoller p restartPoller).node p a = restartNode (s.node p a) := by
  rw [State.node, poller_modPoller_self]
  exact Vector.getElem_map ..

/-- Both trackers of a pair changed. -/
theorem lane_modTrackers (f : Side → Tracker → Tracker) :
    let t := (s.modTracker (laneAt p .left) (f .left)).modTracker (laneAt p .right) (f .right)
    (∀ d, t.lane (laneAt p d) =
      { s.lane (laneAt p d) with tracker := f d (s.tracker (laneAt p d)) }) ∧
    ∀ k, pairOf k ≠ p → t.lane k = s.lane k := by
  refine ⟨fun d => ?_, fun k hk => ?_⟩
  · cases d <;> simp [lane_modTracker, tracker_modTracker]
  · have other : ∀ d, k ≠ laneAt p d := fun d e => hk (e ▸ pairOf_laneAt p d)
    rw [lane_modTracker, if_neg (other _), lane_modTracker, if_neg (other _)]

/-- Both supervisors of a pair changed. -/
theorem lane_modSupervisors (f : Supervisor → Supervisor) :
    let t := (s.modSupervisor (laneAt p .left) f).modSupervisor (laneAt p .right) f
    (∀ d, t.lane (laneAt p d) =
      { s.lane (laneAt p d) with supervisor := f (s.supervisor (laneAt p d)) }) ∧
    ∀ k, pairOf k ≠ p → t.lane k = s.lane k := by
  refine ⟨fun d => ?_, fun k hk => ?_⟩
  · cases d <;> simp [lane_modSupervisor, supervisor_modSupervisor]
  · have other : ∀ d, k ≠ laneAt p d := fun d e => hk (e ▸ pairOf_laneAt p d)
    rw [lane_modSupervisor, if_neg (other _), lane_modSupervisor, if_neg (other _)]

theorem restartReaders_eq :
    (s.restartReader (laneAt p .left)).restartReader (laneAt p .right) =
      (s.modTracker (laneAt p .left) (restartTracker (s.reader (laneAt p .left)))).modTracker
        (laneAt p .right) (restartTracker (s.reader (laneAt p .right))) := by
  rw [restartReader_eq (s := s), restartReader_eq]
  rfl

/-- R172, R173: the poller and its nodes, with both consoles' frames discarded. -/
structure PollerEmptied (p : PairId) (s t : State) : Prop where
  alone : PairAlone p s t
  node : ∀ a, ∃ n : Node, n.nextSerial = (s.node p a).nextSerial ∧ t.node p a = restartNode n
  poller : ∃ nodes, t.poller p = { s.poller p with
    order := (s.poller p).pendingOrder.getD (s.poller p).order, pendingOrder := none
    current := 0, queue := [], nodes := nodes
    poll := (s.poller p).poll.map fun x => { x with abandoned := true } }
  filter : t.filter p = s.filter p
  ballReturn : t.ballReturn p = s.ballReturn p
  faults : (t.pair p).faults = (s.pair p).faults

theorem pollerEmptied_empties : PollerEmptied p s
    (((s.discardDisplay p .left).discardDisplay p .right).modPoller p restartPoller) := by
  have left := consoleLost_discardDisplay s p .left
  have right := consoleLost_discardDisplay (s.discardDisplay p .left) p .right
  generalize (s.discardDisplay p .left).discardDisplay p .right = w at right
  generalize s.discardDisplay p .left = v at left right
  constructor
  case alone => exact (left.alone.trans right.alone).trans (pairAlone_modPoller ..)
  case node =>
    exact fun a => ⟨w.node p a, (right.nextSerial a).trans (left.nextSerial a), node_restartPoller a⟩
  case poller =>
    refine ⟨(w.poller p).nodes.map restartNode, ?_⟩
    rw [poller_modPoller_self, right.poller, left.poller]
    rfl
  case filter => exact (filter_modPoller ..).trans (right.filter.trans left.filter)
  case ballReturn => exact (ballReturn_modPoller ..).trans (right.ballReturn.trans left.ballReturn)
  case faults =>
    refine Eq.trans ?_ (right.faults.trans left.faults)
    rw [State.modPoller, pair_setPair_self]

theorem linkEmptied_empties : LinkEmptied p s (s.linkEmptied p) := by
  obtain ⟨tracked, untracked⟩ :=
    lane_modTrackers (s := s) (p := p) fun d => restartTracker (s.reader (laneAt p d))
  dsimp only at tracked untracked
  rw [← restartReaders_eq] at tracked untracked
  have pairs_v : ((s.restartReader (laneAt p .left)).restartReader (laneAt p .right)) =
      { s with lanes := ((s.restartReader (laneAt p .left)).restartReader (laneAt p .right)).lanes } := by
    rw [restartReaders_eq]
    rfl
  unfold State.linkEmptied
  generalize (s.restartReader (laneAt p .left)).restartReader (laneAt p .right) = v at *
  have emptied := pollerEmptied_empties (s := v) (p := p)
  generalize ((v.discardDisplay p .left).discardDisplay p .right).modPoller p restartPoller = x at *
  obtain ⟨waiting, elsewhere⟩ := lane_modSupervisors (s := x) (p := p) fun w => { w with awaiting := none }
  have pair_v : ∀ q, v.pair q = s.pair q := fun q => by rw [pairs_v]; rfl
  have lane_x : ∀ k, x.lane k = v.lane k := fun k => by rw [emptied.alone.others]; rfl
  have poller_v : v.poller p = s.poller p := congrArg Pair.poller (pair_v p)
  have node_v : ∀ a, v.node p a = s.node p a := fun a => by simp only [State.node, poller_v]
  obtain ⟨alone, node, poller, filter, ballReturn, faults⟩ := emptied
  simp only [node_v, poller_v] at node poller
  refine ⟨?_, fun d => ?_, fun k hk => ?_, fun q hq => (alone.pairs q hq).trans (pair_v q), node, poller,
    filter.trans (congrArg Pair.filter (pair_v p)), ballReturn.trans (congrArg Pair.ballReturn (pair_v p)),
    faults.trans (congrArg Pair.faults (pair_v p))⟩
  · have here : PairAlone p s s := ⟨rfl, fun _ _ => rfl⟩
    rw [here.lanes_pairs pairs_v alone]
    rfl
  · refine (waiting d).trans ?_
    rw [State.supervisor, lane_x, tracked]
    rfl
  · exact (elsewhere k hk).trans ((lane_x k).trans (untracked k hk))

theorem LinkEmptied.entry_meter (h : LinkEmptied p s t) (k : LaneId) :
    t.entry k = s.entry k ∧ t.meter k = s.meter k := by
  by_cases e : pairOf k = p
  · have lane := h.lane (sideOf k)
    rw [← e, laneAt_pairOf] at lane
    rw [State.entry, State.meter, lane]
    exact ⟨rfl, rfl⟩
  · exact ⟨congrArg Lane.entry (h.elsewhere k e), congrArg Lane.meter (h.elsewhere k e)⟩

/-! ## The lanes told (R113, R114) -/

/-- Both lanes of pair `p` told of their faults, with nothing to carry out. -/
structure LanesTold (p : PairId) (s t : State) : Prop where
  others : t = { s with lanes := t.lanes, sessions := t.sessions, notices := t.notices }
  elsewhere : ∀ k, pairOf k ≠ p → t.lane k = s.lane k
  lane : ∀ k, ∃ play foul, t.lane k = { s.lane k with
    tracker := { s.tracker k with play := play, foulPending := foul }, faults := (t.lane k).faults }
  free : ∀ i, s.session i = none → t.session i = none
  used : ∀ i x, s.session i = some x → ∃ b, t.session i = some (billedAs b x)
  unheld : (∀ d, (s.entry (laneAt p d)).holder = none) → t.sessions = s.sessions

theorem LaneTold.lane_any {l : LaneId} (h : LaneTold l s t) (k : LaneId) :
    ∃ play foul, t.lane k = { s.lane k with
      tracker := { s.tracker k with play := play, foulPending := foul }, faults := (t.lane k).faults } := by
  by_cases e : k = l
  · exact e ▸ h.lane
  · exact ⟨(s.tracker k).play, (s.tracker k).foulPending, by rw [h.elsewhere k e]; rfl⟩

theorem LaneTold.both (left : LaneTold (laneAt p .left) s t) (right : LaneTold (laneAt p .right) t u) :
    LanesTold p s u where
  others := by rw [right.others, left.others]
  elsewhere := fun k hk => by
    have other : ∀ d, k ≠ laneAt p d := fun d e => hk (e ▸ pairOf_laneAt p d)
    exact (right.elsewhere k (other _)).trans (left.elsewhere k (other _))
  lane := fun k => by
    obtain ⟨_, _, first⟩ := left.lane_any k
    obtain ⟨play, foul, second⟩ := right.lane_any k
    exact ⟨play, foul, by rw [second, State.tracker, first]⟩
  free := fun i hi => right.free i (left.free i hi)
  used := fun i x hx => by
    obtain ⟨b, first⟩ := left.used i x hx
    obtain ⟨c, second⟩ := right.used i _ first
    exact ⟨c, second⟩
  unheld := fun none_ => (right.unheld (by rw [left.entry]; exact none_ .right)).trans
    (left.unheld (none_ .left))

theorem LanesTold.pair (h : LanesTold p s t) (q : PairId) : t.pair q = s.pair q := by
  rw [h.others]; rfl

/-- The machine of a lane at rest runs no owed cycle. -/
theorem runsNothing_atRest (rest : s.pairAtRest p = true) (d : Side) :
    RunsNothing (s.supervisor (laneAt p d)) := by
  have parked : offOrParked (s.supervisor (laneAt p d)).machine = true := by
    rw [State.pairAtRest, List.all_eq_true] at rest
    have at_d := rest (laneAt p d) (by cases d <;> simp)
    rw [Bool.and_eq_true] at at_d
    exact at_d.2
  exact .inr fun ready => by rw [ready] at parked; cases parked

theorem LaneTold.restartConditions {l : LaneId} (h : RunsNothing (s.supervisor l)) :
    LaneTold l s (s.restartConditions l) := by
  have machine := (LaneTold.laneConditionEnds (c := .machineNodeLost) h).1
  unfold State.restartConditions State.sensorConditionEnds
  split
  · exact machine
  · exact machine.trans (LaneTold.laneConditionEnds (by rw [machine.supervisor]; exact h)).1

/-- R64, R131: what the loss of the lane I/O node leaves of the pair. -/
structure LaneIoGone (p : PairId) (s t : State) : Prop where
  alone : PairAlone p s t
  poller : t.poller p = s.poller p
  filter : t.filter p = { s.filter p with initialised := false }
  ballReturn : t.ballReturn p = { s.ballReturn p with watch := awayWatch (s.ballReturn p) }
  faults : (t.pair p).faults = (s.pair p).faults

theorem laneIoGone_leaves (away : (s.node p laneIoAddr).state ≠ .alive) :
    LaneIoGone p s ((s.filterLost p).decideWatch p false) := by
  have node : (s.filterLost p).node p laneIoAddr = s.node p laneIoAddr := by
    simp only [State.node, State.filterLost, poller_modFilter]
  rw [decideWatch_away (by rw [node]; exact away)]
  unfold State.filterLost
  constructor
  case alone => exact (pairAlone_modFilter ..).trans (pairAlone_setPair ..)
  case poller => rw [poller_modReturn, poller_modFilter]
  case filter => rw [filter_modReturn, filter_modFilter, if_pos rfl]
  case ballReturn => rw [ballReturn_modReturn, if_pos rfl, ballReturn_modFilter]
  case faults => rw [State.modReturn, pair_setPair_self, State.modFilter, pair_setPair_self]

end

end Sys2Proof.Machine

open Sys2Proof Sys2Proof.Machine

/-- Settles O29: the stages of a restart, one after another. -/
theorem restartPairLinkEmptiesLink : Obligations.RestartPairLinkEmptiesLink := by
  unfold Obligations.RestartPairLinkEmptiesLink
  intro s tag n p trunk hp
  refine ⟨fun busy => ?_, fun rest => ?_⟩
  · refine exec_of_act rfl trunk (?_ : reqRestartPairLink n s = _) rfl
    simp only [reqRestartPairLink, hp, busy, Bool.false_eq_true, if_false, refuse]
  have accepted : reqRestartPairLink n s = (s.restartLink p, accept) := by
    simp only [reqRestartPairLink, hp, rest, if_true]
  have idle := runsNothing_atRest rest
  obtain ⟨others, lane, elsewhere, pairs, node, poller, filter, ballReturn, faults⟩ :=
    linkEmptied_empties (s := s) (p := p)
  have stands := linkEmptied_empties.entry_meter (s := s) (p := p)
  rw [restartLink_eq] at accepted
  generalize s.linkEmptied p = x at *
  have idle_x : ∀ d, RunsNothing (x.supervisor (laneAt p d)) := fun d => by
    rw [State.supervisor, lane]
    exact idle d
  have left : LaneTold (laneAt p .left) x _ := LaneTold.restartConditions (idle_x .left)
  have told : LanesTold p x _ := left.both
    (LaneTold.restartConditions (by rw [left.supervisor]; exact idle_x .right))
  clear left
  generalize (x.restartConditions (laneAt p .left)).restartConditions (laneAt p .right) = z at *
  have poller_z : z.poller p = x.poller p := congrArg Pair.poller (told.pair p)
  have away : (z.node p laneIoAddr).state ≠ .alive := by
    obtain ⟨_, _, restarted⟩ := node laneIoAddr
    rw [State.node, poller_z]
    exact fun alive => nomatch (congrArg Node.state restarted).symm.trans alive
  have gone := laneIoGone_leaves away
  generalize (z.filterLost p).decideWatch p false = w at *
  have others_w : w = { s with
      lanes := w.lanes, pairs := w.pairs, sessions := w.sessions, notices := w.notices } := by
    rw [gone.alone.others, told.others, others]
  have lane_w : ∀ k, w.lane k = z.lane k := fun k => by rw [gone.alone.others]; rfl
  have sessions_w : w.sessions = z.sessions := by rw [gone.alone.others]
  have session_w : ∀ i, w.session i = z.session i := fun i => by simp only [State.session, sessions_w]
  have session_x : ∀ i, x.session i = s.session i := fun i => by rw [others]; rfl
  have free : ∀ i, s.session i = none → w.session i = none := fun i hi =>
    (session_w i).trans (told.free i ((session_x i).trans hi))
  have used : ∀ i v, s.session i = some v → ∃ b, w.session i = some (billedAs b v) := fun i v hv => by
    rw [session_w]
    exact told.used i v ((session_x i).trans hv)
  refine ⟨w.raiseNodeState p none, exec_of_act rfl trunk accepted (by rw [others_w]; rfl), fun a => ?_, ?_,
    gone.filter.trans ?_, gone.ballReturn.trans ?_, gone.faults.trans ?_, fun d => ?_, fun q hq => ?_,
    fun k hk => ?_, fun k => ?_, fun i => ?_, used, fun none_ => ?_, fun d c q v slot => ?_, ?_⟩
  · obtain ⟨n, serial, restarted⟩ := node a
    have node_w : w.node p a = restartNode n := by
      rw [State.node, gone.poller, poller_z]
      exact restarted
    show (w.node p a).state = _ ∧ (w.node p a).misses = _ ∧ (w.node p a).slot = _ ∧ (w.node p a).owed = _ ∧
      (w.node p a).nextSerial = _
    rw [node_w]
    exact ⟨rfl, rfl, rfl, rfl, serial⟩
  · obtain ⟨nodes, emptied⟩ := poller
    exact ⟨nodes, gone.poller.trans (poller_z.trans emptied)⟩
  · rw [show z.filter p = s.filter p from (congrArg Pair.filter (told.pair p)).trans filter]
  · rw [show z.ballReturn p = s.ballReturn p from (congrArg Pair.ballReturn (told.pair p)).trans ballReturn]
    rfl
  · rw [told.pair, faults]
  · obtain ⟨_, _, lane_z⟩ := told.lane (laneAt p d)
    show (w.lane _).supervisor = _
    rw [lane_w, lane_z, lane]
  · exact (gone.alone.pairs q hq).trans ((told.pair q).trans (pairs q hq))
  · exact (lane_w k).trans ((told.elsewhere k hk).trans (elsewhere k hk))
  · obtain ⟨_, _, lane_z⟩ := told.lane k
    obtain ⟨entry, meter⟩ := stands k
    show (w.lane k).entry = _ ∧ (w.lane k).meter = _
    rw [lane_w, lane_z]
    exact ⟨entry, meter⟩
  · show (w.session i).isSome = _
    cases h : s.session i with
    | none => rw [free i h]
    | some v =>
      obtain ⟨b, e⟩ := used i v h
      rw [e]
      rfl
  · refine sessions_w.trans ((told.unheld fun d => ?_).trans (by rw [others]))
    rw [(stands _).1]
    exact none_ d
  · obtain ⟨_, _, lane_z⟩ := told.lane (laneAt p d)
    show (w.lane _).tracker.resync = _ ∧ (w.lane _).tracker.countWaiting = _
    rw [lane_w, lane_z, State.tracker, lane]
    rw [restartTracker_setCount slot]
    exact ⟨rfl, rfl⟩
  · show w.raiseNodeState p none = _
    rw [others_w]
    rfl

end

section
/-! SUPPORT. The answer timeout (O52): a poll that is missed, the node that it loses, and the command that is
dropped. -/

namespace Sys2Proof.Machine

open Sys2Proof

section
variable {s t : State} {p : PairId}

/-! ## A poll missed (R165, R166) -/

/-- R165: the answer timeout of a poll that waits, `w` being what the miss and the resolution of the command
leave. -/
theorem exec_answerTimeout {a : NodeAddr} {carried : Option (Command × Serial)} {d : Nat} {w : State}
    (polled : (s.poller p).poll = some ⟨a, carried, d, false⟩)
    (resolved : ((s.passTo d).miss p a).resolveCommand p ⟨a, carried, d, false⟩ .none = w)
    (examined : w.examineAt p a = w) (stays : w.NoneLeaving) :
    exec (.answerTimeout p) s = .next (w.nextPoll p).settleTrunk := by
  show State.done ((s.ensurePoll p).linkTimeout p) = _
  simp only [ensurePoll_waits polled, State.linkTimeout, polled, State.timeoutPoll, Bool.false_eq_true,
    if_false, State.pollMissed, resolved, examined, settlePair_stays stays]
  rfl

theorem examineAt_none {a : NodeAddr}
    (h : ∀ e, roleOf a = .pinsetter e → (s.supervisor (laneAt p e)).record.bind (·.watch) = none) :
    s.examineAt p a = s := by
  unfold State.examineAt
  split
  · next e role => exact examineWatch_none (h e role)
  · rfl
  · rfl
  · rfl

/-- A node changed is a node replaced. -/
theorem modNode_const (a : NodeAddr) (f : Node → Node) :
    s.modNode p a f = s.modNode p a fun _ => f (s.node p a) := rfl

/-- R166: a miss below the lost threshold is counted. -/
theorem miss_below {a : NodeAddr} (below : min 255 ((s.node p a).misses + 1) < (s.poller p).threshold) :
    s.miss p a = s.modNode p a countMiss := by
  have few : ¬ (s.poller p).threshold ≤ ((s.modNode p a countMiss).node p a).misses := by
    rw [node_modNode_self]
    exact Nat.not_le.2 below
  exact if_neg fun c => few c.1

/-- R166: the node that a miss at the lost threshold loses, counted and LOST. -/
def lostNode (n : Node) : Node := { countMiss n with state := .lost }

/-- R166: an ALIVE node at the threshold becomes LOST. -/
theorem miss_loses {a : NodeAddr} (alive : (s.node p a).state = .alive)
    (reached : (s.poller p).threshold ≤ min 255 ((s.node p a).misses + 1)) :
    s.miss p a = ((((s.modNode p a lostNode).slotAtLoss p a).raiseLoss p a).laneIoAway p a).raiseNodeState p
      (some a) := by
  have state : ((s.modNode p a countMiss).node p a).state = .alive := by
    rw [node_modNode_self]
    exact alive
  have many : (s.poller p).threshold ≤ ((s.modNode p a countMiss).node p a).misses := by
    rw [node_modNode_self]
    exact reached
  have lost : s.miss p a = (s.modNode p a countMiss).nodeLost p a :=
    if_pos ⟨many, by rw [state]; rfl⟩
  rw [lost, State.nodeLost, modNode_modNode]
  rfl

/-- R174: NODE_STATE is pending. -/
theorem told_raiseNodeState (a : Option NodeAddr) :
    ∃ x ∈ (s.raiseNodeState p a).notices, x.source = pairSource p ∧ payloadKind x.payload = .nodeState :=
  exists_of_key (mem_keys_addNotice (.inr rfl))

/-! ## A console lost (R166, R172) -/

theorem miss_losesConsole {e : Side} (alive : (s.node p (consoleAddr e)).state = .alive)
    (reached : (s.poller p).threshold ≤ min 255 ((s.node p (consoleAddr e)).misses + 1)) :
    s.miss p (consoleAddr e) =
      ((s.modNode p (consoleAddr e) lostNode).discardDisplay p e).raiseNodeState p
        (some (consoleAddr e)) := by
  rw [miss_loses alive reached]
  simp only [State.slotAtLoss, State.raiseLoss, State.laneIoAway, roleOf_consoleAddr, ite_self]

/-! ## A pinsetter lost (R166) -/

theorem miss_losesPinsetter {e : Side} (alive : (s.node p (pinsetterAddr e)).state = .alive)
    (reached : (s.poller p).threshold ≤ min 255 ((s.node p (pinsetterAddr e)).misses + 1))
    (enabled : (s.entry (laneAt p e)).enabled = true) :
    s.miss p (pinsetterAddr e) =
      ((s.modNode p (pinsetterAddr e) lostNode).raiseLane (laneAt p e) .machineNodeLost).raiseNodeState p
        (some (pinsetterAddr e)) := by
  have required : (s.modNode p (pinsetterAddr e) lostNode).required p (pinsetterAddr e) = true := by
    simp only [State.required, roleOf_pinsetterAddr, entry_modNode, enabled]
  rw [miss_loses alive reached]
  simp only [State.slotAtLoss, State.raiseLoss, State.laneIoAway, roleOf_pinsetterAddr, required, if_true]

/-! ## A reader lost (R80, R166) -/

/-- R168: what a reader's slot keeps when its node becomes LOST. -/
def keptAtLoss (n : Node) : Node :=
  match n.slot with
  | some ⟨.setCount _, _, _⟩ => { n with slot := none }
  | _ => n

theorem keptAtLoss_setCount {n : Node} {c : Stamp} {q : Serial} {w : Option Nat}
    (slot : n.slot = some ⟨.setCount c, q, w⟩) : keptAtLoss n = { n with slot := none } := by
  simp only [keptAtLoss, slot]

theorem keptAtLoss_other {n : Node} (other : ∀ c q w, n.slot ≠ some ⟨.setCount c, q, w⟩) :
    keptAtLoss n = n := by
  unfold keptAtLoss
  split
  · next slot => exact absurd slot (other _ _ _)
  · rfl

theorem setPair_pair : s.setPair p (s.pair p) = s := by
  simp only [State.setPair, State.pair, Fin.getElem_fin, Vector.set_getElem_self]

theorem pitCount_restartTracker (n : Node) (k : Tracker) : (restartTracker n k).pitCount = k.pitCount := by
  unfold restartTracker
  split <;> rfl

theorem modNode_node (a : NodeAddr) : (s.modNode p a fun _ => s.node p a) = s := by
  have same : (s.poller p).nodes.set a (s.node p a) = (s.poller p).nodes := Vector.set_getElem_self ..
  rw [State.modNode, State.modPoller]
  dsimp only
  rw [same]
  exact setPair_pair

/-- R166, R168: the slot of a reader that has become LOST, with no READ that waits for it. -/
theorem slotAtLoss_reader {e : Side} (noRead : (s.tracker (laneAt p e)).readWaiting = false) :
    s.slotAtLoss p (readerAddr e) = (s.modNode p (readerAddr e) keptAtLoss).modTracker (laneAt p e)
      (restartTracker (s.node p (readerAddr e))) := by
  unfold State.slotAtLoss
  rw [roleOf_readerAddr]
  dsimp only
  split
  · next c q w slot =>
    let u := s.clearSlot p (readerAddr e)
    have tracker : (u.resyncDiscarded (laneAt p e)).tracker (laneAt p e) =
        { s.tracker (laneAt p e) with resync := .lost, countWaiting := false } :=
      tracker_modTracker_self ..
    have count := placeWaitingCount_none (s := u.resyncDiscarded (laneAt p e)) (l := laneAt p e)
      (by rw [tracker])
    have read := placeWaitingRead_none (s := u.resyncDiscarded (laneAt p e)) (l := laneAt p e)
      (by rw [tracker]; exact noRead)
    have emptied : (u.resyncDiscarded (laneAt p e)).slotEmptied p (readerAddr e) =
        u.resyncDiscarded (laneAt p e) := by
      simp only [State.slotEmptied, roleOf_readerAddr, count, read]
    rw [emptied, modNode_const (f := keptAtLoss), keptAtLoss_setCount slot]
    exact (modTracker_congr _ _ (restartTracker_setCount slot _)).symm
  · next other =>
    have kept : s.modNode p (readerAddr e) keptAtLoss = s := by
      rw [modNode_const, keptAtLoss_other fun c q w h => other c q w h, modNode_node]
    rw [kept]
    exact (modTracker_tracker s (laneAt p e)).symm.trans
      (modTracker_congr _ _ (restartTracker_other (fun c q w h => other c q w h) _).symm)

theorem miss_losesReader {e : Side} (alive : (s.node p (readerAddr e)).state = .alive)
    (reached : (s.poller p).threshold ≤ min 255 ((s.node p (readerAddr e)).misses + 1))
    (enabled : (s.entry (laneAt p e)).enabled = true)
    (noRead : (s.tracker (laneAt p e)).readWaiting = false) :
    let n := s.node p (readerAddr e)
    s.miss p (readerAddr e) =
      (((s.modNode p (readerAddr e) fun n => keptAtLoss (lostNode n)).modTracker (laneAt p e)
        (restartTracker n)).raiseLane (laneAt p e) .sensorNodeLost).raiseNodeState p
          (some (readerAddr e)) := by
  intro n
  let u := s.modNode p (readerAddr e) lostNode
  have slot : u.slotAtLoss p (readerAddr e) =
      (s.modNode p (readerAddr e) fun n => keptAtLoss (lostNode n)).modTracker (laneAt p e)
        (restartTracker n) := by
    rw [slotAtLoss_reader (s := u) noRead, modNode_modNode, node_modNode_self]
    rfl
  rw [miss_loses alive reached, show State.slotAtLoss _ _ _ = _ from slot]
  simp only [State.required, State.raiseLoss, State.laneIoAway, roleOf_readerAddr, entry_modTracker,
    entry_modNode, enabled, if_true]

/-! ## The lane I/O node lost (R131, R166) -/

theorem miss_losesLaneIo (alive : (s.node p laneIoAddr).state = .alive)
    (reached : (s.poller p).threshold ≤ min 255 ((s.node p laneIoAddr).misses + 1))
    (enabled : ∃ e, (s.entry (laneAt p e)).enabled = true) :
    s.miss p laneIoAddr =
      ((((((s.modNode p laneIoAddr fun n => { lostNode n with slot := none }).raiseLane (laneAt p .left)
        .sensorNodeLost).raiseLane (laneAt p .right) .sensorNodeLost).filterLost p).decideWatch p
          false).raiseNodeState p (some laneIoAddr)) := by
  let u := s.modNode p laneIoAddr fun n => { lostNode n with slot := none }
  have required : u.required p laneIoAddr = true := by
    show ((s.entry _).enabled || (s.entry _).enabled) = true
    obtain ⟨e, h⟩ := enabled
    cases e
    · rw [h, Bool.true_or]
    · rw [h, Bool.or_true]
  have slot : (s.modNode p laneIoAddr lostNode).slotAtLoss p laneIoAddr = u := by
    show (s.modNode p laneIoAddr lostNode).clearSlot p laneIoAddr = u
    exact modNode_modNode ..
  have raised : u.raiseLoss p laneIoAddr = _ := if_pos required
  rw [miss_loses alive reached, slot, raised]
  rfl

/-! ## A command dropped (R88, R169) -/

/-- R169: the node whose command is dropped. -/
def droppedNode (n : Node) : Node :=
  { n with slot := none, commandsDropped := bump n.commandsDropped }

/-- R169: a command that is still in the slot after its third try is dropped. -/
theorem resolveCommand_drops {a : NodeAddr} {c : Command} {q : Serial} {k d : Nat}
    (slot : (s.node p a).slot = some ⟨c, q, some k⟩) (spent : 3 ≤ k) :
    s.resolveCommand p ⟨a, some (c, q), d, false⟩ .none =
      ((s.modNode p a droppedNode).droppedCommand p a c).slotEmptied p a := by
  have still : stillInSlot (s.node p a) c q = true := stillInSlot_iff.2 ⟨k, slot⟩
  have tried : triesSpent (s.node p a) = true := by
    simp only [triesSpent, slot, Option.any_some, Option.getD_some, decide_eq_true_iff]
    exact spent
  simp only [State.resolveCommand, still, if_true, State.unacknowledged, tried]
  rfl

section
variable {l : LaneId}

theorem faults_modSupervisor (f : Supervisor → Supervisor) :
    ((s.modSupervisor l f).lane l).faults = (s.lane l).faults := by
  rw [lane_modSupervisor, if_pos rfl]

theorem faults_discardOwed : ((s.discardOwed l).lane l).faults = (s.lane l).faults := by
  unfold State.discardOwed
  split
  · rfl
  · rw [lane_raiseMachineState, faults_modSupervisor]
  · rw [lane_raiseMachineState, faults_modSupervisor]

/-- R87, R113: the faults of a lane once the sequence in progress, if any, has ended unfinished. -/
theorem faults_endUnfinished : ((s.endUnfinished l).lane l).faults =
    if (s.supervisor l).record.isSome then (s.lane l).faults.map endStepCondition
    else (s.lane l).faults := by
  unfold State.endUnfinished
  split
  · next record => rw [record]; rfl
  · next r record =>
    rw [record, State.endStepConditions, faults_setLaneFaults, if_pos rfl, faults_modSupervisor]
    rfl

/-- R94, R95: the faults of a lane once a HALT or PARK has been placed. -/
theorem faults_placeStop {k : StopKind} (present : (s.pinsetter l).state ≠ .lost)
    (owed : (s.pinsetter l).owed = none)
    (takes : (s.pinsetter l).slot = none ∨ ∃ j c q u, (s.pinsetter l).slot = some ⟨.cycle j c, q, u⟩) :
    ((s.placeStop l k).lane l).faults = if (s.supervisor l).record.isSome
      then (s.lane l).faults.map endStepCondition else (s.lane l).faults := by
  have free : ¬ ((s.pinsetter l).state = .lost ∨ (s.pinsetter l).owed.isSome = true) := by
    simp [present, owed]
  rw [State.placeStop, if_neg free, if_pos (slotTakes_stop.2 takes)]
  dsimp only
  rw [faults_discardOwed, faults_beginSequence, faults_modSupervisor, faults_endUnfinished]

/-- R87: the end of a superseded sequence on a lane whose machine is stopping, with nothing held back or
deferred, leaves the arming check. -/
theorem supersededReleases_stopping (stops : Stopping (s.supervisor l)) (nothing : s.NothingHeld l)
    (deferred : (s.supervisor l).deferredNeed = none) :
    s.supersededReleases l = s.armingCheck l := by
  rw [supersededReleases_nothing nothing deferred,
    StaysStopping.followPark (by rw [supervisor_armingCheck]; exact stops)]

/-- R88: what a lane is left with when the CYCLE of its sequence has been dropped, before COMMAND_LOST is
raised. -/
structure CycleDropped (l : LaneId) (m : CycleNo) (s t : State) : Prop where
  onPair : OnPair (pairOf l) s t
  supervisor : t.supervisor l = { s.supervisor l with
    machine := .halted, cycle := (s.supervisor l).cycle + 1, superseded := some m
    record := some ⟨.halt, (s.supervisor l).cycle + 1, .step .halt [], false, none, none⟩ }
  pinsetter : t.pinsetter l = putCommand (.halt ((s.supervisor l).cycle + 1)) (s.pinsetter l)
  faults : (t.lane l).faults = (s.lane l).faults.map endStepCondition

/-- R88: the sequence ends as superseded, and a HALT begins. -/
theorem cycleLost_halts {k : Sequence} {m : CycleNo} {st : Expected} {mark : Option RestartMark}
    (record : (s.supervisor l).record = some ⟨k, m, st, false, none, mark⟩) (halt : k ≠ .halt)
    (park : k ≠ .park) (present : (s.pinsetter l).state ≠ .lost) (free : (s.pinsetter l).owed = none)
    (empty : (s.pinsetter l).slot = none) (awaiting : (s.supervisor l).awaiting = none)
    (owed : (s.supervisor l).owed = none) (followOn : (s.supervisor l).followOn = .none)
    (deferred : (s.supervisor l).deferredNeed = none) (nothing : s.NothingHeld l) :
    ∃ u, CycleDropped l m s u ∧ s.cycleLost l (.cycle k m) = u.raiseLane l .commandLost := by
  let e := s.endUnfinished l
  let w := e.placeStop l .halt
  have ended : Supervised l (unfinished (s.supervisor l)) s e := .endUnfinished s l
  have onPair : OnPair (pairOf l) s w := ((OnPair.refl _ s).endUnfinished l rfl).placeStop l .halt rfl
  have placed : StopPlaced l .halt e w := placeStop_places (by rw [ended.pinsetter]; exact present)
    (by rw [ended.pinsetter]; exact free) (.inl (by rw [ended.pinsetter]; exact empty))
  have faults : (w.lane l).faults = _ := faults_placeStop (by rw [ended.pinsetter]; exact present)
    (by rw [ended.pinsetter]; exact free) (.inl (by rw [ended.pinsetter]; exact empty))
  have deferred_w : (w.supervisor l).deferredNeed = none := by
    rw [placed.supervisor, ended.supervisor]
    exact deferred
  have released : w.supersededReleases l = w.armingCheck l :=
    supersededReleases_stopping placed.stopping (onPair.nothingHeld nothing) deferred_w
  have command : sequenceCommand k m = .cycle k m := by
    cases k
    case halt => exact absurd rfl halt
    case park => exact absurd rfl park
    all_goals rfl
  have cleared : s.clearRestart l = s := by simp only [State.clearRestart, followOn]
  have dropped : s.endDropped l (.cycle k m) = e := by
    simp only [State.endDropped, record, command, if_true]
    rfl
  refine ⟨w.armingCheck l, ⟨onPair.armingCheck l rfl, ?_, ?_, ?_⟩, ?_⟩
  · rw [supervisor_armingCheck, placed.supervisor, ended.supervisor]
    generalize s.supervisor l = v at *
    cases v
    subst record awaiting owed followOn
    rfl
  · rw [pinsetter_armingCheck, placed.pinsetter, ended.supervisor, ended.pinsetter]
    rfl
  · rw [faults_armingCheck, faults, ended.supervisor, faults_endUnfinished, record]
    rfl
  · rw [← released]
    simp only [State.cycleLost, cleared, dropped]
    rfl

end

/-! ## A mild raise (R109 to R112) -/

theorem raiseLane_told {l : LaneId} {c : FaultClass}
    (mild : s.faultTable[faultIndex c].action = .none ∨ s.faultTable[faultIndex c].action = .hold)
    (new : ∀ f ∈ (s.lane l).faults, f.cls ≠ c) :
    LaneTold l s (s.raiseLane l c) ∧ ((s.raiseLane l c).lane l).faults =
      (s.lane l).faults ++ [newFault s.faultTable[faultIndex c] c s.deviceTime] :=
  ⟨LaneTold.raiseLane mild, (raiseLane_mildlyRaised mild new).faults⟩

theorem placeAwaiting_none {l : LaneId} (h : (s.supervisor l).awaiting = none) : s.placeAwaiting l = s := by
  simp only [State.placeAwaiting, h]

/-- R88: the CYCLE of the sequence in progress is dropped from a pinsetter's slot: a HALT begins, and
COMMAND_LOST is raised. -/
theorem cycle_dropped {e : Side} {k : Sequence} {m : CycleNo} {st : Expected} {mark : Option RestartMark}
    (record : (s.supervisor (laneAt p e)).record = some ⟨k, m, st, false, none, mark⟩) (halt : k ≠ .halt)
    (park : k ≠ .park) (present : (s.node p (pinsetterAddr e)).state ≠ .lost)
    (free : (s.node p (pinsetterAddr e)).owed = none) (empty : (s.node p (pinsetterAddr e)).slot = none)
    (awaiting : (s.supervisor (laneAt p e)).awaiting = none) (owed : (s.supervisor (laneAt p e)).owed = none)
    (followOn : (s.supervisor (laneAt p e)).followOn = .none)
    (deferred : (s.supervisor (laneAt p e)).deferredNeed = none)
    (mild : s.faultTable[faultIndex .commandLost].action = .none ∨
      s.faultTable[faultIndex .commandLost].action = .hold)
    (nothing : s.NothingHeld (laneAt p e))
    (new : ∀ f ∈ (s.lane (laneAt p e)).faults, f.cls ≠ .commandLost) :
    let l := laneAt p e
    let v := s.supervisor l
    ∃ t, (s.droppedCommand p (pinsetterAddr e) (.cycle k m)).slotEmptied p (pinsetterAddr e) = t ∧
      t.node p (pinsetterAddr e) = putCommand (.halt (v.cycle + 1)) (s.node p (pinsetterAddr e)) ∧
      t.supervisor l = { v with
        machine := .halted, cycle := v.cycle + 1, superseded := some m
        record := some ⟨.halt, v.cycle + 1, .step .halt [], false, none, none⟩ } ∧
      (t.lane l).faults = (s.lane l).faults.map endStepCondition ++
        [newFault s.faultTable[faultIndex .commandLost] .commandLost s.deviceTime] ∧
      CreditFollows p s t := by
  intro l v
  have node : ∀ {x : State}, x.pinsetter l = x.node p (pinsetterAddr e) := by
    simp only [State.pinsetter, l, pairOf_laneAt, sideOf_laneAt, implies_true]
  have pair_l : pairOf l = p := pairOf_laneAt ..
  obtain ⟨w, halts, lost⟩ := cycleLost_halts (l := l) record halt park (by rw [node]; exact present)
    (by rw [node]; exact free) (by rw [node]; exact empty) awaiting owed followOn deferred nothing
  have table : w.faultTable = s.faultTable := by rw [halts.onPair.others]
  have time : w.deviceTime = s.deviceTime := by rw [halts.onPair.others]
  have new_w : ∀ f ∈ (w.lane l).faults, f.cls ≠ .commandLost := by
    intro f hf
    have cls : f.cls ∈ (s.lane l).faults.map (·.cls) := halts.onPair.classes l ▸ List.mem_map_of_mem hf
    obtain ⟨g, hg, e⟩ := List.mem_map.1 cls
    exact e ▸ new g hg
  obtain ⟨told, faults⟩ :=
    raiseLane_told (s := w) (l := l) (c := .commandLost) (by rw [table]; exact mild) new_w
  generalize w.raiseLane l .commandLost = x at *
  have supervisor := (told.supervisor l).trans halts.supervisor
  have drops : s.droppedCommand p (pinsetterAddr e) (.cycle k m) = x := by
    simp only [State.droppedCommand, roleOf_pinsetterAddr]
    exact lost
  refine ⟨x, ?_, ?_, supervisor, ?_,
    (pair_l ▸ halts.onPair.creditFollows).trans (pair_l ▸ told.creditFollows)⟩
  · simp only [drops, State.slotEmptied, roleOf_pinsetterAddr]
    exact placeAwaiting_none (by rw [supervisor]; exact awaiting)
  · rw [← node, ← node, told.pinsetter, halts.pinsetter]
  · rw [faults, halts.faults, table, time]

/-! ## What a node lost leaves (R166) -/

/-- No charge is made, and no session changes but in its billing state. -/
def BillingAlone (s t : State) : Prop :=
  t.charges = s.charges ∧ ∀ i x, s.session i = some x → ∃ y, t.session i = some y ∧ SameButBillingState x y

theorem CreditFollows.billingAlone (h : CreditFollows p s t) : BillingAlone s t := ⟨h.charges, h.used⟩

theorem LanesTold.noneLeaving (h : LanesTold p s t) (stays : s.NoneLeaving) : t.NoneLeaving :=
  stays.of_states fun i x hx => by
    cases hs : s.session i with
    | none => rw [h.free i hs] at hx; cases hx
    | some y =>
      obtain ⟨b, billed⟩ := h.used i y hs
      rw [billed] at hx
      cases hx
      exact ⟨y, rfl, rfl⟩

/-- R166, R172: a console lost. -/
theorem console_missed {e : Side} (stays : s.NoneLeaving) (alive : (s.node p (consoleAddr e)).state = .alive)
    (reached : (s.poller p).threshold ≤ min 255 ((s.node p (consoleAddr e)).misses + 1)) :
    let n := s.node p (consoleAddr e)
    ∃ t, s.miss p (consoleAddr e) = t ∧ t.NoneLeaving ∧ t.examineAt p (consoleAddr e) = t ∧
      t.node p (consoleAddr e) = { lostNode n with
        slot := none
        framesDiscarded := min 65535 (n.framesDiscarded +
          (((s.poller p).queue.filter fun f => f.side = e).length +
            (if n.slot.isSome then 1 else 0))) } ∧
      (t.poller p).queue = (s.poller p).queue.filter (fun f => f.side ≠ e) ∧
      t.sessions = s.sessions ∧ t.lanes = s.lanes ∧
      ∃ x ∈ t.notices, x.source = pairSource p ∧ payloadKind x.payload = .nodeState := by
  intro n
  let w := s.modNode p (consoleAddr e) lostNode
  have node : w.node p (consoleAddr e) = lostNode n := node_modNode_self ..
  have queue : (w.poller p).queue = (s.poller p).queue := by
    simp only [w, State.modNode, poller_modPoller_self]
  have gone := consoleLost_discardDisplay w p e
  have lost := miss_losesConsole alive reached
  have sessions : w.sessions = s.sessions := rfl
  have lanes : w.lanes = s.lanes := rfl
  change _ = (w.discardDisplay p e).raiseNodeState p _ at lost
  clear_value w
  generalize w.discardDisplay p e = v at gone lost
  have sessions_v : v.sessions = s.sessions := by rw [gone.alone.others, sessions]
  have session_v : ∀ i, v.session i = s.session i := fun i => by simp only [State.session, sessions_v]
  have lanes_v : v.lanes = s.lanes := by rw [gone.alone.others, lanes]
  refine ⟨_, lost, fun i x hx => stays i x (session_v i ▸ hx),
    by simp only [State.examineAt, roleOf_consoleAddr], ?_, ?_, sessions_v, lanes_v, told_raiseNodeState _⟩
  · refine gone.console.trans ?_
    rw [if_pos rfl, consoleGone, node, queue]
    rfl
  · refine (congrArg Poller.queue gone.poller).trans ?_
    simp only [queue, Bool.true_and, ← decide_not]

/-- R166: a pinsetter of a lane of the map lost. -/
theorem pinsetter_missed {e : Side} (stays : s.NoneLeaving)
    (alive : (s.node p (pinsetterAddr e)).state = .alive)
    (reached : (s.poller p).threshold ≤ min 255 ((s.node p (pinsetterAddr e)).misses + 1))
    (enabled : (s.entry (laneAt p e)).enabled = true)
    (mild : s.faultTable[faultIndex .machineNodeLost].action = .none ∨
      s.faultTable[faultIndex .machineNodeLost].action = .hold)
    (new : ∀ f ∈ (s.lane (laneAt p e)).faults, f.cls ≠ .machineNodeLost)
    (watch : (s.supervisor (laneAt p e)).record.bind (·.watch) = none) :
    let l := laneAt p e
    ∃ t, s.miss p (pinsetterAddr e) = t ∧ t.NoneLeaving ∧ t.examineAt p (pinsetterAddr e) = t ∧
      t.node p (pinsetterAddr e) = lostNode (s.node p (pinsetterAddr e)) ∧
      (t.lane l).faults = (s.lane l).faults ++
        [newFault s.faultTable[faultIndex .machineNodeLost] .machineNodeLost s.deviceTime] ∧
      t.supervisor l = s.supervisor l ∧
      ∃ x ∈ t.notices, x.source = pairSource p ∧ payloadKind x.payload = .nodeState := by
  intro l
  have lost := miss_losesPinsetter alive reached enabled
  have node : (s.modNode p (pinsetterAddr e) lostNode).node p (pinsetterAddr e) = _ := node_modNode_self ..
  obtain ⟨told, faults⟩ :=
    raiseLane_told (s := s.modNode p (pinsetterAddr e) lostNode) (l := l) (c := .machineNodeLost) mild new
  generalize State.raiseLane _ l .machineNodeLost = t at lost told faults
  refine ⟨_, lost, told.noneLeaving stays, examineAt_none fun k role => ?_, (told.node ..).trans node, faults,
    told.supervisor l, told_raiseNodeState _⟩
  obtain rfl : e = k := by simpa [roleOf_pinsetterAddr] using role
  exact (congrArg (fun v => v.record.bind (·.watch)) (told.supervisor l)).trans watch

/-- R80, R166: the reader of a lane of the map lost. -/
theorem reader_missed {e : Side} (stays : s.NoneLeaving)
    (alive : (s.node p (readerAddr e)).state = .alive)
    (reached : (s.poller p).threshold ≤ min 255 ((s.node p (readerAddr e)).misses + 1))
    (enabled : (s.entry (laneAt p e)).enabled = true)
    (mild : s.faultTable[faultIndex .sensorNodeLost].action = .none ∨
      s.faultTable[faultIndex .sensorNodeLost].action = .hold)
    (new : ∀ f ∈ (s.lane (laneAt p e)).faults, f.cls ≠ .sensorNodeLost)
    (noRead : (s.tracker (laneAt p e)).readWaiting = false) :
    let l := laneAt p e
    let n := s.node p (readerAddr e)
    ∃ t, s.miss p (readerAddr e) = t ∧ t.NoneLeaving ∧ t.examineAt p (readerAddr e) = t ∧
      t.node p (readerAddr e) = keptAtLoss (lostNode n) ∧
      (∃ play foul, t.tracker l =
        { restartTracker n (s.tracker l) with play := play, foulPending := foul }) ∧
      (t.lane l).faults = (s.lane l).faults ++
        [newFault s.faultTable[faultIndex .sensorNodeLost] .sensorNodeLost s.deviceTime] ∧
      t.supervisor l = s.supervisor l ∧ BillingAlone s t ∧
      ∃ x ∈ t.notices, x.source = pairSource p ∧ payloadKind x.payload = .nodeState := by
  intro l n
  let w := (s.modNode p (readerAddr e) fun n => keptAtLoss (lostNode n)).modTracker l (restartTracker n)
  have lost : _ = (w.raiseLane l .sensorNodeLost).raiseNodeState p _ :=
    miss_losesReader alive reached enabled noRead
  have node : w.node p (readerAddr e) = keptAtLoss (lostNode n) :=
    (node_modTracker ..).trans (node_modNode_self ..)
  have tracker_w : w.tracker l = restartTracker n (s.tracker l) := tracker_modTracker_self ..
  have faults_w : (w.lane l).faults = (s.lane l).faults := by rw [lane_modTracker, if_pos rfl]; rfl
  have supervisor_w : w.supervisor l = s.supervisor l := supervisor_modTracker ..
  have table : w.faultTable = s.faultTable := rfl
  have time : w.deviceTime = s.deviceTime := rfl
  have onPair : OnPair p s w := ((OnPair.refl p s).modNode p _ _ rfl).modTracker l (pairOf_laneAt ..)
    (pitCount_restartTracker ..)
  clear_value w
  obtain ⟨told, faults⟩ := raiseLane_told (s := w) (l := l) (c := .sensorNodeLost)
    (by rw [table]; exact mild) (by rw [faults_w]; exact new)
  have follows : CreditFollows p s (w.raiseLane l .sensorNodeLost) :=
    onPair.creditFollows.trans (pairOf_laneAt p e ▸ told.creditFollows)
  obtain ⟨play, foul, tracker⟩ := told.tracker l
  generalize w.raiseLane l .sensorNodeLost = v at *
  rw [table, time, faults_w] at faults
  rw [tracker_w] at tracker
  exact ⟨_, lost, follows.noneLeaving stays, by simp only [State.examineAt, roleOf_readerAddr],
    (told.node ..).trans node, ⟨play, foul, tracker⟩, faults, (told.supervisor l).trans supervisor_w,
    follows.billingAlone, told_raiseNodeState _⟩

/-- R131, R166: the lane I/O node lost. -/
theorem laneIo_missed (stays : s.NoneLeaving)
    (alive : (s.node p laneIoAddr).state = .alive)
    (reached : (s.poller p).threshold ≤ min 255 ((s.node p laneIoAddr).misses + 1))
    (enabled : ∃ e, (s.entry (laneAt p e)).enabled = true)
    (mild : s.faultTable[faultIndex .sensorNodeLost].action = .none ∨
      s.faultTable[faultIndex .sensorNodeLost].action = .hold)
    (new : ∀ e, ∀ f ∈ (s.lane (laneAt p e)).faults, f.cls ≠ .sensorNodeLost) :
    let r := s.ballReturn p
    ∃ t, s.miss p laneIoAddr = t ∧ t.NoneLeaving ∧ t.examineAt p laneIoAddr = t ∧
      t.node p laneIoAddr = { lostNode (s.node p laneIoAddr) with slot := none } ∧
      (∀ e, (t.lane (laneAt p e)).faults = (s.lane (laneAt p e)).faults ++
          [newFault s.faultTable[faultIndex .sensorNodeLost] .sensorNodeLost s.deviceTime] ∧
        t.supervisor (laneAt p e) = s.supervisor (laneAt p e)) ∧
      t.filter p = { s.filter p with initialised := false } ∧ t.ballReturn p = { r with watch := awayWatch r } ∧
      BillingAlone s t ∧
      ∃ x ∈ t.notices, x.source = pairSource p ∧ payloadKind x.payload = .nodeState := by
  intro r
  have lost := miss_losesLaneIo alive reached enabled
  let u := s.modNode p laneIoAddr fun n => { lostNode n with slot := none }
  have node_u : u.node p laneIoAddr = { lostNode (s.node p laneIoAddr) with slot := none } :=
    node_modNode_self ..
  have filter_u : u.filter p = s.filter p := filter_modPoller ..
  have ballReturn_u : u.ballReturn p = s.ballReturn p := ballReturn_modPoller ..
  have others : u = { s with pairs := u.pairs } := rfl
  change _ = ((((u.raiseLane (laneAt p .left) .sensorNodeLost).raiseLane (laneAt p .right)
    .sensorNodeLost).filterLost p).decideWatch p false).raiseNodeState p _ at lost
  have lane : ∀ k, u.lane k = s.lane k := fun _ => rfl
  have session : ∀ i, u.session i = s.session i := fun _ => rfl
  have table : u.faultTable = s.faultTable := rfl
  have time : u.deviceTime = s.deviceTime := rfl
  clear_value u
  obtain ⟨left, faults_left⟩ := raiseLane_told (s := u) (l := laneAt p .left) (c := .sensorNodeLost)
    (by rw [table]; exact mild) (by rw [lane]; exact new .left)
  generalize u.raiseLane (laneAt p .left) .sensorNodeLost = v at *
  have apart : laneAt p .right ≠ laneAt p .left := laneAt_ne nofun
  have lane_right : v.lane (laneAt p .right) = s.lane (laneAt p .right) :=
    (left.elsewhere _ apart).trans (lane _)
  obtain ⟨right, faults_right⟩ := raiseLane_told (s := v) (l := laneAt p .right) (c := .sensorNodeLost)
    (by rw [left.faultTable, table]; exact mild) (by rw [lane_right]; exact new .right)
  generalize v.raiseLane (laneAt p .right) .sensorNodeLost = w at *
  have told := left.both right
  have node_w : w.node p laneIoAddr = _ := (right.node ..).trans ((left.node ..).trans node_u)
  have gone := laneIoGone_leaves (s := w) (p := p) (by rw [node_w]; exact nofun)
  generalize (w.filterLost p).decideWatch p false = x at *
  have lane_x : ∀ k, x.lane k = w.lane k := fun k => by rw [gone.alone.others]; rfl
  have session_x : ∀ i, x.session i = w.session i := fun i => by rw [gone.alone.others]; rfl
  have filter_w : w.filter p = s.filter p := (congrArg Pair.filter (told.pair p)).trans filter_u
  have ballReturn_w : w.ballReturn p = r := (congrArg Pair.ballReturn (told.pair p)).trans ballReturn_u
  have supervisor_w : ∀ k, w.supervisor k = s.supervisor k := fun k =>
    (right.supervisor k).trans ((left.supervisor k).trans (congrArg Lane.supervisor (lane k)))
  refine ⟨_, lost, fun i y hy => ?_, rfl, ?_, fun e => ⟨?_, ?_⟩, ?_, ?_, ⟨?_, fun i y hy => ?_⟩,
    told_raiseNodeState _⟩
  · exact told.noneLeaving (fun i y hy => stays i y (session i ▸ hy)) i y (session_x i ▸ hy)
  · exact (congrArg (fun q => q.nodes[laneIoAddr]) gone.poller).trans node_w
  · refine (congrArg Lane.faults (lane_x _)).trans ?_
    cases e
    · rw [right.elsewhere _ apart.symm, faults_left, lane, table, time]
    · rw [faults_right, lane_right, left.faultTable, table, left.deviceTime, time]
  · exact (congrArg Lane.supervisor (lane_x _)).trans (supervisor_w _)
  · exact gone.filter.trans (by rw [filter_w])
  · exact gone.ballReturn.trans (by rw [ballReturn_w])
  · show x.charges = s.charges
    rw [gone.alone.others, told.others, others]
  · obtain ⟨b, billed⟩ := told.used i y ((session i).trans hy)
    exact ⟨_, (session_x i).trans billed, sameBut_billedAs b y⟩

end

end Sys2Proof.Machine

open Sys2Proof Sys2Proof.Machine

/-- Settles O52: the miss by the role of the node, then the command dropped by its kind. -/
theorem answerTimeoutCountsAndLoses : Obligations.AnswerTimeoutCountsAndLoses := by
  unfold Obligations.AnswerTimeoutCountsAndLoses
  intro s p a d carried polled stays now n counted dropped raised mild billingAlone
  have stays_now : now.NoneLeaving := stays
  have billed : ∀ {t}, CreditFollows p now t → billingAlone t := fun h => ⟨h.charges, h.used⟩
  have below_eq : min 255 (n.misses + 1) < (s.poller p).threshold →
      now.miss p a = now.modNode p a fun _ => counted := fun below => miss_below (s := now) below
  have same : n = now.node p a := rfl
  refine ⟨fun c q tries carries slot below => ⟨fun few watch => ?_, fun spent => ?_⟩, fun carries => ?_⟩
  · refine exec_answerTimeout polled ((congrArg (State.resolveCommand · p _ _) (below_eq below)).trans
      (resolveCommand_stays carries nofun fun e he _ _ => ?_)) (examineAt_none watch) stays_now
    rw [node_modNode_self] at he
    rw [show e = ⟨c, q, tries⟩ from Option.some.inj (he.symm.trans slot)]
    exact few
  · obtain ⟨k, rfl⟩ : ∃ k, tries = some k := by
      cases tries with
      | none => exact absurd spent (by decide)
      | some k => exact ⟨k, rfl⟩
    subst carries
    let u := now.modNode p a fun _ => dropped
    have dropped_u : (now.miss p a).resolveCommand p ⟨a, some (c, q), d, false⟩ .none =
        (u.droppedCommand p a c).slotEmptied p a := by
      rw [below_eq below, resolveCommand_drops (by rw [node_modNode_self]; exact slot) spent,
        modNode_modNode]
      rfl
    have missed : ∀ {w}, (u.droppedCommand p a c).slotEmptied p a = w → w.NoneLeaving → w.examineAt p a = w →
        exec (.answerTimeout p) s = .next (w.nextPoll p).settleTrunk := fun h stays_w examined =>
      exec_answerTimeout polled (dropped_u.trans h) examined stays_w
    refine ⟨?_, ?_⟩
    · intro e m reader l noRead noCount
      subst reader
      have settled : ∀ f : Tracker → Tracker, (∀ k, (f k).countWaiting = k.countWaiting) →
          (∀ k, (f k).readWaiting = k.readWaiting) → u.droppedCommand p (readerAddr e) c = u.modTracker l f →
          exec (.answerTimeout p) s = .next ((u.modTracker l f).nextPoll p).settleTrunk := by
        intro f count read drops
        refine missed ?_ stays_now (by simp only [State.examineAt, roleOf_readerAddr])
        have tracker : (u.modTracker l f).tracker l = f (s.tracker l) := tracker_modTracker_self ..
        rw [drops]
        simp only [State.slotEmptied, roleOf_readerAddr]
        rw [placeWaitingCount_none (by rw [tracker, count]; exact noCount),
          placeWaitingRead_none (by rw [tracker, read]; exact noRead)]
      refine ⟨fun read => settled _ (fun _ => rfl) (fun _ => rfl) ?_,
        fun set => settled _ (fun _ => rfl) (fun _ => rfl) ?_⟩
      · simp only [State.droppedCommand, roleOf_readerAddr, read]
        rfl
      · simp only [State.droppedCommand, roleOf_readerAddr, set]
        rfl
    · intro e k m st mark pinsetter cycle l v record halt park present free awaiting owed followOn deferred
        low nothing new
      subst pinsetter cycle
      have node_u : u.node p (pinsetterAddr e) = dropped := node_modNode_self ..
      obtain ⟨t, drops, node, supervisor, faults, follows⟩ := cycle_dropped (s := u) record halt park
        (by rw [node_u]; exact present) (by rw [node_u]; exact free) (by rw [node_u]) awaiting owed followOn
        deferred low nothing new
      have follows_now : CreditFollows p now t :=
        ((OnPair.refl p now).modNode p _ _ rfl).creditFollows.trans follows
      refine ⟨t, missed drops (follows_now.noneLeaving stays_now) (examineAt_none fun j role => ?_),
        node.trans (by rw [node_u]; rfl), supervisor, faults, billed follows_now⟩
      obtain rfl : e = j := by simpa [roleOf_pinsetterAddr] using role
      rw [supervisor]
      rfl
  · subst carries
    have missed : ∀ {w}, now.miss p a = w → w.NoneLeaving → w.examineAt p a = w →
        exec (.answerTimeout p) s = .next (w.nextPoll p).settleTrunk := fun h stays_w examined =>
      exec_answerTimeout polled h examined stays_w
    refine ⟨fun below watch => missed (below_eq below) stays_now (examineAt_none watch),
      ?_, ?_, ?_, ?_⟩
    · intro e console alive reached
      subst console
      obtain ⟨t, lost, stays_t, examined, leaves⟩ := console_missed (s := now) stays_now alive reached
      exact ⟨t, missed lost stays_t examined, leaves⟩
    · intro e pinsetter alive reached l act enabled low new watch
      subst pinsetter
      obtain ⟨t, lost, stays_t, examined, leaves⟩ :=
        pinsetter_missed (s := now) stays_now alive reached enabled low new watch
      exact ⟨t, missed lost stays_t examined, leaves⟩
    · intro e reader alive reached l counts enabled low new noRead
      subst reader
      obtain ⟨t, lost, stays_t, examined, node, ⟨play, foul, tracker⟩, leaves⟩ :=
        reader_missed (s := now) stays_now alive reached enabled low new noRead
      refine ⟨t, missed lost stays_t examined, fun ⟨c, q, w, slot⟩ => ⟨node.trans ?_, ?_⟩,
        fun none_ => ⟨node.trans ?_, ?_⟩, leaves⟩
      · exact keptAtLoss_setCount (n := lostNode n) slot
      · rw [tracker, ← same, restartTracker_setCount slot]
        exact ⟨rfl, rfl⟩
      · exact keptAtLoss_other (n := lostNode n) fun c q w slot => none_ ⟨c, q, w, slot⟩
      · rw [tracker, ← same, restartTracker_other fun c q w slot => none_ ⟨c, q, w, slot⟩]
        exact ⟨rfl, rfl⟩
    · intro laneIo alive reached enabled low new
      subst laneIo
      obtain ⟨t, lost, stays_t, examined, leaves⟩ :=
        laneIo_missed (s := now) stays_now alive reached enabled low new
      exact ⟨t, missed lost stays_t examined, leaves⟩

end

section
/-! SUPPORT. The answers of an ALIVE pinsetter that is owed nothing (O49): what its command field and its
reports make of the sequence in progress. -/

namespace Sys2Proof.Machine

open Sys2Proof

section
variable {s t w : State} {l : LaneId}

/-! ## The answer (R165, R166, R170) -/

/-- R166: a state once a node that is ALIVE has answered. -/
def State.answered (s : State) (p : PairId) (a : NodeAddr) : State :=
  s.modNode p a fun n => { n with misses := 0 }

/-- Section 11.7: an answer frame of a node is received. -/
def answerFrom (p : PairId) (a : NodeAddr) (result count : Nat) (items : List Byte) : Instr :=
  let covered := [BitVec.ofNat 8 (a.val + 1), 2#8, BitVec.ofNat 8 result, BitVec.ofNat 8 count] ++ items
  .answerReceived p ([0x5A#8] ++ covered ++ bytes2 (crc16 covered).toNat)

/-- A poll waits for an ALIVE pinsetter that is owed nothing, of a lane of the map, while no session is
leaving a lane. -/
structure PinsetterPolled (l : LaneId) (carried : Option (Command × Serial)) (d : Nat) (s : State) : Prop where
  polled : (s.poller (pairOf l)).poll = some ⟨pinsetterAddr (sideOf l), carried, d, false⟩
  alive : (s.pinsetter l).state = .alive
  owed : (s.pinsetter l).owed = none
  enabled : (s.entry l).enabled = true
  stays : s.NoneLeaving

theorem pinsetter_answered :
    (s.answered (pairOf l) (pinsetterAddr (sideOf l))).pinsetter l = { s.pinsetter l with misses := 0 } :=
  node_modNode_self ..

theorem nodeAnswers_unowed (alive : (s.pinsetter l).state = .alive) (owed : (s.pinsetter l).owed = none) :
    s.nodeAnswers (pairOf l) (pinsetterAddr (sideOf l)) = s.answered (pairOf l) (pinsetterAddr (sideOf l)) := by
  have stays : s.nodeAnswers (pairOf l) (pinsetterAddr (sideOf l)) = State.placeOwedOf _ _ _ := if_pos alive
  rw [stays, placeOwedOf_pinsetter]
  refine placeOwed_none ?_
  rw [State.pinsetter, node_modNode_self]
  exact owed

/-- R165, R170: an answer of a pinsetter: `w` is left by the command field, `t` by the reports. -/
theorem PinsetterPolled.answers {carried : Option (Command × Serial)} {d result count : Nat} {items : List Byte}
    {rs : List (Report × Byte × Byte)} (h : PinsetterPolled l carried d s) (few : count ≤ 4)
    (reports : reportsOf items = some rs) (fits : rs.length = count)
    (resolved : (s.answered (pairOf l) (pinsetterAddr (sideOf l))).resolveCommand (pairOf l)
      ⟨pinsetterAddr (sideOf l), carried, d, false⟩ (commandResult (BitVec.ofNat 8 result)) = w)
    (entry : w.entry l = s.entry l) (reported : rs.foldl (fun t x => t.pinsetterReport l x) w = t)
    (waits : ∀ e, (t.supervisor l).record.bind (·.watch) = some e → t.deviceTime < e)
    (stays : t.NoneLeaving) :
    exec (answerFrom (pairOf l) (pinsetterAddr (sideOf l)) result count items) s =
      .next (t.nextPoll (pairOf l)).settleTrunk := by
  have size : (BitVec.ofNat 8 count).toNat = count := by
    rw [BitVec.toNat_ofNat]
    omega
  have taken := takeAnswer_pinsetter
    ((congrArg (State.resolveCommand · _ _ _) (nodeAnswers_unowed h.alive h.owed)).trans resolved)
    (by rw [entry]; exact h.enabled) rs
  rw [reported, examineWatch_waits waits, settlePair_stays stays] at taken
  exact (exec_answerReceived h.polled rfl (readAnswer_pinsetter (sideOf l) (by rw [size]; exact few) reports
    (fits.trans size.symm)) rfl).trans (by rw [taken])

/-! ## The command carried (R84, R169) -/

/-- R169: the command field that reports a check error. -/
theorem commandResult_checkError (q : Serial) :
    commandResult (BitVec.ofNat 8 (32 + q.toNat)) = .checkError q := by
  have small := q.isLt
  have value : (BitVec.ofNat 8 (32 + q.toNat)).toNat = 32 + q.toNat := by
    rw [BitVec.toNat_ofNat]
    omega
  have serial : (BitVec.ofNat 8 (32 + q.toNat)).truncate 3 = q := by
    apply BitVec.eq_of_toNat_eq
    rw [BitVec.truncate_eq_setWidth, BitVec.toNat_setWidth, value]
    omega
  have field : (32 + q.toNat) / 16 % 4 = 2 := by omega
  simp only [commandResult, value, serial, field]

/-- R84, R107: every step of a profile in range takes time. -/
theorem stepTime_pos {f : Profile} (ok : ProfileOk f) (k : Step) : 0 < stepTime f k := by
  have watches := ok.watches
  have powerUp := ok.powerUp
  simp only [List.mem_cons, List.not_mem_nil, or_false, forall_eq_or_imp, forall_eq] at watches
  cases k <;> simp only [stepTime] <;> omega

theorem sequenceCommand_eq {k : Sequence} {m : CycleNo} {c : Command}
    (h : k = .halt ∧ c = .halt m ∨ k = .park ∧ c = .park m ∨ k ≠ .halt ∧ k ≠ .park ∧ c = .cycle k m) :
    c = sequenceCommand k m := by
  rcases h with ⟨rfl, rfl⟩ | ⟨rfl, rfl⟩ | ⟨halt, park, rfl⟩
  · rfl
  · rfl
  · cases k
    case halt => exact absurd rfl halt
    case park => exact absurd rfl park
    all_goals rfl

/-- R84: the record of a sequence acknowledged now, before its first step. -/
def State.ackedRecord (s : State) (l : LaneId) (k : Sequence) (m : CycleNo) (st : Step) (later : List Step)
    (mark : Option RestartMark) : CycleRecord :=
  ⟨k, m, .step st later, true, some (s.deviceTime + stepTime (s.profileOf l) st), mark⟩

theorem acknowledge_first {k : Sequence} {m : CycleNo} {st : Step} {later : List Step}
    {mark : Option RestartMark}
    (record : (s.supervisor l).record = some ⟨k, m, .step st later, false, none, mark⟩) :
    s.acknowledge l (sequenceCommand k m) = s.modSupervisor l fun v =>
      { v with record := some (s.ackedRecord l k m st later mark) } := by
  simp only [State.acknowledge, record, and_self, if_true]
  rfl

/-- R84: the ACK of the command of a sequence is told to the Machine Supervisor. -/
theorem acked_sequence (k : Sequence) (m : CycleNo) :
    s.acked (pairOf l) (pinsetterAddr (sideOf l)) (sequenceCommand k m) =
      s.acknowledge l (sequenceCommand k m) := by
  cases k <;> simp only [State.acked, roleOf_pinsetterAddr, laneAt_pairOf, sequenceCommand]

/-- R84, R169: the ACK of the command of the sequence in progress empties the slot and starts the first
step's watch. -/
theorem resolveCommand_acks {k : Sequence} {m : CycleNo} {st : Step} {later : List Step}
    {mark : Option RestartMark} {q : Serial} {d : Nat} {tries : Option Nat}
    (slot : (s.pinsetter l).slot = some ⟨sequenceCommand k m, q, tries⟩) (carried : tries.isSome = true)
    (owed : (s.pinsetter l).owed = none)
    (record : (s.supervisor l).record = some ⟨k, m, .step st later, false, none, mark⟩)
    (awaiting : (s.supervisor l).awaiting = none) :
    s.resolveCommand (pairOf l) ⟨pinsetterAddr (sideOf l), some (sequenceCommand k m, q), d, false⟩ (.ack q) =
      (s.modNode (pairOf l) (pinsetterAddr (sideOf l)) fun n => { n with slot := none }).modSupervisor l
        fun v => { v with record := some (s.ackedRecord l k m st later mark) } := by
  let u := s.clearSlot (pairOf l) (pinsetterAddr (sideOf l))
  let w := u.modSupervisor l fun v => { v with record := some (s.ackedRecord l k m st later mark) }
  have still : stillInSlot (s.node (pairOf l) (pinsetterAddr (sideOf l))) (sequenceCommand k m) q = true := by
    obtain ⟨j, rfl⟩ := Option.isSome_iff_exists.1 carried
    exact stillInSlot_iff.2 ⟨j, slot⟩
  have acked : u.acked (pairOf l) (pinsetterAddr (sideOf l)) (sequenceCommand k m) = w :=
    (acked_sequence k m).trans (acknowledge_first (s := u) record)
  have node : w.pinsetter l = { s.pinsetter l with slot := none } :=
    (node_modSupervisor ..).trans (node_modNode_self ..)
  have supervisor : w.supervisor l = _ := supervisor_modSupervisor_self ..
  have emptied : w.slotEmptied (pairOf l) (pinsetterAddr (sideOf l)) = w := by
    simp only [State.slotEmptied, roleOf_pinsetterAddr, laneAt_pairOf]
    exact placeAwaiting_none (by rw [supervisor]; exact awaiting)
  simp only [State.resolveCommand, still, if_true]
  rw [show State.acked _ _ _ _ = w from acked, emptied, placeOwedOf_pinsetter,
    placeOwed_none (by rw [node]; exact owed)]
  rfl

/-- R84, R169: the answer that acknowledges the command of the sequence in progress. -/
theorem PinsetterPolled.acks {k : Sequence} {m : CycleNo} {st : Step} {later : List Step}
    {mark : Option RestartMark} {q : Serial} {d : Nat} {tries : Option Nat}
    (h : PinsetterPolled l (some (sequenceCommand k m, q)) d s) (ok : ProfileOk (s.profileOf l))
    (slot : (s.pinsetter l).slot = some ⟨sequenceCommand k m, q, tries⟩) (carried : tries.isSome = true)
    (record : (s.supervisor l).record = some ⟨k, m, .step st later, false, none, mark⟩)
    (awaiting : (s.supervisor l).awaiting = none) :
    exec (answerFrom (pairOf l) (pinsetterAddr (sideOf l)) (16 + q.toNat) 0 []) s =
      .next ((((s.modNode (pairOf l) (pinsetterAddr (sideOf l)) fun n =>
        { n with misses := 0, slot := none }).modSupervisor l fun v =>
          { v with record := some (s.ackedRecord l k m st later mark) }).nextPoll (pairOf l)).settleTrunk) := by
  let u := s.answered (pairOf l) (pinsetterAddr (sideOf l))
  let w := (s.modNode (pairOf l) (pinsetterAddr (sideOf l)) fun n => { n with misses := 0, slot := none
    }).modSupervisor l fun v => { v with record := some (s.ackedRecord l k m st later mark) }
  have supervisor : w.supervisor l = _ := supervisor_modSupervisor_self ..
  have acked := resolveCommand_acks (s := u) (d := d) (q := q) (by rw [pinsetter_answered]; exact slot) carried
    (by rw [pinsetter_answered]; exact h.owed) record awaiting
  rw [show u = s.modNode _ _ _ from rfl, modNode_modNode] at acked
  refine h.answers (w := w) (rs := []) (by decide) rfl rfl ((congrArg (State.resolveCommand u _ _)
    (commandResult_ack q)).trans acked) (entry_modSupervisor ..) rfl (fun e watch => ?_) h.stays
  rw [supervisor] at watch
  obtain rfl : s.deviceTime + stepTime (s.profileOf l) st = e := Option.some.inj watch
  exact Nat.lt_add_of_pos_right (stepTime_pos ok st)

/-- R169: a check error of a command below three tries leaves it in the slot. -/
theorem PinsetterPolled.checkError {c : Command} {q : Serial} {d : Nat} {tries : Option Nat}
    (h : PinsetterPolled l (some (c, q)) d s) (slot : (s.pinsetter l).slot = some ⟨c, q, tries⟩)
    (few : tries.getD 0 < 3) (idle : (s.supervisor l).record.bind (·.watch) = none) :
    exec (answerFrom (pairOf l) (pinsetterAddr (sideOf l)) (32 + q.toNat) 0 []) s =
      .next ((s.answered (pairOf l) (pinsetterAddr (sideOf l))).nextPoll (pairOf l)).settleTrunk := by
  let u := s.answered (pairOf l) (pinsetterAddr (sideOf l))
  have kept := resolveCommand_stays (s := u) (p := pairOf l)
    (q := ⟨pinsetterAddr (sideOf l), some (c, q), d, false⟩) (r := .checkError q) rfl nofun fun e he _ _ => by
      have here : (u.pinsetter l).slot = some e := he
      rw [pinsetter_answered, slot] at here
      cases here
      exact few
  exact h.answers (w := u) (rs := []) (by decide) rfl rfl ((congrArg (State.resolveCommand u _ _)
    (commandResult_checkError q)).trans kept) rfl rfl (fun _ watch => nomatch idle.symm.trans watch) h.stays

/-! ## Steps (R84, R85) -/

theorem pinsetterReport_takes (manual : (s.supervisor l).machine ≠ .manual) (x : Report × Byte × Byte) :
    s.pinsetterReport l x = s.takeReport l x.1 := if_neg manual

theorem reportOf_stepDone (m : CycleNo) (st : Step) :
    reportOf 1#8 (BitVec.ofNat 8 (m.toNat * 16 + stepCode st)) = .stepDone m (stepCode st) := by
  have small := m.isLt
  have code : stepCode st < 16 := by cases st <;> decide
  have value : (BitVec.ofNat 8 (m.toNat * 16 + stepCode st)).toNat = m.toNat * 16 + stepCode st := by
    rw [BitVec.toNat_ofNat]
    omega
  have number : (m.toNat * 16 + stepCode st) / 16 = m.toNat := by omega
  have step : (m.toNat * 16 + stepCode st) % 16 = stepCode st := by omega
  simp only [reportOf, value, number, step, BitVec.ofNat_toNat, BitVec.setWidth_eq]
  rfl

theorem reportOf_sequenceDone (m : CycleNo) :
    reportOf 2#8 (BitVec.ofNat 8 (m.toNat * 16)) = .sequenceDone m := by
  have small := m.isLt
  have value : (BitVec.ofNat 8 (m.toNat * 16)).toNat = m.toNat * 16 := by
    rw [BitVec.toNat_ofNat]
    omega
  have number : m.toNat * 16 / 16 = m.toNat := by omega
  simp only [reportOf, value, number, BitVec.ofNat_toNat, BitVec.setWidth_eq]
  rfl

theorem resolveCommand_none (p : PairId) (a : NodeAddr) (d : Nat) (r : CommandResult) :
    s.resolveCommand p ⟨a, none, d, false⟩ r = s := rfl

/-- R165: an answer without reports to a poll that carried no command. -/
theorem PinsetterPolled.empty {d : Nat} (h : PinsetterPolled l none d s)
    (idle : (s.supervisor l).record.bind (·.watch) = none) :
    exec (answerFrom (pairOf l) (pinsetterAddr (sideOf l)) 0 0 []) s =
      .next ((s.answered (pairOf l) (pinsetterAddr (sideOf l))).nextPoll (pairOf l)).settleTrunk :=
  h.answers (by decide) rfl rfl (resolveCommand_none ..) rfl rfl (fun _ watch => nomatch idle.symm.trans watch)
    h.stays

/-- R170: an answer with one report to a poll that carried no command. -/
theorem PinsetterPolled.report {d : Nat} {code detail : Byte} (h : PinsetterPolled l none d s)
    (manual : (s.supervisor l).machine ≠ .manual)
    (taken : (s.answered (pairOf l) (pinsetterAddr (sideOf l))).takeReport l (reportOf code detail) = t)
    (waits : ∀ e, (t.supervisor l).record.bind (·.watch) = some e → t.deviceTime < e)
    (stays : t.NoneLeaving) :
    exec (answerFrom (pairOf l) (pinsetterAddr (sideOf l)) 0 ([code, detail].length / 2) [code, detail]) s =
      .next (t.nextPoll (pairOf l)).settleTrunk := by
  have manual_u : ((s.answered (pairOf l) (pinsetterAddr (sideOf l))).supervisor l).machine ≠ .manual := manual
  have reported := (pinsetterReport_takes manual_u (reportOf code detail, code, detail)).trans taken
  have reports : reportsOf [code, detail] = some [(reportOf code detail, code, detail)] := rfl
  exact h.answers (by simp) reports (by simp) (resolveCommand_none ..) (entry_modNode ..) reported waits stays

/-- R85: a report with the number of an acknowledged record, with no command that awaits the slot. -/
theorem stepReport_running {r : CycleRecord} {step : Option Nat} (record : (s.supervisor l).record = some r)
    (current : (s.supervisor l).superseded ≠ some r.number) (acknowledged : r.acknowledged = true)
    (judged : s.judgeRunning l r step = t) (awaiting : (t.supervisor l).awaiting = none) :
    s.stepReport l r.number step = t := by
  have same : s.reportAcknowledges l r = s := if_pos acknowledged
  simp only [State.stepReport, if_neg current, record, if_true, State.runningReport, same, judged]
  exact placeAwaiting_none awaiting

theorem modSupervisor_congr {f g : Supervisor → Supervisor} (h : f (s.supervisor l) = g (s.supervisor l)) :
    s.modSupervisor l f = s.modSupervisor l g := by
  simp only [State.modSupervisor, h]

/-- R85, R113: a lane whose record's expected step is complete. -/
def State.stepCompleted (s : State) (l : LaneId) (r : CycleRecord) (later : List Step) : State :=
  (s.modSupervisor l fun v => { v with record := some (s.stepRecord l later r) }).setLaneFaults l
    (match later with
      | [] => (s.lane l).faults
      | _ :: _ => (s.lane l).faults.map endStepCondition)

theorem supervisor_stepCompleted (r : CycleRecord) (later : List Step) :
    (s.stepCompleted l r later).supervisor l =
      { s.supervisor l with record := some (s.stepRecord l later r) } :=
  (supervisor_setLaneFaults ..).trans (supervisor_modSupervisor_self ..)

theorem setLaneFaults_lane : s.setLaneFaults l (s.lane l).faults = s := setLane_lane ..

theorem completeStep_eq {r : CycleRecord} (record : (s.supervisor l).record = some r) (later : List Step) :
    s.completeStep l later = s.stepCompleted l r later := by
  let u := s.modSupervisor l fun v => { v with record := some (s.stepRecord l later r) }
  have mapped : (s.modSupervisor l fun v => { v with record := v.record.map (s.stepRecord l later) }) = u :=
    modSupervisor_congr (by rw [record]; rfl)
  have faults : (u.lane l).faults = (s.lane l).faults := faults_modSupervisor _
  unfold State.completeStep State.stepCompleted
  rw [mapped]
  cases later with
  | nil => rw [← faults]; exact setLaneFaults_lane.symm
  | cons k ks => exact congrArg (fun fs => u.setLaneFaults l (fs.map endStepCondition)) faults

/-- R84, R85: a STEP_DONE with the record's number and its expected step. -/
theorem stepReport_completes {k : Sequence} {m : CycleNo} {st : Step} {later : List Step} {w : Option Nat}
    {mark : Option RestartMark}
    (record : (s.supervisor l).record = some ⟨k, m, .step st later, true, w, mark⟩)
    (current : (s.supervisor l).superseded ≠ some m) (awaiting : (s.supervisor l).awaiting = none) :
    s.stepReport l m (some (stepCode st)) = s.stepCompleted l ⟨k, m, .step st later, true, w, mark⟩ later := by
  let r : CycleRecord := ⟨k, m, .step st later, true, w, mark⟩
  have judged : s.judgeRunning l r (some (stepCode st)) = s.stepCompleted l r later :=
    (if_pos rfl).trans (completeStep_eq record later)
  exact stepReport_running (r := r) record current rfl judged
    (by rw [supervisor_stepCompleted]; exact awaiting)

/-- R84: the watch of a record that goes on to its next step runs on. -/
theorem stepCompleted_waits {r : CycleRecord} {later : List Step} (ok : ProfileOk (s.profileOf l))
    (waits : ∀ e, r.watch = some e → s.deviceTime < e) (e : Nat)
    (watch : ((s.stepCompleted l r later).supervisor l).record.bind (·.watch) = some e) :
    (s.stepCompleted l r later).deviceTime < e := by
  rw [supervisor_stepCompleted] at watch
  cases later with
  | nil => exact waits e watch
  | cons k ks =>
    obtain rfl : s.deviceTime + stepTime (s.profileOf l) k = e := Option.some.inj watch
    exact Nat.lt_add_of_pos_right (stepTime_pos ok k)

/-- R84, R85: the answer whose STEP_DONE completes the expected step. -/
theorem PinsetterPolled.stepDone {k : Sequence} {m : CycleNo} {st : Step} {later : List Step} {w : Option Nat}
    {mark : Option RestartMark} {d : Nat} (h : PinsetterPolled l none d s)
    (manual : (s.supervisor l).machine ≠ .manual) (ok : ProfileOk (s.profileOf l))
    (record : (s.supervisor l).record = some ⟨k, m, .step st later, true, w, mark⟩)
    (current : (s.supervisor l).superseded ≠ some m) (awaiting : (s.supervisor l).awaiting = none)
    (waits : ∀ e, w = some e → s.deviceTime < e) :
    let detail := BitVec.ofNat 8 (m.toNat * 16 + stepCode st)
    exec (answerFrom (pairOf l) (pinsetterAddr (sideOf l)) 0 ([1#8, detail].length / 2) [1#8, detail]) s =
      .next ((((s.answered (pairOf l) (pinsetterAddr (sideOf l))).stepCompleted l
        ⟨k, m, .step st later, true, w, mark⟩ later).nextPoll (pairOf l)).settleTrunk) := by
  intro detail
  let u := s.answered (pairOf l) (pinsetterAddr (sideOf l))
  let r : CycleRecord := ⟨k, m, .step st later, true, w, mark⟩
  have completed : u.takeReport l (reportOf 1#8 detail) = u.stepCompleted l r later := by
    rw [reportOf_stepDone]
    exact stepReport_completes record current awaiting
  exact h.report manual completed (stepCompleted_waits (r := r) ok waits) h.stays

end

end Sys2Proof.Machine
end

section
/-! SUPPORT. A rise of the effective action to STOP or PARK that stops a running machine (R94, R95, R111). -/

namespace Sys2Proof.Machine

open Sys2Proof

section
variable {s t u w : State} {l : LaneId}

/-! ## The effective action after the raise (R111) -/

theorem severity_injective {a b : Action} (h : severity a = severity b) : a = b := by
  revert h
  cases a <;> cases b <;> decide

/-- R111: an entry no less severe than any other decides the worst action. -/
theorem worstAction_eq {fs : List FaultEntry} {a : Action} (some_ : ∃ f ∈ fs, f.action = a)
    (worst : ∀ f ∈ fs, severity f.action ≤ severity a) : worstAction fs = a := by
  obtain ⟨f, hf, rfl⟩ := some_
  exact severity_injective (Nat.le_antisymm (severity_worstAction_le.2 worst)
    (severity_worstAction_le.1 le_rfl f hf))

/-- R111: the effective action of a lane once an entry with the action `a`, STOP or more severe, has joined
entries below STOP, whatever else of theirs has changed. -/
theorem effective_raised {a : Action} (below : s.belowStop l = true) (severe : severity .stop ≤ severity a)
    (own : (t.lane l).faults.map (·.action) = (s.lane l).faults.map (·.action) ++ [a])
    (shared : (t.pair (pairOf l)).faults = (s.pair (pairOf l)).faults) : t.effective l = a := by
  have low : ∀ f ∈ s.faultsOn l, severity f.action ≤ severity a := fun f hf => by
    have worst : severity (s.effective l) < severity .stop := of_decide_eq_true below
    have le := severity_worstAction_le.1 (le_refl (severity (s.effective l))) f hf
    omega
  have mem : ∀ b, b ∈ (t.lane l).faults.map (·.action) ↔ b ∈ (s.lane l).faults.map (·.action) ∨ b = a :=
    fun b => by rw [own, List.mem_append, List.mem_singleton]
  refine worstAction_eq ?_ fun f hf => ?_
  · obtain ⟨f, hf, e⟩ := List.mem_map.1 ((mem a).2 (.inr rfl))
    exact ⟨f, List.mem_append_left _ hf, e⟩
  · rcases List.mem_append.1 hf with own | pair
    · rcases (mem f.action).1 (List.mem_map_of_mem own) with old | e
      · obtain ⟨g, hg, e⟩ := List.mem_map.1 old
        exact e ▸ low g (List.mem_append_left _ hg)
      · rw [e]
    · exact low f (List.mem_append_right _ (shared ▸ pair))

/-! ## What a rise clears (R118) -/

/-- R118: a supervisor once a follow-on of START set by CLEAR_FAULT is cleared. -/
def restartCleared (v : Supervisor) : Supervisor :=
  { v with followOn := match v.followOn with
      | .restart _ => .none
      | f => f }

theorem Supervised.clearRestart_clears (s : State) (l : LaneId) :
    Supervised l (restartCleared (s.supervisor l)) s (s.clearRestart l) := by
  have kept : ∀ f, (s.supervisor l).followOn = f →
      Supervised l { s.supervisor l with followOn := f } s s := fun f h => by
    rw [← h]
    exact Supervised.refl l s
  cases h : (s.supervisor l).followOn <;> simp only [State.clearRestart, restartCleared, h]
  case restart => exact Supervised.setFollowOn s l .none
  all_goals exact kept _ h

/-! ## What is reported changes at most the tracker -/

/-- `t` comes from `s` by changes of the tracker of lane `l`, of sessions and of notices. -/
structure TrackerTold (l : LaneId) (s t : State) : Prop where
  lane : ∃ k, t.lane l = { s.lane l with tracker := k }
  pairs : t.pairs = s.pairs
  keys : ∀ k ∈ s.notices.map noticeKey, k ∈ t.notices.map noticeKey

namespace TrackerTold

theorem refl (l : LaneId) (s : State) : TrackerTold l s s := ⟨⟨_, rfl⟩, rfl, fun _ h => h⟩

theorem trans (h : TrackerTold l s t) (k : TrackerTold l t u) : TrackerTold l s u where
  lane := by
    obtain ⟨_, first⟩ := h.lane
    obtain ⟨x, second⟩ := k.lane
    exact ⟨x, by rw [second, first]⟩
  pairs := k.pairs.trans h.pairs
  keys := fun j hj => k.keys j (h.keys j hj)

theorem supervisor (h : TrackerTold l s t) : t.supervisor l = s.supervisor l := by
  obtain ⟨_, lane⟩ := h.lane
  rw [State.supervisor, lane]
  rfl

theorem faults (h : TrackerTold l s t) : (t.lane l).faults = (s.lane l).faults := by
  obtain ⟨_, lane⟩ := h.lane
  rw [lane]

theorem armingCheck (s : State) (l : LaneId) : TrackerTold l s (s.armingCheck l) where
  lane := by
    obtain ⟨x, -, e⟩ := armingCheck_spec s l
    exact ⟨x, by rw [e, lane_modTracker, if_pos rfl]⟩
  pairs := by rw [armingCheck_others]
  keys := fun _ h => by rw [notices_armingCheck]; exact h

theorem needTaken (s : State) (l : LaneId) : TrackerTold l s (s.needTaken l) := by
  unfold State.needTaken
  split
  · exact ⟨⟨_, (lane_modTracker ..).trans (if_pos rfl)⟩, rfl, fun _ h => h⟩
  all_goals exact refl l s

theorem scored (s : State) (l : LaneId) (i : SessionId) (x : Option Session) (n : Nat) (y : NoticePayload) :
    TrackerTold l s ((s.setSession i x).raise n y) :=
  ⟨⟨_, rfl⟩, rfl, fun _ h => mem_keys_addNotice (.inl h)⟩

end TrackerTold

/-! ## The end of the superseded sequence (R87, log entry 18) -/

/-- R92: a need for a FIRST cycle met by a machine that is stopping. -/
theorem takeNeed_first_stopping (stops : Stopping (s.supervisor l)) :
    s.takeNeed l .first = (s.needTaken l).armingCheck l := by
  have taken : s.takeNeed l .first = ((s.needTaken l).armingCheck l).followPark l := by
    unfold State.takeNeed
    rcases stops.machine with m | m <;> simp [m]
  rw [taken, StaysStopping.followPark]
  rw [supervisor_armingCheck, (needTaken_equipment l).1]
  exact stops

/-- R87: with nothing held back or deferred, or no sequence in progress before. -/
theorem stopReleases_idle {v : Supervisor} (stops : Stopping (s.supervisor l))
    (moved : (s.supervisor l).cycle = v.cycle + 1)
    (nothing : v.record = none ∨ (s.supervisor l).deferredNeed = none ∧ s.NothingHeld l) :
    TrackerTold l s (s.stopReleases l v) ∧ OnPair (pairOf l) s (s.stopReleases l v) := by
  by_cases record : v.record = none
  · rw [stopReleases_begun record stops.record]
    exact ⟨.refl l s, .refl _ s⟩
  · obtain ⟨deferred, none_held⟩ := nothing.resolve_left record
    rw [stopReleases_superseded (Option.isSome_iff_ne_none.2 record) stops.record moved,
      supersededReleases_stopping stops none_held deferred]
    exact ⟨.armingCheck s l, (OnPair.refl _ s).armingCheck l rfl⟩

/-- R27, R87: a plain first ball held back is applied. -/
theorem supersededReleases_scores {i : SessionId} {x : Session} {r : BallResult} {k f : Nat} {b : Bowler}
    (stops : Stopping (s.supervisor l)) (deferred : (s.supervisor l).deferredNeed = none)
    (stays : s.NoneLeaving) (holds : (s.entry l).holder = some i) (hx : s.session i = some x)
    (held : x.held = some r) (plain : PlainFirstBall x r k f b) (charge : ¬ ChargeDue x f b)
    (exhausted : x.state ≠ .exhausted) : TrackerTold l s (s.supersededReleases l) := by
  obtain ⟨closing, moving⟩ := stays i x hx
  obtain ⟨payload, result⟩ := applyResult_plainFirstBall (l := l) hx plain charge closing moving exhausted
  let z := (s.setSession i (some (afterFirstBall x r k f b))).raise (laneSource l) payload
  have scored : TrackerTold l s z := .scored ..
  let y := (z.needTaken l).armingCheck l
  have told : TrackerTold l s y := (scored.trans (.needTaken z l)).trans (.armingCheck _ l)
  have applied : s.applyHeld l = y :=
    (applyHeld_applies holds hx held).trans (result.trans (takeNeed_first_stopping (s := z) stops))
  rw [State.supersededReleases, applied, handDeferred_none (by rw [told.supervisor]; exact deferred)]
  have all := told.trans (.armingCheck y l)
  rw [StaysStopping.followPark (by rw [all.supervisor]; exact stops)]
  exact all

/-! ## The HALT or PARK of a rise (R94, R95) -/

/-- The action whose rise places a HALT or a PARK. -/
def stopAction : StopKind → Action
  | .halt => .stop
  | .park => .park

theorem told_placeStop {k : StopKind} (present : (s.pinsetter l).state ≠ .lost)
    (owed : (s.pinsetter l).owed = none)
    (takes : (s.pinsetter l).slot = none ∨ ∃ j c q u, (s.pinsetter l).slot = some ⟨.cycle j c, q, u⟩) :
    (laneSource l, NoticeKind.machineState) ∈ (s.placeStop l k).notices.map noticeKey := by
  have free : ¬ ((s.pinsetter l).state = .lost ∨ (s.pinsetter l).owed.isSome = true) := by
    simp [present, owed]
  let u := (s.endUnfinished l).modSupervisor l fun v => { v with awaiting := awaitingBehind k v.awaiting }
  have pin : u.pinsetter l = s.pinsetter l := (Supervised.endUnfinished s l).pinsetter
  let x := ((u.modSupervisor l (newSequence (stopSequence k) none)).place (pairOf l) (pinsetterAddr (sideOf l))
    (sequenceCommand (stopSequence k) ((u.supervisor l).cycle + 1))).raiseMachineState l
  have begun : u.beginSequence l (stopSequence k) none = x.laneChanged l :=
    if_pos (slotTakes_stop.2 (by rw [pin]; exact takes))
  have placed : s.placeStop l k = (x.laneChanged l).discardOwed l := by
    rw [State.placeStop, if_neg free, if_pos (slotTakes_stop.2 takes), ← begun]
  rw [placed]
  exact ((Decides.refl (p := pairOf l)).laneChanged.discardOwed).keys (mem_keys_addNotice (.inr rfl))

/-- R111: a rise to STOP or PARK on a lane whose machine runs. -/
theorem carryRise_stops {k : StopKind} {before : Action} (effective : s.effective l = stopAction k)
    (rises : severity before < severity .stop)
    (runs : (s.supervisor l).machine = .starting ∨ (s.supervisor l).machine = .ready ∨
      (s.supervisor l).machine = .cycling) :
    s.carryRise l before = ((s.clearRestart l).placeStop l k).stopReleases l
      (restartCleared (s.supervisor l)) := by
  have cleared := Supervised.clearRestart_clears s l
  have machine : ((s.clearRestart l).supervisor l).machine = (s.supervisor l).machine := by
    rw [cleared.supervisor]; rfl
  have carried : ¬ ((s.supervisor l).machine = .manual ∨ severity (s.effective l) ≤ severity before) := by
    rw [effective]
    rintro (manual | le)
    · rw [manual] at runs; simp at runs
    · cases k <;> simp only [stopAction, severity] at le rises <;> omega
  rw [State.carryRise, if_neg carried, effective]
  cases k <;> simp only [stopAction, State.halt, State.park, State.stopRise, State.parkRise, machine] <;>
    rcases runs with m | m | m <;> simp only [m, cleared.supervisor]

end

end Sys2Proof.Machine
end

section
/-! SUPPORT. A class whose raise stops a running machine (R94, R95, R109, R111). -/

namespace Sys2Proof.Machine

open Sys2Proof

section
variable {s t : State} {l : LaneId} {c : FaultClass} {k : StopKind}

/-- R94, R95: a lane whose HALT or PARK a raise has placed, before the end of the sequence superseded. -/
def State.riseStopped (s : State) (l : LaneId) (c : FaultClass) (k : StopKind) : State :=
  (((s.faultEntered l c).tellCredit l).clearRestart l).placeStop l k

/-- What the placing leaves; `told` is the lane once the class is entered and its holder's billing state told. -/
structure RiseStopped (l : LaneId) (c : FaultClass) (k : StopKind) (s t : State) : Prop where
  told : ∃ u, LaneTold l s u ∧ OnPair (pairOf l) u t
  supervisor : t.supervisor l = stopBegun k (restartCleared (s.supervisor l))
  pinsetter : t.pinsetter l =
    putCommand (sequenceCommand (stopSequence k) ((s.supervisor l).cycle + 1)) (s.pinsetter l)
  tracker : (s.tracker l).play = .resolved → (t.tracker l).play = .resolved
  faults : (t.lane l).faults = if (s.supervisor l).record.isSome
    then ((s.lane l).faults ++ [newFault s.faultTable[faultIndex c] c s.deviceTime]).map endStepCondition
    else (s.lane l).faults ++ [newFault s.faultTable[faultIndex c] c s.deviceTime]
  raised : (laneSource l, NoticeKind.faultRaised) ∈ t.notices.map noticeKey
  placed : (laneSource l, NoticeKind.machineState) ∈ t.notices.map noticeKey
  stopping : Stopping (t.supervisor l)

theorem riseStopped_places (new : ∀ f ∈ (s.lane l).faults, f.cls ≠ c) (present : (s.pinsetter l).state ≠ .lost)
    (owed : (s.pinsetter l).owed = none)
    (takes : (s.pinsetter l).slot = none ∨ ∃ j c q u, (s.pinsetter l).slot = some ⟨.cycle j c, q, u⟩) :
    RiseStopped l c k s (s.riseStopped l c k) := by
  let e := s.faultEntered l c
  let y := e.tellCredit l
  let h := y.clearRestart l
  have told : LaneTold l s y := (LaneTold.faultEntered s l c).trans (.tellCredit e l)
  have supervisor_y : y.supervisor l = s.supervisor l := told.supervisor l
  have tracker_y : y.tracker l = s.tracker l :=
    (congrArg Lane.tracker (lane_tellCredit e l l)).trans (tracker_setLaneFaults ..)
  have faults_y : (y.lane l).faults = _ :=
    (congrArg Lane.faults (lane_tellCredit e l l)).trans (faults_faultEntered new)
  have raised_y : (laneSource l, NoticeKind.faultRaised) ∈ y.notices.map noticeKey := by
    rw [notices_tellCredit]
    exact told_faultEntered
  have pin_y : y.pinsetter l = s.pinsetter l := told.pinsetter l
  have w_eq : s.riseStopped l c k = h.placeStop l k := rfl
  have cleared : Supervised l (restartCleared (y.supervisor l)) y h := .clearRestart_clears y l
  have faults_h : (h.lane l).faults = (y.lane l).faults := faults_clearRestart
  have onPair : OnPair (pairOf l) y (h.placeStop l k) :=
    ((OnPair.refl _ y).clearRestart l rfl).placeStop l k rfl
  have decides : Decides (pairOf l) y (h.placeStop l k) := Decides.refl.clearRestart.placeStop k
  clear_value y h
  have pin : h.pinsetter l = s.pinsetter l := cleared.pinsetter.trans pin_y
  rw [← pin] at present owed takes
  have placed : StopPlaced l k h (h.placeStop l k) := placeStop_places present owed takes
  have supervisor_h : h.supervisor l = restartCleared (s.supervisor l) := by
    rw [cleared.supervisor, supervisor_y]
  rw [w_eq]
  constructor
  case told => exact ⟨y, told, onPair⟩
  case supervisor => rw [placed.supervisor, supervisor_h]
  case pinsetter => rw [placed.pinsetter, supervisor_h, pin]; rfl
  case tracker =>
    intro resolved
    have resolved_h : (h.tracker l).play = .resolved := by rw [cleared.tracker, tracker_y, resolved]
    rw [placed.tracker, rearm_resolved resolved_h, resolved_h]
  case faults => rw [faults_placeStop present owed takes, supervisor_h, faults_h, faults_y]; rfl
  case raised => exact decides.keys raised_y
  case placed => exact told_placeStop present owed takes
  case stopping => exact placed.stopping

theorem raiseLane_stops (action : s.faultTable[faultIndex c].action = stopAction k)
    (below : s.belowStop l = true) (new : ∀ f ∈ (s.lane l).faults, f.cls ≠ c)
    (runs : (s.supervisor l).machine = .starting ∨ (s.supervisor l).machine = .ready ∨
      (s.supervisor l).machine = .cycling) :
    s.raiseLane l c = ((s.riseStopped l c k).stopReleases l (restartCleared (s.supervisor l))).armingCheck l := by
  let y := (s.faultEntered l c).tellCredit l
  have told : LaneTold l s y := (LaneTold.faultEntered s l c).trans (.tellCredit _ l)
  have supervisor : y.supervisor l = s.supervisor l := told.supervisor l
  have faults : (y.lane l).faults = _ :=
    (congrArg Lane.faults (lane_tellCredit _ l l)).trans (faults_faultEntered new)
  have severe : severity .stop ≤ severity (stopAction k) := by cases k <;> decide
  have effective : y.effective l = stopAction k :=
    effective_raised below severe (by rw [faults, List.map_append, ← action]; rfl)
      (congrArg Pair.faults (told.pair _))
  show (y.carryRise l (s.effective l)).armingCheck l = _
  rw [carryRise_stops effective (of_decide_eq_true below) (by rw [supervisor]; exact runs), supervisor]
  rfl

/-- What holds of the lane once the raise is done, apart from its sessions. -/
structure RaisedToStop (l : LaneId) (c : FaultClass) (k : StopKind) (s t : State) : Prop where
  effective : t.effective l = stopAction k
  faults : (t.lane l).faults =
    (if (s.supervisor l).record.isSome then (s.lane l).faults.map endStepCondition else (s.lane l).faults) ++
      [newFault s.faultTable[faultIndex c] c s.deviceTime]
  supervisor : t.supervisor l = stopBegun k (restartCleared (s.supervisor l))
  pinsetter : t.pinsetter l =
    putCommand (sequenceCommand (stopSequence k) ((s.supervisor l).cycle + 1)) (s.pinsetter l)
  raised : (laneSource l, NoticeKind.faultRaised) ∈ t.notices.map noticeKey
  placed : (laneSource l, NoticeKind.machineState) ∈ t.notices.map noticeKey

theorem RiseStopped.reported {w : State} (h : RiseStopped l c k s w) (told : TrackerTold l w t)
    (action : s.faultTable[faultIndex c].action = stopAction k) (below : s.belowStop l = true)
    (lasts : c ≠ .stepOverdue ∧ c ≠ .startFailed) : RaisedToStop l c k s t := by
  obtain ⟨u, first, second⟩ := h.told
  have kept : endStepCondition (newFault s.faultTable[faultIndex c] c s.deviceTime) = _ :=
    if_neg (not_or.2 lasts)
  have same : ∀ f, (endStepCondition f).action = f.action := fun f => by
    unfold endStepCondition
    split <;> rfl
  have faults : (t.lane l).faults =
      (if (s.supervisor l).record.isSome then (s.lane l).faults.map endStepCondition
        else (s.lane l).faults) ++ [newFault s.faultTable[faultIndex c] c s.deviceTime] := by
    rw [told.faults, h.faults]
    split
    · rw [List.map_append, List.map_singleton, kept]
    · rfl
  have own : (t.lane l).faults.map (·.action) = (s.lane l).faults.map (·.action) ++ [stopAction k] := by
    rw [faults, List.map_append, ← action]
    split
    · rw [List.map_map, show (fun f : FaultEntry => f.action) ∘ endStepCondition = (·.action) from funext same]
      rfl
    · rfl
  have shared : (t.pair (pairOf l)).faults = (s.pair (pairOf l)).faults := by
    rw [State.pair, told.pairs]
    exact (second.pairFaults _).trans (congrArg Pair.faults (first.pair _))
  have severe : severity .stop ≤ severity (stopAction k) := by cases k <;> decide
  exact ⟨effective_raised below severe own shared, faults, told.supervisor.trans h.supervisor,
    (pinsetter_of_pairs told.pairs l).trans h.pinsetter, told.keys _ h.raised, told.keys _ h.placed⟩

end

end Sys2Proof.Machine
end

section
/-! SUPPORT. What the sessions meet when a raise stops a machine (R27, R87), and the end of a sequence by its
SEQUENCE_DONE (R87). -/

namespace Sys2Proof.Machine

open Sys2Proof

section
variable {s t : State} {l : LaneId} {c : FaultClass} {k : StopKind}

theorem RiseStopped.nothing {w : State} (h : RiseStopped l c k s w)
    (nothing : (s.supervisor l).record = none ∨ (s.supervisor l).deferredNeed = none ∧ s.NothingHeld l) :
    let t := (w.stopReleases l (restartCleared (s.supervisor l))).armingCheck l
    TrackerTold l w t ∧ CreditFollows (pairOf l) s t := by
  obtain ⟨u, first, second⟩ := h.told
  obtain ⟨told, onPair⟩ := stopReleases_idle (v := restartCleared (s.supervisor l)) h.stopping
    (by rw [h.supervisor]; rfl)
    (nothing.imp_right fun ⟨deferred, none_held⟩ => ⟨by rw [h.supervisor]; exact deferred,
      second.nothingHeld (first.nothingHeld none_held)⟩)
  exact ⟨told.trans (.armingCheck _ l),
    first.creditFollows.trans ((second.trans onPair).armingCheck l rfl).creditFollows⟩

/-- What applying a plain first ball of session `i` leaves of the sessions and of the lane's ball. -/
structure FirstBallScored (l : LaneId) (i : SessionId) (y : Session) (s t : State) : Prop where
  scored : ∃ z, t.session i = some z ∧ SameButBillingState y z
  others : ∀ j x, j ≠ i → s.session j = some x → ∃ z, t.session j = some z ∧ SameButBillingState x z
  ball : (s.tracker l).play = .resolved → (t.tracker l).play = .notArmed
  charges : t.charges = s.charges
  stays : t.NoneLeaving

theorem RiseStopped.scores {w : State} {i : SessionId} {x : Session} {r : BallResult} {m f : Nat} {b : Bowler}
    (h : RiseStopped l c k s w) (record : (s.supervisor l).record.isSome = true)
    (deferred : (s.supervisor l).deferredNeed = none) (stays : s.NoneLeaving)
    (holds : (s.entry l).holder = some i) (hx : s.session i = some x) (held : x.held = some r)
    (plain : PlainFirstBall x r m f b) (charge : ¬ ChargeDue x f b) (exhausted : x.state ≠ .exhausted) :
    let t := (w.stopReleases l (restartCleared (s.supervisor l))).armingCheck l
    TrackerTold l w t ∧ FirstBallScored l i (afterFirstBall x r m f b) s t := by
  obtain ⟨u, first, second⟩ := h.told
  obtain ⟨bill, hu⟩ := first.used i x hx
  have hw : w.session i = some (billedAs bill x) := (second.session i).trans hu
  have stays_w : w.NoneLeaving := second.noneLeaving (first.noneLeaving stays)
  have holds_w : (w.entry l).holder = some i := by rw [second.entry, first.entry]; exact holds
  have plain_w := plainFirstBall_billedAs plain bill
  have released : w.stopReleases l (restartCleared (s.supervisor l)) = w.supersededReleases l :=
    stopReleases_superseded record h.stopping.record (by rw [h.supervisor]; rfl)
  have told : TrackerTold l w (w.supersededReleases l) := supersededReleases_scores h.stopping
    (by rw [h.supervisor]; exact deferred) stays_w holds_w hw held plain_w charge exhausted
  obtain ⟨onPair, -, ball⟩ :=
    supersededReleases_firstBall (.refl _ w) h.stopping holds_w hw held plain_w charge
  rw [released]
  generalize w.supersededReleases l = v at *
  have stopping_v : Stopping (v.supervisor l) := by rw [told.supervisor]; exact h.stopping
  have after := onPair.armingCheck l rfl
  refine ⟨told.trans (.armingCheck v l), ?_⟩
  constructor
  case scored =>
    exact ⟨afterFirstBall (billedAs bill x) r m f b, (after.session i).trans (session_setSession_self ..), rfl⟩
  case others =>
    intro j z other hz
    obtain ⟨e, hj⟩ := first.used j z hz
    refine ⟨_, (after.session j).trans ?_, sameBut_billedAs e z⟩
    rw [session_setSession, if_neg other]
    exact (second.session j).trans hj
  case ball => exact fun resolved => (StaysStopping.armingCheck stopping_v).play (ball (h.tracker resolved))
  case charges => rw [after.charges]; exact second.charges.trans first.charges
  case stays => exact after.noneLeaving (stays_w.setSession hw rfl)

/-! ## A JAM that stops the machine (R85, R109) -/

/-- R94, R95: a JAM whose class places a HALT or PARK, `t` being the lane once the end of the sequence
superseded is reported. -/
theorem PinsetterPolled.jamStops {d : Nat} (h : PinsetterPolled l none d s)
    (manual : (s.supervisor l).machine ≠ .manual) (new : ∀ f ∈ (s.lane l).faults, f.cls ≠ .machineJam)
    (action : s.faultTable[faultIndex .machineJam].action = stopAction k) (below : s.belowStop l = true)
    (runs : (s.supervisor l).machine = .starting ∨ (s.supervisor l).machine = .ready ∨
      (s.supervisor l).machine = .cycling)
    (takes : (s.pinsetter l).slot = none ∨ ∃ j c q u, (s.pinsetter l).slot = some ⟨.cycle j c, q, u⟩) :
    let u := s.answered (pairOf l) (pinsetterAddr (sideOf l))
    let w := u.riseStopped l .machineJam k
    RiseStopped l .machineJam k u w ∧
      ∀ t, (w.stopReleases l (restartCleared (u.supervisor l))).armingCheck l = t → TrackerTold l w t →
        t.NoneLeaving → RaisedToStop l .machineJam k u t ∧
          exec (answerFrom (pairOf l) (pinsetterAddr (sideOf l)) 0 ([3#8, 0#8].length / 2) [3#8, 0#8]) s =
            .next (t.nextPoll (pairOf l)).settleTrunk := by
  intro u w
  have node : u.pinsetter l = { s.pinsetter l with misses := 0 } := pinsetter_answered
  have onPair : OnPair (pairOf l) s u := (OnPair.refl _ s).modNode _ _ _ rfl
  obtain ⟨-, below_u, -⟩ := faultsOn_congr (s := s) (t := u) (l := l) rfl (onPair.pairFaults _)
  rw [below] at below_u
  have rise : RiseStopped l .machineJam k u w := riseStopped_places new
    (by rw [node]; exact fun lost => nomatch h.alive.symm.trans lost) (by rw [node]; exact h.owed)
    (by rw [node]; exact takes)
  refine ⟨rise, fun t released told stays => ?_⟩
  have reported := rise.reported told action below_u (by decide)
  exact ⟨reported, h.report manual ((raiseLane_stops (s := u) action below_u new runs).trans released)
    (fun e watch => by rw [reported.supervisor] at watch; cases watch) stays⟩

/-! ## SEQUENCE_DONE (R87) -/

/-- R87: the end of a sequence with nothing held back, owed, deferred or to follow. -/
structure SequenceEnded (l : LaneId) (k : Sequence) (s t : State) : Prop where
  onPair : OnPair (pairOf l) s t
  supervisor : t.supervisor l = doneSupervisor k (s.supervisor l)
  faults : (t.lane l).faults = (s.lane l).faults.map endStepCondition
  told : (laneSource l, NoticeKind.machineState) ∈ t.notices.map noticeKey

theorem sequenceDone_ends {r : CycleRecord} (restart : r.restart = none)
    (owed : (s.supervisor l).owed = none) (followOn : (s.supervisor l).followOn = .none)
    (deferred : (s.supervisor l).deferredNeed = none) (nothing : s.NothingHeld l) :
    SequenceEnded l r.kind s (s.sequenceDone l r) := by
  let u := ((s.modSupervisor l (doneSupervisor r.kind)).endStepConditions l).raiseMachineState l
  let w := u.laneChanged l
  have supervisor : w.supervisor l = doneSupervisor r.kind (s.supervisor l) :=
    (supervisor_laneChanged ..).trans
      ((supervisor_setLaneFaults ..).trans (supervisor_modSupervisor_self ..))
  have onPair : OnPair (pairOf l) s w :=
    ((((OnPair.refl _ s).modSupervisor l _ rfl).endStepConditions l rfl).raiseMachineState l rfl).laneChanged l
      rfl
  have told : (laneSource l, NoticeKind.machineState) ∈ w.notices.map noticeKey :=
    (Decides.refl (p := pairOf l)).laneChanged.keys (mem_keys_addNotice (.inr rfl))
  have faults : (w.lane l).faults = (s.lane l).faults.map endStepCondition := by
    rw [show w = (u.decideLift (pairOf l)).armingCheck l from rfl, faults_armingCheck, lane_decideLift]
    refine (faults_setLaneFaults ..).trans ((if_pos rfl).trans ?_)
    rw [faults_modSupervisor]
  have free : w.sequencing l = false := by
    rw [State.sequencing, supervisor]
    rfl
  have released : w.released l = w := by
    have held : w.releaseHeld l = w := by
      rw [State.releaseHeld, free]
      exact applyHeld_nothing (onPair.nothingHeld nothing)
    rw [State.released, held, State.releaseDeferred, free]
    exact handDeferred_none (by rw [supervisor]; exact deferred)
  have resumed : w.sendResume l r = w := by
    unfold State.sendResume
    split
    · next mark _ => rw [restart] at mark; cases mark
    · rfl
  have ended : s.sequenceDone l r = w.armingCheck l := by
    have idle : ((w.armingCheck l).supervisor l).followOn = .none := by
      rw [supervisor_armingCheck, supervisor]
      exact followOn
    show State.considerFollowOn ((w.released l).sendResume l r) l = _
    rw [released, resumed, State.considerFollowOn, runOwed_none (by rw [supervisor]; exact owed),
      followPark_idle (by rw [idle]; nofun), followStart_idle (.inl idle)]
  rw [ended]
  exact ⟨onPair.armingCheck l rfl, (supervisor_armingCheck ..).trans supervisor,
    (faults_armingCheck ..).trans faults, by rw [notices_armingCheck]; exact told⟩

theorem PinsetterPolled.sequenceDone {k : Sequence} {m : CycleNo} {d : Nat} {w : Option Nat}
    (h : PinsetterPolled l none d s) (manual : (s.supervisor l).machine ≠ .manual)
    (record : (s.supervisor l).record = some ⟨k, m, .sequenceDone, true, w, none⟩)
    (current : (s.supervisor l).superseded ≠ some m) (awaiting : (s.supervisor l).awaiting = none)
    (owed : (s.supervisor l).owed = none) (followOn : (s.supervisor l).followOn = .none)
    (deferred : (s.supervisor l).deferredNeed = none) (nothing : s.NothingHeld l) :
    let u := s.answered (pairOf l) (pinsetterAddr (sideOf l))
    ∃ t, exec (answerFrom (pairOf l) (pinsetterAddr (sideOf l)) 0
        ([2#8, BitVec.ofNat 8 (m.toNat * 16)].length / 2) [2#8, BitVec.ofNat 8 (m.toNat * 16)]) s =
          .next (t.nextPoll (pairOf l)).settleTrunk ∧ SequenceEnded l k u t := by
  intro u
  let r : CycleRecord := ⟨k, m, .sequenceDone, true, w, none⟩
  have onPair : OnPair (pairOf l) s u := (OnPair.refl _ s).modNode _ _ _ rfl
  have ends : SequenceEnded l k u (u.sequenceDone l r) :=
    sequenceDone_ends (s := u) (r := r) rfl owed followOn deferred (onPair.nothingHeld nothing)
  have done : u.takeReport l (reportOf 2#8 (BitVec.ofNat 8 (m.toNat * 16))) = u.sequenceDone l r := by
    rw [reportOf_sequenceDone]
    exact stepReport_running (s := u) (r := r) record current rfl rfl (by rw [ends.supervisor]; exact awaiting)
  exact ⟨_, h.report manual done (fun e watch => by rw [ends.supervisor] at watch; cases watch)
    (ends.onPair.noneLeaving (onPair.noneLeaving h.stays)), ends⟩

end

end Sys2Proof.Machine
end

section
/-! SUPPORT. The answers of an ALIVE reader (O49): the reading, and what it makes of the ball (R76, R77). -/

namespace Sys2Proof.Machine

open Sys2Proof

section
variable {s t : State} {l : LaneId} {rd : Reading}

theorem pinsetterAddr_ne_readerAddr {d e : Side} : pinsetterAddr d ≠ readerAddr e := fun h => by
  have role := congrArg roleOf h
  rw [roleOf_pinsetterAddr, roleOf_readerAddr] at role
  cases role

theorem node_modNode_other {s : State} {p q : PairId} {a b : NodeAddr} {f : Node → Node} (h : b ≠ a) :
    (s.modNode p a f).node q b = s.node q b :=
  (node_modNode ..).trans (if_neg fun c => h c.2)

/-! ## The answer (R165, R170) -/

/-- Section 11.7: the first byte of a reading, from its parts. -/
theorem readingOf_bytes (stamp : Stamp) (settled poor : Bool) (standing : PinSet) :
    readingOf
      (BitVec.ofNat 8 (stamp.toNat + (if settled then 64 else 0) + (if poor then 128 else 0)))
      (BitVec.ofNat 8 (standing.toNat / 256)) (BitVec.ofNat 8 standing.toNat) =
        ⟨stamp, settled, poor, standing⟩ := by
  have head : ∀ stamp : Stamp,
      let b := BitVec.ofNat 8 (stamp.toNat + (if settled then 64 else 0) + (if poor then 128 else 0))
      b.truncate 6 = stamp ∧ b.getLsbD 6 = settled ∧ b.getLsbD 7 = poor := by
    cases settled <;> cases poor <;> decide
  obtain ⟨h1, h2, h3⟩ := head stamp
  have wide : standing.toNat < 65536 := standing.isLt.trans (by decide)
  have low : BitVec.ofNat 10 standing.toNat = standing := (BitVec.ofNat_toNat ..).trans (BitVec.setWidth_eq _)
  rw [readingOf, h1, h2, h3, word2_bytes wide, low]

/-- R165, R170: a reading in the answer of the reader of a lane of the map. -/
theorem exec_readerAnswer {d : Nat} (reserved : Byte) {a hi lo : Byte}
    (polled : (s.poller (pairOf l)).poll = some ⟨readerAddr (sideOf l), none, d, false⟩)
    (alive : (s.node (pairOf l) (readerAddr (sideOf l))).state = .alive) (enabled : (s.entry l).enabled = true)
    (taken : (s.answered (pairOf l) (readerAddr (sideOf l))).takeReading l (readingOf a hi lo) = t)
    (stays : t.NoneLeaving) :
    exec (answerFrom (pairOf l) (readerAddr (sideOf l)) 0 1 [a, hi, lo, reserved]) s =
      .next (t.nextPoll (pairOf l)).settleTrunk := by
  have read := readAnswer_answer (result := 0#8) (count := 1#8) (body := [a, hi, lo, reserved])
    (addressOf_succ (readerAddr (sideOf l))) (by rw [roleOf_readerAddr]; rfl)
  have answers : _ = s.answered _ _ := nodeAnswers_alive alive (by rw [roleOf_readerAddr]; nofun)
  have required : (s.answered (pairOf l) (readerAddr (sideOf l))).required (pairOf l) (readerAddr (sideOf l)) =
      true := by
    simp only [State.answered, State.required, roleOf_readerAddr, laneAt_pairOf, entry_modNode, enabled]
  refine (exec_answerReceived polled rfl read rfl).trans ?_
  rw [State.takeAnswer]
  simp only [answers, State.resolveCommand, State.handContents, required, or_true, if_true,
    State.takeContents, State.examineAt, roleOf_readerAddr, laneAt_pairOf, taken, settlePair_stays stays]

/-! ## Readings that resolve no ball (R76) -/

/-- R76: the retry timer started now. -/
def State.retryAt (s : State) (l : LaneId) : Option Nat := some (s.deviceTime + (s.profileOf l).retry)

theorem startRetry_modTracker (f : Tracker → Tracker) :
    (s.modTracker l f).startRetry l = s.modTracker l fun k => { f k with retryTimer := s.retryAt l } := by
  have profile : (s.modTracker l f).profileOf l = s.profileOf l := by
    simp only [State.profileOf, entry_modTracker, profiles_modTracker]
  rw [State.startRetry, modTracker_modTracker, profile]
  rfl

theorem takeReading_late (h : (s.tracker l).play ≠ .reading) : s.takeReading l rd =
    s.modTracker l fun k => { k with lateReadings := min 65535 (k.lateReadings + 1) } := if_neg h

/-- R76, R77: one more anomalous reading. -/
def countAnomaly (k : Tracker) : Tracker :=
  { k with anomalousReadings := min 65535 (k.anomalousReadings + 1) }

theorem raiseAnomaly_modTracker (f : Tracker → Tracker) (a : Anomaly) :
    (s.modTracker l f).raiseAnomaly l a = State.modTracker
      { s with notices := (s.raise (laneSource l) (.readingAnomaly a)).notices } l
        fun k => countAnomaly (f k) := by
  rw [State.raiseAnomaly, modTracker_modTracker]
  rfl

section
variable (reading : (s.tracker l).play = .reading)
include reading

theorem takeReading_unsettled (stamp : rd.stamp = expectedStamp (s.tracker l)) (settled : rd.settled = false) :
    s.takeReading l rd = s.modTracker l fun k => { k with retryTimer := s.retryAt l } := by
  rw [State.takeReading, if_pos reading]
  simp only [State.judgeReading, if_pos stamp, settled, Bool.false_eq_true, if_false, startRetry_modTracker]

theorem takeReading_stale (stamp : rd.stamp = expectedStamp (s.tracker l) - 1) :
    s.takeReading l rd = s.modTracker l fun k =>
      { k with staleReadings := min 65535 (k.staleReadings + 1), retryTimer := s.retryAt l } := by
  have other : rd.stamp ≠ expectedStamp (s.tracker l) := by
    rw [stamp]
    bv_omega
  rw [State.takeReading, if_pos reading]
  simp only [State.judgeReading, if_neg other, if_pos stamp, modTracker_modTracker, startRetry_modTracker]
  rfl

theorem takeReading_skewed (other : rd.stamp ≠ expectedStamp (s.tracker l))
    (fresh : rd.stamp ≠ expectedStamp (s.tracker l) - 1) :
    ∃ ns, s.takeReading l rd = { s.modTracker l fun k =>
      { k with anomalousReadings := min 65535 (k.anomalousReadings + 1), retryTimer := s.retryAt l } with
        notices := ns } ∧ (laneSource l, NoticeKind.readingAnomaly) ∈ ns.map noticeKey := by
  rw [State.takeReading, if_pos reading]
  simp only [State.judgeReading, if_neg other, if_neg fresh, State.skewReading, raiseAnomaly_modTracker,
    startRetry_modTracker]
  exact ⟨_, rfl, mem_keys_addNotice (.inr rfl)⟩

/-! ## The reading that resolves the ball (R77) -/

/-- R77: the tracker of a ball resolved by a reading, counted as anomalous where `odd`. -/
def readTracker (odd : Bool) (k : Tracker) : Tracker :=
  resolveBall { k with anomalousReadings :=
    if odd = true then min 65535 (k.anomalousReadings + 1) else k.anomalousReadings }

theorem takeReading_settled {i : SessionId} {x : Session} (stamp : rd.stamp = expectedStamp (s.tracker l))
    (settled : rd.settled = true) (holds : (s.entry l).holder = some i) (hx : s.session i = some x) :
    ∃ ns, (anomalous rd x.nextBall.before = true →
        (laneSource l, NoticeKind.readingAnomaly) ∈ ns.map noticeKey) ∧
      s.takeReading l rd =
        State.handResult { s.modTracker l (readTracker (anomalous rd x.nextBall.before)) with notices := ns } l
          (readingResult rd x.nextBall.before (heldFoul (s.tracker l))) := by
  have holder : s.holder l = some (i, x) := holder_eq_some.2 ⟨holds, hx⟩
  have tracker : (s.modTracker l fun k => { k with retryTimer := none }).tracker l =
      { s.tracker l with retryTimer := none } := tracker_modTracker_self ..
  rw [State.takeReading, if_pos reading]
  simp only [State.judgeReading, if_pos stamp, settled, if_true, holder, State.acceptReading]
  cases odd : anomalous rd x.nextBall.before with
  | false =>
    refine ⟨s.notices, nofun, ?_⟩
    rw [if_neg nofun, modTracker_modTracker, heldFoul, tracker]
    rfl
  | true =>
    rw [if_pos rfl, raiseAnomaly_modTracker, modTracker_modTracker, heldFoul, tracker]
    exact ⟨_, fun _ => mem_keys_addNotice (.inr rfl), rfl⟩

/-- R27, R77: a ball resolved while a sequence is in progress is held back. -/
theorem takeReading_held {i : SessionId} {x : Session} (stamp : rd.stamp = expectedStamp (s.tracker l))
    (settled : rd.settled = true) (holds : (s.entry l).holder = some i) (hx : s.session i = some x)
    (record : (s.supervisor l).record.isSome = true) :
    let odd := anomalous rd x.nextBall.before
    let result := readingResult rd x.nextBall.before (heldFoul (s.tracker l))
    ∃ ns, (odd = true → (laneSource l, NoticeKind.readingAnomaly) ∈ ns.map noticeKey) ∧
      s.takeReading l rd = { (s.modTracker l (readTracker odd)).setSession i
        (some { x with held := some result }) with notices := ns } := by
  intro odd result
  obtain ⟨ns, told, taken⟩ := takeReading_settled reading stamp settled holds hx
  let w : State := { s.modTracker l (readTracker odd) with notices := ns }
  have holds_w : (w.entry l).holder = some i := (congrArg LaneEntry.holder (entry_modTracker ..)).trans holds
  have sequencing : w.sequencing l = true :=
    (congrArg (fun v : Supervisor => v.record.isSome) (supervisor_modTracker ..)).trans record
  have hx_w : w.session i = some x := hx
  refine ⟨ns, told, taken.trans ?_⟩
  rw [handResult_holder holds_w, if_pos sequencing, modSession_eq hx_w]
  rfl

/-- R27, R77: with the machine at rest a plain first ball is applied. -/
theorem takeReading_scores {i : SessionId} {x : Session} {m f : Nat} {b : Bowler}
    (stamp : rd.stamp = expectedStamp (s.tracker l)) (settled : rd.settled = true)
    (holds : (s.entry l).holder = some i) (hx : s.session i = some x) (stays : s.NoneLeaving)
    (plain : PlainFirstBall x (readingResult rd x.nextBall.before (heldFoul (s.tracker l))) m f b)
    (charge : ¬ ChargeDue x f b) (exhausted : x.state ≠ .exhausted)
    (record : (s.supervisor l).record = none) (deferred : (s.supervisor l).deferredNeed = none)
    (owed : (s.supervisor l).owed = none) (empty : (s.pinsetter l).slot = none) :
    let result := readingResult rd x.nextBall.before (heldFoul (s.tracker l))
    let t := s.takeReading l rd
    (t.tracker l).play = .notArmed ∧
      OnPair (pairOf l) (s.setSession i (some (afterFirstBall x result m f b))) t := by
  intro result t
  obtain ⟨ns, -, taken⟩ := takeReading_settled reading stamp settled holds hx
  let w : State := { s.modTracker l (readTracker (anomalous rd x.nextBall.before)) with notices := ns }
  have onPair : OnPair (pairOf l) s w :=
    ((OnPair.refl _ s).modTracker l rfl rfl).trans (.of_notices rfl)
  have holds_w : (w.entry l).holder = some i := by rw [onPair.entry]; exact holds
  have hx_w : w.session i = some x := (onPair.session i).trans hx
  have supervisor : w.supervisor l = s.supervisor l := supervisor_modTracker ..
  have resolved : (w.tracker l).play = .resolved := congrArg Tracker.play (tracker_modTracker_self s l _)
  have sequencing : ¬ w.sequencing l = true := by
    rw [State.sequencing, supervisor, record]
    nofun
  have pin : w.pinsetter l = s.pinsetter l := rfl
  change t = w.handResult l result at taken
  clear_value w t
  subst taken
  obtain ⟨closing, moving⟩ := stays i x hx
  obtain ⟨payload, applied⟩ := applyResult_plainFirstBall (l := l) hx_w plain charge closing moving exhausted
  let z := (w.setSession i (some (afterFirstBall x result m f b))).raise (laneSource l) payload
  have scored : w.handResult l result = z.takeNeed l .first := by
    rw [handResult_holder holds_w, if_neg sequencing]
    exact applied
  have supervisor_z : z.supervisor l = s.supervisor l := supervisor
  have after : AfterNeed l (z.takeNeed l .first) := afterNeed_takeNeed resolved
    (by rw [supervisor_z]; exact record) (by rw [supervisor_z]; exact deferred)
    (by rw [supervisor_z]; exact owed) (empty := (congrArg Node.slot pin).trans empty)
  rw [scored]
  exact ⟨after.ball, ((onPair.setSession_congr i _).raise (laneSource l) payload).takeNeed l .first rfl⟩

end

end

end Sys2Proof.Machine

open Sys2Proof Sys2Proof.Machine

/-- Settles O49: the command field and the reports of a pinsetter, then the readings of a reader. -/
theorem answerEndsPollAndIsTaken : Obligations.AnswerEndsPollAndIsTaken := by
  unfold Obligations.AnswerEndsPollAndIsTaken
  intro s l d stays enabled p a v frame answer u watched
  have stays_u : u.NoneLeaving := stays
  have onPair_u : OnPair p s u := (OnPair.refl p s).modNode p a _ rfl
  refine ⟨fun alive owed manual profile => ⟨fun c q tries polled slot => ?_, fun polled => ?_⟩, ?_⟩
  · have waiting : PinsetterPolled l (some (c, q)) d s := ⟨polled, alive, owed, enabled, stays⟩
    refine ⟨fun k m st later mark carried record awaiting command => ?_,
      fun few idle => waiting.checkError slot few idle⟩
    obtain rfl := sequenceCommand_eq command
    exact waiting.acks profile slot carried record awaiting
  · have waiting : PinsetterPolled l none d s := ⟨polled, alive, owed, enabled, stays⟩
    refine ⟨fun idle => waiting.empty idle, ?_, ?_, ?_, ?_⟩
    · intro k m st later w mark record current awaiting waits
      refine (waiting.stepDone manual profile record current awaiting waits).trans ?_
      cases later <;> rfl
    · intro k m w record current awaiting owes followOn deferred nothing
      obtain ⟨t, run, ends⟩ := waiting.sequenceDone manual record current awaiting owes followOn deferred nothing
      refine ⟨t, run, onPair_u.trans ends.onPair, ends.supervisor.trans ?_, ends.faults, exists_of_key ends.told⟩
      cases k <;> rfl
    · intro idle new mild
      have raised := raiseLane_mildlyRaised (s := u) (l := l) (c := .machineJam) mild new
      exact ⟨u.raiseLane l .machineJam, waiting.report manual rfl
        (fun e watch => by rw [raised.supervisor] at watch; exact nomatch idle.symm.trans watch)
        (raised.stays stays_u), raised.faults, raised.supervisor, raised.charges, raised.sessions,
        exists_of_key raised.told⟩
    · intro kind idle new act action below runs awaiting takes run stopped
      have action_u : u.faultTable[faultIndex .machineJam].action = stopAction kind :=
        action.trans (by cases kind <;> rfl)
      let w := u.riseStopped l .machineJam kind
      obtain ⟨rise, ends⟩ := waiting.jamStops manual new action_u below runs takes
      have stops : ∀ {t}, (w.stopReleases l (restartCleared v)).armingCheck l = t → TrackerTold l w t →
          t.charges = s.charges → t.NoneLeaving → stopped t := by
        intro t released told charges stays_t
        obtain ⟨reported, run_t⟩ := ends t released told stays_t
        refine ⟨run_t, reported.effective.trans action_u.symm, reported.faults,
          reported.supervisor.trans (?_ : stopBegun kind (restartCleared v) = _),
          (congrArg Node.slot reported.pinsetter).trans ?_, charges, ?_⟩
        · clear_value v
          rcases v with ⟨_, _, _ | _, _, _, _, _⟩ <;> cases kind <;> cases awaiting <;> rfl
        · rw [pinsetter_answered]
          cases kind <;> rfl
        · rintro c (rfl | rfl)
          · exact exists_of_key reported.raised
          · exact exists_of_key reported.placed
      refine ⟨fun nothing => ?_, fun i x r k f b record deferred holds hx held plain charge exhausted => ?_⟩
      · obtain ⟨told, follows⟩ := rise.nothing nothing
        exact ⟨_, stops rfl told follows.charges (follows.noneLeaving stays_u), follows.used⟩
      · obtain ⟨told, scored⟩ := rise.scores record deferred stays_u holds hx held plain charge exhausted
        exact ⟨_, stops rfl told scored.charges scored.stays, scored.scored, scored.others, scored.ball⟩
  · intro stamp settled poor standing reserved b polled alive k expected retry run taken resolved
    let w := s.answered p b
    let rd : Reading := ⟨stamp, settled, poor, standing⟩
    have onPair_w : OnPair p s w := (OnPair.refl p s).modNode p b _ rfl
    have stamp_eq : expectedStamp k = expected := expectedStamp_eq k
    have answered : ∀ {t}, w.takeReading l rd = t → t.NoneLeaving → run = .next (t.nextPoll p).settleTrunk :=
      fun h stays_t => exec_readerAnswer reserved polled alive enabled
        ((congrArg (State.takeReading w l) (readingOf_bytes stamp settled poor standing)).trans h) stays_t
    refine ⟨fun late => answered (takeReading_late late) stays, fun reading same unsettled => ?_,
      fun reading stale => ?_, fun reading other fresh => ?_, fun i x reading same isSettled holds hx => ?_⟩
    · exact answered (takeReading_unsettled reading (same.trans stamp_eq.symm) unsettled) stays
    · exact answered (takeReading_stale reading (stale.trans (congrArg (· - 1) stamp_eq.symm))) stays
    · obtain ⟨ns, skewed, told⟩ := takeReading_skewed (s := w) (rd := rd) reading (stamp_eq ▸ other)
        (stamp_eq ▸ fresh)
      exact ⟨_, answered skewed stays, rfl, exists_of_key told⟩
    · intro result odd anomalies
      have odd_eq : anomalous rd x.nextBall.before = odd := by
        refine congrArg (poor || ·) ?_
        rw [Bool.eq_iff_iff, bne_iff_ne, decide_eq_true_iff]
      have same_w : rd.stamp = expectedStamp (w.tracker l) := same.trans stamp_eq.symm
      refine ⟨fun record => ?_, fun j f c record plain charge exhausted deferred owes empty => ?_⟩
      · obtain ⟨ns, told, held⟩ := takeReading_held (s := w) (rd := rd) reading same_w isSettled holds hx record
        have tracked : w.modTracker l (readTracker (anomalous rd x.nextBall.before)) =
            resolved fun k => { k with anomalousReadings := anomalies } :=
          modTracker_congr _ _ (by rw [odd_eq]; rfl)
        rw [tracked] at held
        exact ⟨_, answered held (State.NoneLeaving.setSession (s := w) stays hx rfl), rfl,
          fun isOdd => exists_of_key (told (odd_eq.trans isOdd))⟩
      · have pin : w.pinsetter l = s.pinsetter l := node_modNode_other pinsetterAddr_ne_readerAddr
        obtain ⟨ball, onPair⟩ := takeReading_scores (s := w) (rd := rd) reading same_w isSettled holds hx stays
          plain charge exhausted record deferred owes (by rw [pin]; exact empty)
        exact ⟨_, answered rfl (onPair.noneLeaving (State.NoneLeaving.setSession (s := w) stays hx rfl)), ball,
          (onPair_w.setSession_congr i _).trans onPair⟩

end

section
/-! SUPPORT. What a request leaves of the trunk, of the pending notice set and of the commands that wait
(O4, O5, O9, O10): a load by a lemma of its own, every other request by what `Kept` says. -/

namespace Sys2Proof.Machine

open Sys2Proof

/-! ## The notice set under an update (R178) -/

/-- A pending set whose entries keep their sources, kinds and merge counts. -/
theorem NoticesOk.map {ns : List Notice} (h : NoticesOk ns) {f : Notice → Notice}
    (same : ∀ n, noticeKey (f n) = noticeKey n ∧ (f n).merges = n.merges) : NoticesOk (ns.map f) where
  distinct := by
    rw [List.map_map]
    exact (List.map_congr_left (g := noticeKey) fun n _ => (same n).1) ▸ h.distinct
  merges := fun m hm => by
    obtain ⟨n, hn, rfl⟩ := List.mem_map.1 hm
    rw [(same n).2]
    exact h.merges n hn

/-- A notice that is sent leaves the set. -/
theorem NoticesOk.erase {ns : List Notice} (h : NoticesOk ns) (n : Notice) : NoticesOk (ns.erase n) where
  distinct := h.distinct.sublist (List.erase_sublist.map _)
  merges := fun m hm => h.merges m (List.mem_of_mem_erase hm)

/-- The empty set. -/
theorem noticesOk_nil : NoticesOk [] := ⟨List.nodup_nil, fun _ h => absurd h List.not_mem_nil⟩

/-! ## What a load leaves -/

/-- The commands that wait and the trunk stand, and the pending notice set keeps one entry per source and
kind. -/
structure DeskStands (s t : State) : Prop where
  pending : t.pending = s.pending
  trunk : t.trunk = s.trunk
  notices : NoticesOk s.notices → NoticesOk t.notices

namespace DeskStands

variable {s t u : State}

theorem refl (s : State) : DeskStands s s := ⟨rfl, rfl, id⟩

theorem trans (h : DeskStands s t) (k : DeskStands t u) : DeskStands s u :=
  ⟨k.pending.trans h.pending, k.trunk.trans h.trunk, k.notices ∘ h.notices⟩

theorem of_kept (h : Kept s t) : DeskStands s t := ⟨h.pending, h.trunk, h.notices⟩

/-- Only the waiting commands, the trunk and the notice set count. -/
theorem of_eq (pending : t.pending = s.pending) (trunk : t.trunk = s.trunk)
    (notices : t.notices = s.notices) : DeskStands s t := ⟨pending, trunk, fun h => notices ▸ h⟩

theorem modEntry (h : DeskStands s t) (l : LaneId) (f : LaneEntry → LaneEntry) :
    DeskStands s (t.modEntry l f) := h.trans (of_eq rfl rfl rfl)

theorem modFilter (h : DeskStands s t) (p : PairId) (f : Filter → Filter) :
    DeskStands s (t.modFilter p f) := h.trans (of_eq rfl rfl rfl)

theorem foldl {α : Type} {f : State → α → State} (hf : ∀ v x, DeskStands v (f v x)) (xs : List α)
    (s : State) : DeskStands s (xs.foldl f s) :=
  xs.foldlRecOn (motive := DeskStands s) f (refl s) fun _ h x _ => h.trans (hf _ x)

/-! ## The loads of the tables -/

theorem loseConsole (s : State) (p : PairId) (d : Side) (c : Bool) :
    DeskStands s (s.loseConsole p d c) := by
  unfold State.loseConsole
  split
  · exact of_kept ((Kept.refl s).discardDisplay p d)
  · exact refl s

theorem loadPair (s : State) (e : LaneMapPair) : DeskStands s (s.loadPair e) := by
  unfold State.loadPair
  split
  · exact refl s
  · next p _ =>
    have consoles := (loseConsole s p .left e.left.hasConsole).trans
      (loseConsole _ p .right e.right.hasConsole)
    refine trans ?_ (of_kept ((((Kept.refl _).mendOrder s p).decideLift p).armPair p))
    exact ((consoles.modEntry _ _).modEntry _ _).modFilter p _

theorem setLaneMap (s : State) (es : List LaneMapPair) : DeskStands s (reqSetLaneMap es s).1 := by
  unfold reqSetLaneMap
  dsimp only
  split
  · exact refl s
  · split
    · exact refl s
    · split
      · exact refl s
      · obtain ⟨pending, trunk, notices⟩ := foldl loadPair es s
        exact ⟨pending, trunk, notices⟩

theorem setProfile (s : State) (n : Nat) (f : Profile) : DeskStands s (reqSetProfile n f s).1 := by
  unfold reqSetProfile
  split <;> exact of_eq rfl rfl rfl

theorem setFaultAction (s : State) (xs : List FaultActionItem) :
    DeskStands s (reqSetFaultAction xs s).1 := by
  unfold reqSetFaultAction
  split
  · exact refl s
  · refine foldl (fun v x => ?_) xs s
    rw [loadFaultAction_eq]
    exact of_eq rfl rfl rfl

/-- R179: a new priority leaves the source, the kind and the merge count of an entry. -/
theorem loadPriority (s : State) (x : NoticePriorityItem) : DeskStands s (s.loadPriority x) := by
  unfold State.loadPriority
  split
  · exact refl s
  · refine ⟨rfl, rfl, fun h => h.map fun n => ?_⟩
    unfold retune
    split <;> exact ⟨rfl, rfl⟩

theorem setNoticePriority (s : State) (xs : List NoticePriorityItem) :
    DeskStands s (reqSetNoticePriority xs s).1 := by
  unfold reqSetNoticePriority
  split
  · exact refl s
  · exact foldl loadPriority xs s

theorem setPollOrder (s : State) (p : Nat) (ns : List Nat) (timeout threshold : Nat) :
    DeskStands s (reqSetPollOrder p ns timeout threshold s).1 := by
  unfold reqSetPollOrder
  split
  · exact refl s
  · split
    · exact refl s
    · split <;> exact of_eq rfl rfl rfl

theorem setDefaults (s : State) (f : DefaultsFields) : DeskStands s (reqSetDefaults f s).1 := by
  unfold reqSetDefaults
  split
  · exact refl s
  · split <;> exact of_eq rfl rfl rfl

theorem loadReturnItem (s : State) (x : ReturnItem) : DeskStands s (s.loadReturnItem x) := by
  unfold State.loadReturnItem
  split
  · exact refl s
  · next p _ =>
    have loaded : DeskStands s (s.modReturn p (loadReturn x)) := of_eq rfl rfl rfl
    exact loaded.trans (of_kept ((Kept.refl _).returnChanged p _))

theorem setReturn (s : State) (xs : List ReturnItem) : DeskStands s (reqSetReturn xs s).1 := by
  unfold reqSetReturn
  split
  · exact refl s
  · exact foldl loadReturnItem xs s

/-! ## The clock, the special days and the device -/

theorem setClock (s : State) (c : Calendar) : DeskStands s (reqSetClock c s).1 := by
  have set : ∀ k, DeskStands s { s with clock := k } := fun _ => of_eq rfl rfl rfl
  unfold reqSetClock
  split
  · exact (set _).trans (of_kept ((Kept.refl _).raise _ _))
  · exact refl s

theorem adjustClock (s : State) : DeskStands s (reqAdjustClock s).1 := by
  have set : ∀ k, DeskStands s { s with clock := k } := fun _ => of_eq rfl rfl rfl
  unfold reqAdjustClock
  split
  · exact (set _).trans (of_kept ((Kept.refl _).raise _ _))
  · exact refl s

theorem stageSpecialDay (s : State) (day month : Nat) (weekday : Option Nat) :
    DeskStands s (reqStageSpecialDay day month weekday s).1 := by
  unfold reqStageSpecialDay
  dsimp only
  split
  · exact refl s
  · split
    · exact refl s
    · split <;> split <;> exact of_eq rfl rfl rfl

theorem goRun (s : State) : DeskStands s (reqGoRun s).1 := by
  unfold reqGoRun
  split
  · exact refl s
  · split <;> exact of_eq rfl rfl rfl

theorem returnSetup (s : State) : DeskStands s (reqReturnSetup s).1 := by
  unfold reqReturnSetup
  split
  · exact refl s
  · split <;> exact of_eq rfl rfl rfl

end DeskStands

/-! ## What a request leaves -/

/-- R181: the trunk after a device reset: the queue is empty and the counters are 0. -/
def clearedTrunk (x : Trunk) : Trunk :=
  { x with requests := [], lengthErrors := 0, crcErrors := 0, kindErrors := 0, dropped := 0 }

/-- What acting on a request leaves: the commands that wait; the trunk, but for what a device reset clears;
and the one entry per source and kind of the notice set. -/
structure Acted (s t : State) : Prop where
  pending : t.pending = s.pending
  trunk : t.trunk = s.trunk ∨ t.trunk = clearedTrunk s.trunk
  notices : NoticesOk s.notices → NoticesOk t.notices

theorem DeskStands.acted {s t : State} (h : DeskStands s t) : Acted s t :=
  ⟨h.pending, .inl h.trunk, h.notices⟩

/-- R181: an accepted device reset empties the notice set and clears the trunk. -/
theorem acted_resetDevice (s : State) (discard : Bool) : Acted s (reqResetDevice discard s).1 := by
  have stands := (DeskStands.refl s).acted
  unfold reqResetDevice
  split
  · exact stands
  · split
    · exact stands
    · have returns : ∀ u : State, DeskStands u (allPairs.foldl (State.resetReturnOf s) u) :=
        DeskStands.foldl (fun v p => .of_kept (((Kept.refl v).jamEnds p _).decideLift p)) allPairs
      exact ⟨(returns _).pending, .inr (congrArg clearedTrunk (returns _).trunk), fun _ => noticesOk_nil⟩

/-- What every request leaves. -/
theorem acted {i : Instr} {a : Asked} (s : State) (ha : asked i = some a) : Acted s (a.act s).1 := by
  cases hl : loads i with
  | false => exact (DeskStands.of_kept (kept_act s ha hl)).acted
  | true =>
    cases i with
    | setLaneMap _ es => cases ha; exact (DeskStands.setLaneMap s es).acted
    | setProfile _ n f => cases ha; exact (DeskStands.setProfile s n f).acted
    | setFaultAction _ xs => cases ha; exact (DeskStands.setFaultAction s xs).acted
    | setNoticePriority _ xs => cases ha; exact (DeskStands.setNoticePriority s xs).acted
    | setPollOrder _ p ns t m => cases ha; exact (DeskStands.setPollOrder s p ns t m).acted
    | setDefaults _ f => cases ha; exact (DeskStands.setDefaults s f).acted
    | setReturn _ xs => cases ha; exact (DeskStands.setReturn s xs).acted
    | setClock _ c => cases ha; exact (DeskStands.setClock s c).acted
    | adjustClock _ => cases ha; exact (DeskStands.adjustClock s).acted
    | stageSpecialDay _ d m w => cases ha; exact (DeskStands.stageSpecialDay s d m w).acted
    | resetDevice _ d => cases ha; exact acted_resetDevice s d
    | goRun _ => cases ha; exact (DeskStands.goRun s).acted
    | returnSetup _ => cases ha; exact (DeskStands.returnSetup s).acted
    | _ => cases hl

namespace Acted

variable {s t : State}

/-- The queue stands or is emptied. -/
theorem requests (h : Acted s t) : t.trunk.requests = s.trunk.requests ∨ t.trunk.requests = [] :=
  h.trunk.imp (congrArg Trunk.requests) (congrArg Trunk.requests)

theorem response (h : Acted s t) : t.trunk.response = s.trunk.response :=
  h.trunk.elim (congrArg Trunk.response) (congrArg Trunk.response)

theorem transmitting (h : Acted s t) : t.trunk.transmitting = s.trunk.transmitting :=
  h.trunk.elim (congrArg Trunk.transmitting) (congrArg Trunk.transmitting)

theorem received (h : Acted s t) : t.trunk.received = s.trunk.received :=
  h.trunk.elim (congrArg Trunk.received) (congrArg Trunk.received)

/-- A trunk where nothing waits stays one. -/
theorem trunkFree (h : Acted s t) (free : s.TrunkFree) : t.TrunkFree :=
  ⟨h.response.trans free.1, h.requests.elim (·.trans free.2) id⟩

end Acted

/-! ## The notice set along every step -/

theorem noticesInvariant : StepInvariant fun s => NoticesOk s.notices where
  kept k h := k.notices h
  load ha _ h := (acted _ ha).notices h
  trunk _ h := h
  sent n h := h.erase n
  taken _ h := h
  pass _ h := h
  tick h := h
  boundary h := h
  reset := noticesOk_nil

end Sys2Proof.Machine

open Sys2Proof Sys2Proof.Machine

/-- Settles O4: what a command is made of keeps one entry per source and kind. -/
theorem stepKeepsNoticesDistinct : Obligations.StepKeepsNoticesDistinct := by
  unfold Obligations.StepKeepsNoticesDistinct
  exact fun _ _ h e => noticesInvariant.step h e

/-- Settles O10: a request acted on leaves a free trunk free, and its response is placed. -/
theorem requestTakenAtOnce : Obligations.RequestTakenAtOnce := by
  unfold Obligations.RequestTakenAtOnce
  intro i a s ha free
  have left := acted s ha
  exact ⟨_, _, left.trunkFree free, left.pending, exec_reply ha free (left.trunkFree free)⟩

end

section
/-! SUPPORT. The end of a command (O5, O9): what taking the oldest request and beginning a frame do, that
they keep the request queue bounded and leave the trunk settled, and that every command ends so. -/

namespace Sys2Proof.Machine

open Sys2Proof

section
variable {s t u : State}

/-! ## The choice of a notice (R177) -/

theorem goesBefore_iff {a b : Notice} : goesBefore a b = true ↔ b.priority < a.priority ∨
    a.priority = b.priority ∧ (a.source < b.source ∨ a.source = b.source ∧
      kindNumber (payloadKind a.payload) < kindNumber (payloadKind b.payload)) := by
  simp [goesBefore]

/-- One step of the choice: a notice that goes before the best one so far takes its place. -/
def takeBetter (best : Option Notice) (n : Notice) : Option Notice :=
  match best with
  | none => some n
  | some b => if goesBefore n b then some n else some b

/-- The notice chosen is one of those looked at, and none of them goes before it. -/
theorem foldl_takeBetter (b : Notice) (ns : List Notice) :
    ∃ n ∈ b :: ns, ns.foldl takeBetter (some b) = some n ∧ ∀ m ∈ b :: ns, ¬ goesBefore m n = true := by
  induction ns generalizing b with
  | nil => exact ⟨b, List.mem_singleton_self b, rfl, by simp [goesBefore_iff]⟩
  | cons x ns ih =>
    by_cases better : goesBefore x b = true
    · obtain ⟨n, hn, chosen, first⟩ := ih x
      refine ⟨n, List.mem_cons_of_mem _ hn, ?_, List.forall_mem_cons.2 ⟨fun before => ?_, first⟩⟩
      · rw [List.foldl_cons, takeBetter, if_pos better, chosen]
      · have := first x (List.mem_cons_self ..)
        rw [goesBefore_iff] at *
        omega
    · obtain ⟨n, hn, chosen, first⟩ := ih b
      obtain ⟨after, rest⟩ := List.forall_mem_cons.1 first
      refine ⟨n, (List.mem_cons.1 hn).elim (· ▸ List.mem_cons_self ..)
        fun h => List.mem_cons_of_mem _ (List.mem_cons_of_mem _ h), ?_,
        List.forall_mem_cons.2 ⟨after, List.forall_mem_cons.2 ⟨fun before => ?_, rest⟩⟩⟩
      · rw [List.foldl_cons, takeBetter, if_neg better, chosen]
      · rw [goesBefore_iff] at *
        omega

/-- R177: without an eligible notice none is chosen. -/
theorem bestNotice_of_none {ns : List Notice} (h : ∀ n ∈ ns, eligible n = false) :
    bestNotice ns = none := by
  have nothing : ns.filter eligible = [] := List.filter_eq_nil_iff.2 fun n hn => by simp [h n hn]
  rw [bestNotice, nothing, List.foldl_nil]

/-- R177: with an eligible notice, one is chosen that no other eligible one goes before. -/
theorem bestNotice_of_some {ns : List Notice} {x : Notice} (hx : x ∈ ns) (h : eligible x = true) :
    ∃ n ∈ ns, eligible n = true ∧ bestNotice ns = some n ∧
      ∀ m ∈ ns, eligible m = true → ¬ goesBefore m n = true := by
  have looked : x ∈ ns.filter eligible := List.mem_filter.2 ⟨hx, h⟩
  obtain ⟨b, bs, hb⟩ := List.exists_cons_of_ne_nil (List.ne_nil_of_mem looked)
  obtain ⟨n, hn, chosen, first⟩ := foldl_takeBetter b bs
  rw [← hb] at hn first
  obtain ⟨mem, able⟩ := List.mem_filter.1 hn
  refine ⟨n, mem, able, ?_, fun m hm k => first m (List.mem_filter.2 ⟨hm, k⟩)⟩
  rw [bestNotice, hb]
  exact chosen

theorem eligible_of_bestNotice_none {ns : List Notice} (h : bestNotice ns = none) :
    ∀ n ∈ ns, eligible n = false := fun n hn => by
  by_contra able
  obtain ⟨_, _, _, chosen, _⟩ := bestNotice_of_some hn (by simpa using able)
  exact nomatch h.symm.trans chosen

/-! ## Taking the oldest request (R176) -/

theorem QueueOk.of_requests {x y : Trunk} (q : QueueOk x) (e : y.requests = x.requests) : QueueOk y where
  bounded := e ▸ q.bounded
  requests := e ▸ q.requests

theorem queueOk_of_empty {x : Trunk} (e : x.requests = []) : QueueOk x where
  bounded := by rw [e]; exact Nat.zero_le _
  requests := by rw [e]; exact fun _ h => absurd h List.not_mem_nil

/-- The requests behind the oldest one. -/
theorem QueueOk.dequeue {i : Instr} {rest : List Instr} (q : QueueOk s.trunk)
    (hq : s.trunk.requests = i :: rest) : QueueOk (s.dequeue rest).trunk where
  bounded := by
    have := hq ▸ q.bounded
    exact (Nat.le_succ _).trans this
  requests := fun j hj => q.requests j (hq ▸ List.mem_cons_of_mem i hj)

/-- R176: there is nothing to take, or the oldest request is taken and answered. -/
theorem takeOldest_cases (q : QueueOk s.trunk) :
    (s.takeOldest = s ∧ (s.trunk.response = none → s.trunk.requests = [])) ∨
      ∃ i a rest, asked i = some a ∧ s.trunk.requests = i :: rest ∧
        s.takeOldest = (s.dequeue rest).answer a := by
  unfold State.takeOldest
  split
  · next i rest _ hq =>
    obtain ⟨a, ha⟩ := Option.isSome_iff_exists.1 (q.requests i (hq ▸ List.mem_cons_self ..))
    exact .inr ⟨i, a, rest, ha, hq, by rw [ha]⟩
  · next waits =>
    refine .inl ⟨rfl, fun free => ?_⟩
    cases hq : s.trunk.requests with
    | nil => rfl
    | cons i rest => exact absurd hq (waits i rest free)

theorem takeOldest_nothing (h : s.trunk.requests = []) : s.takeOldest = s := by
  unfold State.takeOldest
  split
  · next hq => exact nomatch h.symm.trans hq
  · rfl

theorem QueueOk.takeOldest (q : QueueOk s.trunk) : QueueOk s.takeOldest.trunk := by
  rcases takeOldest_cases q with ⟨e, _⟩ | ⟨i, a, rest, ha, hq, e⟩ <;> rw [e]
  · exact q
  · rcases (acted (s.dequeue rest) ha).requests with same | empty
    · exact (q.dequeue hq).of_requests same
    · exact queueOk_of_empty empty

/-- R176: once the oldest request is taken, none waits behind an empty response slot. -/
theorem takeOldest_queue (q : QueueOk s.trunk) :
    s.takeOldest.trunk.response = none → s.takeOldest.trunk.requests = [] := by
  rcases takeOldest_cases q with ⟨e, settled⟩ | ⟨i, a, rest, _, _, e⟩ <;> rw [e]
  · exact settled
  · exact nofun

theorem takeOldest_transmitting (q : QueueOk s.trunk) :
    s.takeOldest.trunk.transmitting = s.trunk.transmitting := by
  rcases takeOldest_cases q with ⟨e, _⟩ | ⟨i, a, rest, ha, _, e⟩ <;> rw [e]
  exact (acted (s.dequeue rest) ha).transmitting

/-! ## Beginning a frame (R177) -/

theorem transmit_requests (s : State) : s.transmit.trunk.requests = s.trunk.requests := by
  unfold State.transmit
  split
  · rfl
  · split
    · rfl
    · split <;> rfl

/-- R177: the line is taken afterwards, or nothing is there to send. -/
theorem transmit_cases (s : State) : s.transmit.trunk.transmitting ≠ none ∨
    s.transmit = s ∧ s.trunk.response = none ∧ ∀ n ∈ s.notices, eligible n = false := by
  unfold State.transmit
  split
  · next h => exact .inl (by rw [h]; nofun)
  · split
    · exact .inl nofun
    · next idle =>
      split
      · exact .inl nofun
      · next nothing => exact .inr ⟨rfl, idle, eligible_of_bestNotice_none nothing⟩

/-! ## The trunk settled -/

theorem QueueOk.settleTrunk (q : QueueOk s.trunk) : QueueOk s.settleTrunk.trunk :=
  (q.takeOldest.of_requests (transmit_requests _)).takeOldest

/-- R176, R177: once the trunk has done what it can, it is settled. -/
theorem settleTrunk_settled (q : QueueOk s.trunk) : TrunkSettled s.settleTrunk := by
  have q1 : QueueOk s.takeOldest.transmit.trunk := q.takeOldest.of_requests (transmit_requests _)
  rcases transmit_cases s.takeOldest with busy | ⟨same, idle, nothing⟩
  · refine ⟨fun free => ?_, takeOldest_queue q1⟩
    rw [State.settleTrunk, takeOldest_transmitting q1] at free
    exact absurd free busy
  · have rests : s.settleTrunk = s.takeOldest := by
      rw [State.settleTrunk, same, takeOldest_nothing (takeOldest_queue q idle)]
    rw [rests]
    exact ⟨fun _ => ⟨idle, nothing⟩, takeOldest_queue q⟩

/-- A settled trunk has nothing left to do. -/
theorem settleTrunk_of_settled (h : TrunkSettled s) : s.settleTrunk = s := by
  cases line : s.trunk.transmitting with
  | none =>
    obtain ⟨idle, nothing⟩ := h.line line
    rw [settleTrunk_notice line ⟨idle, h.queue idle⟩, bestNotice_of_none nothing]
  | some f =>
    cases slot : s.trunk.response with
    | none => exact settleTrunk_busy line (h.queue slot)
    | some r => exact settleTrunk_waits line slot

/-! ## Every step ends with the trunk settled -/

/-- R176: a request enters the queue where there is room, and none enters a full one. -/
theorem QueueOk.enqueue (q : QueueOk s.trunk) (i : Instr) : QueueOk (s.enqueue i).trunk := by
  unfold State.enqueue
  split
  · exact q
  · next a ha =>
    split
    · next room =>
      refine ⟨?_, fun j hj => ?_⟩
      · simpa using room
      · rcases List.mem_append.1 hj with old | new
        · exact q.requests j old
        · rw [List.mem_singleton.1 new, ha]; rfl
    · exact q.of_requests rfl

theorem QueueOk.submit (q : QueueOk s.trunk) (i : Instr) : QueueOk (s.submit i).trunk :=
  (q.enqueue i).settleTrunk

/-- R175: the receiver submits requests and counts bad frames. -/
theorem QueueOk.hunt (n : Nat) : ∀ (bytes : List Byte) {s : State}, QueueOk s.trunk →
    QueueOk (State.hunt n bytes s).trunk := by
  induction n with
  | zero => exact fun _ _ q => q.of_requests rfl
  | succ n ih =>
    intro bytes s q
    cases bytes with
    | nil => exact q.of_requests rfl
    | cons b bytes =>
      simp only [State.hunt]
      split
      · split
        · exact q.of_requests rfl
        · exact ih _ (q.of_requests rfl)
        · exact ih _ (q.of_requests rfl)
        · exact ih _ (q.of_requests rfl)
        · exact ih _ (q.submit _)
      · exact ih _ q

/-- `t` is a state whose trunk did what it could, from a queue of at most 8 requests. -/
def EndsSettled (t : State) : Prop := ∃ u : State, QueueOk u.trunk ∧ t = u.settleTrunk

/-- An operation inside the LC32 that ends a command. -/
theorem endsSettled_done (q : QueueOk s.trunk) (k : Kept s u) (e : u.done = .next t) : EndsSettled t :=
  ⟨u, q.of_requests (by rw [k.trunk]), by cases e; rfl⟩

/-- A command that the desk does not send ends so, or is a power-on reset. -/
theorem event_ends {i : Instr} (hi : asked i = none) (q : QueueOk s.trunk) (e : exec i s = .next t) :
    t = { State.reset with pending := s.pending } ∨ EndsSettled t := by
  have r := Kept.refl s
  have done : ∀ {v u : State}, v.trunk.requests = s.trunk.requests → Kept v u → u.done = .next t →
      t = { State.reset with pending := s.pending } ∨ EndsSettled t :=
    fun same k e => .inr (endsSettled_done (q.of_requests same) k e)
  cases i with
  | powerOnReset => cases e; exact .inl rfl
  | trunkFrameReceived => cases e; exact .inr ⟨_, QueueOk.hunt _ _ q, rfl⟩
  | transmitComplete =>
    exact done (v := { s with trunk := { s.trunk with transmitting := none } }) rfl (Kept.refl _) e
  | answerReceived p frame => exact done rfl ((r.ensurePoll p).linkFrame p frame) e
  | wrongAddressAnswer p =>
    refine done rfl ?_ e
    split
    · exact r.ensurePoll p
    · exact (r.ensurePoll p).countWrongAddress p
  | damagedAnswer p => exact done rfl ((r.ensurePoll p).countDamaged p) e
  | abandonedAnswer p =>
    refine done rfl ?_ e
    split
    · exact (r.ensurePoll p).countAbandoned p
    · exact r.ensurePoll p
  | answerTimeout p =>
    simp only [exec, execAnswerTimeout, State.linkTimeout] at e
    split at e
    · exact done rfl (r.ensurePoll p) e
    · next x _ =>
      exact done (v := (s.ensurePoll p).passTo x.deadline) (congrArg Trunk.requests (r.ensurePoll p).trunk)
        ((Kept.refl _).timeoutPoll p x) e
  | slotCommandPlace p a =>
    refine done rfl ?_ e
    split
    · exact (r.slotEmptied p a).settlePair p
    · exact r
  | owedCommandPlace l => exact done rfl ((r.placeOwed l).settleLane l) e
  | stepWatchExpiry l =>
    simp only [exec, execStepWatchExpiry] at e
    split at e
    · exact done rfl r e
    · split at e
      · exact done rfl r e
      · next x _ _ d _ =>
        exact done (v := s.passTo d) rfl (((Kept.refl _).watchExpires l x).settleLane l) e
  | jamWatchExpiry p =>
    simp only [exec, execJamWatchExpiry] at e
    split at e
    · next d _ => exact done (v := s.passTo d) rfl (((Kept.refl _).jamExpires p).settlePair p) e
    · exact done rfl r e
    · exact done rfl r e
  | settleExpiry l =>
    simp only [exec, execSettleExpiry] at e
    split at e
    · exact done rfl r e
    · next d _ =>
      split at e
      · exact done (v := s.passTo d) rfl ((Kept.refl _).settleExpires l) e
      · exact done rfl r e
  | retryExpiry l =>
    simp only [exec, execRetryExpiry] at e
    split at e
    · exact done rfl r e
    · next d _ => exact done (v := s.passTo d) rfl ((Kept.refl _).retryExpires l) e
  | readingDeadlineExpiry l =>
    simp only [exec, execReadingDeadlineExpiry] at e
    split at e
    · exact done rfl r e
    · next d _ =>
      split at e
      · exact done (v := s.passTo d) rfl (((Kept.refl _).deadlineExpires l).settleLane l) e
      · exact done rfl r e
  | heldResultApply l => exact done rfl (((r.released l).armingCheck l).settleLane l) e
  | owedCycleRun l => exact done rfl (((r.runOwed l).armingCheck l).settleLane l) e
  | followOnPark l => exact done rfl ((r.followPark l).settleLane l) e
  | followOnStart l => exact done rfl ((r.followStart l).settleLane l) e
  | pendingResumeApply i => exact done rfl (r.applyPending i) e
  | secondTick =>
    let v := s.pass (1000 - s.clock.phase)
    exact done (v := { v with clock := tickClock v.clock }) rfl
      (Kept.foldl (fun _ i k => k.sessionTick i) _ (Kept.refl _)) e
  | expiryWaitEnd i => exact done rfl (r.expiryEnds i) e
  | minuteBoundary =>
    refine done (v := { s with clock := { s.clock with boundaryDue := false } }) (u := s.takeBoundary) rfl
      ?_ e
    unfold State.takeBoundary
    dsimp only
    split
    · exact Kept.refl _
    · exact (Kept.refl _).swap _
  | closeSequence i => exact done rfl (r.tryClose i) e
  | moveComplete l => exact done rfl (r.tryMove l) e
  | _ => cases hi

/-- What a step makes of the trunk: nothing while a millisecond passes, a power-on reset, or the end of a
command. -/
theorem step_ends (q : QueueOk s.trunk) (e : step s = .next t) :
    t = s.pass 1 ∨ (∃ is, t = { State.reset with pending := is }) ∨ EndsSettled t := by
  unfold step at e
  split at e
  · cases e; exact .inl rfl
  · next i rest _ =>
    refine .inr ?_
    cases ha : asked i with
    | none => exact (event_ends ha (s := { s with pending := rest }) q e).imp (fun h => ⟨_, h⟩) id
    | some a =>
      rw [exec_request _ (by rw [ha]; rfl)] at e
      cases e
      exact .inr ⟨_, QueueOk.enqueue (s := { s with pending := rest }) q i, rfl⟩

end

/-- The trunk after a power-on reset has nothing to do. -/
theorem trunkSettled_reset (is : List Instr) : TrunkSettled { State.reset with pending := is } :=
  ⟨fun _ => ⟨rfl, fun _ h => absurd h List.not_mem_nil⟩, fun _ => rfl⟩

end Sys2Proof.Machine

open Sys2Proof Sys2Proof.Machine

/-- Settles O5: a step ends with the queue as it was, empty, or as a settled trunk leaves it. -/
theorem stepKeepsQueueBounded : Obligations.StepKeepsQueueBounded := by
  unfold Obligations.StepKeepsQueueBounded
  intro s t q e
  rcases step_ends q e with rfl | ⟨is, rfl⟩ | ⟨u, hu, rfl⟩
  · exact q
  · exact queueOk_of_empty rfl
  · exact hu.settleTrunk

/-- Settles O9: the passing of a millisecond leaves the trunk as it was, and every command settles it. -/
theorem stepLeavesTrunkSettled : Obligations.StepLeavesTrunkSettled := by
  unfold Obligations.StepLeavesTrunkSettled
  intro s t q settled e
  rcases step_ends q e with rfl | ⟨is, rfl⟩ | ⟨u, hu, rfl⟩
  · exact ⟨settled.line, settled.queue⟩
  · exact trunkSettled_reset is
  · exact settleTrunk_settled hu

end

section
/-! SUPPORT. The arrival of a request (O11 to O14): one that waits, is dropped or is refused before any
check of its own, and the bytes of a frame that the receiver reads (R175, R176, R180). -/

namespace Sys2Proof.Machine

open Sys2Proof

section
variable {s t : State}

/-! ## Requests taken in RUN only (R180) -/

/-- R180: in SETUP a request with a code from 27 to 44 answers NOT_RUNNING before any other check. -/
theorem act_notRunning {i : Instr} {a : Asked} (ha : asked i = some a) (low : 27 ≤ a.code.toNat)
    (high : a.code.toNat ≤ 44) (setup : s.device = .setup) : a.act s = (s, refuse .notRunning) := by
  have idle : s.device ≠ .run := by rw [setup]; nofun
  cases i with
  | openLane | openPairPlay | addBowler | withdrawBowler | closeLane | moveSession | startMachine
  | stopMachine | reRack | enterManual | leaveManual | manualCommand | enterBall | correctBall
  | extendLimit | resyncReader | clearFault => cases ha; exact if_pos idle
  | returnSetup =>
    cases ha
    show reqReturnSetup s = _
    rw [reqReturnSetup, setup]
  | unknownRequest tag code =>
    cases ha
    exact if_pos ⟨decide_eq_true ⟨low, high⟩, idle⟩
  | setLaneMap | setProfile | setFaultAction | setNoticePriority | setPollOrder | setDefaults | setReturn
  | setClock | adjustClock | stageEntry | stageClassDefault | stageSpecialDay | commitTariff
  | cancelCommit | passThrough | restartPairLink | trimTrack | collectCharges | resetDevice | goRun
  | readLane | readSession | readReturn | readTariff | readDevice | readNoticeStatus =>
    cases ha
    simp at low
  | _ => cases ha

/-- R176: a request that cannot be read answers RANGE, but for one taken in RUN only in SETUP. -/
theorem reqUnknown_range {code : Byte} (h : s.device = .run ∨ code.toNat < 27 ∨ 44 < code.toNat) :
    reqUnknown code s = (s, refuse .range) := by
  refine if_neg fun ⟨only, setup⟩ => ?_
  have marked := of_decide_eq_true only
  rcases h with run | outside
  · exact setup run
  · omega

/-! ## The bytes of the line (R175) -/

/-- R175: without a delimiter among the bytes, the hunt finds nothing. -/
theorem hunt_quiet (n : Nat) : ∀ (bytes : List Byte) (s : State), trunkDelimiter ∉ bytes →
    bytes.length ≤ n → State.hunt n bytes s = s.keepBytes [] := by
  induction n with
  | zero =>
    intro bytes s _ short
    rw [List.length_eq_zero_iff.1 (Nat.le_zero.1 short)]
    rfl
  | succ n ih =>
    intro bytes s quiet short
    cases bytes with
    | nil => rfl
    | cons b bytes =>
      obtain ⟨other, rest⟩ := not_or.1 (mt List.mem_cons.2 quiet)
      rw [State.hunt, if_neg (Ne.symm other), ih bytes s rest (Nat.le_of_succ_le_succ short)]

theorem keepBytes_nil (h : s.trunk.received = []) : s.keepBytes [] = s := by
  rw [State.keepBytes, ← h]

/-- R175: what the receiver makes of the bytes behind a delimiter, by what they scan as. -/
def State.afterScan (s : State) (bytes : List Byte) : Scan → State
  | .wait => s.keepBytes (trunkDelimiter :: bytes)
  | .badLength => State.hunt bytes.length bytes s.countLength
  | .badCrc => State.hunt bytes.length bytes s.countCrc
  | .badKind => State.hunt bytes.length bytes s.countKind
  | .request i rest => State.hunt bytes.length rest (s.submit i)

/-- R175: what follows a delimiter is read at once where no byte was left from before. -/
theorem receive_frame {bytes : List Byte} {scan : Scan} (fresh : s.trunk.received = [])
    (scanned : scanFrame bytes = scan) :
    s.receive (trunkDelimiter :: bytes) = s.afterScan bytes scan := by
  rw [State.receive, fresh, List.nil_append, List.length_cons, State.hunt, if_pos rfl, scanned]
  cases scan <;> rfl

/-- R175: a frame that is counted and dropped, with no delimiter behind its own. -/
theorem exec_droppedFrame {bytes : List Byte} {counted : State} (quiet : trunkDelimiter ∉ bytes)
    (received : s.receive (trunkDelimiter :: bytes) = State.hunt bytes.length bytes counted)
    (fresh : counted.trunk.received = []) (settled : TrunkSettled counted) :
    exec (.trunkFrameReceived (trunkDelimiter :: bytes)) s = .next counted := by
  show Host.Outcome.next (s.receive _).settleTrunk = _
  rw [received, hunt_quiet _ _ _ quiet (Nat.le_refl _), keepBytes_nil fresh,
    settleTrunk_of_settled settled]

/-- R175: a length that no frame has. -/
theorem scanFrame_badLength {hi lo : Byte} (rest : List Byte) (h : word2 hi lo < 3 ∨ 515 < word2 hi lo) :
    scanFrame (hi :: lo :: rest) = .badLength := if_pos h

/-- R175: a frame that has arrived as a whole, with nothing behind it: its CRC decides. -/
theorem scanFrame_whole {hi lo x y : Byte} {body : List Byte} (low : 3 ≤ word2 hi lo)
    (high : word2 hi lo ≤ 515) (len : body.length = word2 hi lo) :
    scanFrame (hi :: lo :: (body ++ [x, y])) =
      if crc16 (hi :: lo :: body) = BitVec.ofNat 16 (word2 x y) then scanBody body [] else .badCrc := by
  have taken : (body ++ [x, y]).take (word2 hi lo) = body := by rw [← len]; exact List.take_left
  have left : (body ++ [x, y]).drop (word2 hi lo + 2) = [] :=
    List.drop_eq_nil_of_le (by simp [len])
  have first : (body ++ [x, y])[word2 hi lo]? = some x := by simp [← len]
  have second : (body ++ [x, y])[word2 hi lo + 1]? = some y := by simp [← len]
  simp only [scanFrame, if_neg (show ¬ (word2 hi lo < 3 ∨ 515 < word2 hi lo) by omega), taken, left, first,
    second, Option.getD_some, List.length_append, List.length_cons, List.length_nil, len,
    Nat.lt_irrefl, if_false]

/-- R175: a frame of another kind than REQUEST. -/
theorem scanBody_badKind {body rest : List Byte} (other : body.head? ≠ some 1#8) :
    scanBody body rest = .badKind := by
  unfold scanBody
  split
  · exact if_neg fun kind => other (congrArg some kind)
  · rfl

/-! ## The requests that a payload carries (section 11.7) -/

/-- A reader whose every result is a request. -/
def MakesRequest (p : Parse Instr) : Prop :=
  ∀ bytes i rest, p bytes = some (i, rest) → (asked i).isSome = true

namespace MakesRequest

theorem pure {i : Instr} (h : (asked i).isSome = true) : MakesRequest (Pure.pure i) := by
  intro bytes j rest e
  cases e
  exact h

theorem failure : MakesRequest Alternative.failure := fun _ _ _ e => nomatch e

/-- A field read first, whatever it is. -/
theorem bind {α : Type} {p : Parse α} {f : α → Parse Instr} (h : ∀ x, MakesRequest (f x)) :
    MakesRequest (p >>= f) := by
  intro bytes i rest e
  obtain ⟨⟨x, left⟩, _, made⟩ := Option.bind_eq_some_iff.1 e
  exact h x left i rest made

theorem oneByte {make : Nat → Instr} (h : ∀ n, (asked (make n)).isSome = true) :
    MakesRequest (Machine.oneByte make) := bind fun n => pure (h n)

end MakesRequest

/-- Section 11.7: whatever fields are read, in either column of R180, a request is made of them. -/
theorem makesRequest_fields (tag : Byte) (code : Nat) :
    MakesRequest (leftFields tag code) ∧ MakesRequest (rightFields tag code) := by
  unfold leftFields rightFields
  constructor <;> split
  all_goals
    repeat refine MakesRequest.bind fun _ => ?_
    first
      | exact MakesRequest.pure rfl
      | exact MakesRequest.oneByte fun _ => rfl
      | exact MakesRequest.failure

/-- Section 11.7: what a payload carries is a request. -/
theorem asked_requestOf {tag code : Byte} {fields : List Byte} {i : Instr}
    (h : requestOf tag code fields = some i) : (asked i).isSome = true := by
  unfold requestOf whole at h
  split at h
  · next x made =>
    cases h
    split at made
    · exact (makesRequest_fields _ _).1 _ _ _ made
    · exact (makesRequest_fields _ _).2 _ _ _ made
  · cases h
  · cases h

/-! ## A frame that brings a request (R175, R176) -/

/-- R176, R177: a response placed leaves the trunk settled. -/
theorem trunkSettled_reply (free : t.TrunkFree) (r : Response) : TrunkSettled (t.reply r) := by
  obtain ⟨-, empty⟩ := free
  unfold State.reply
  split
  · exact ⟨nofun, fun _ => empty⟩
  · next f line => exact ⟨fun idle => (nomatch line.symm.trans idle), nofun⟩

theorem received_reply (t : State) (r : Response) : (t.reply r).trunk.received = t.trunk.received := by
  unfold State.reply
  split <;> rfl

/-- A request that finds nothing before it leaves the trunk settled, and no bytes behind. -/
theorem submit_settled {i : Instr} {a : Asked} (ha : asked i = some a) (free : s.TrunkFree)
    (fresh : s.trunk.received = []) :
    TrunkSettled (s.submit i) ∧ (s.submit i).trunk.received = [] := by
  have left := acted s ha
  rw [submit_reply ha free (left.trunkFree free)]
  exact ⟨trunkSettled_reply (left.trunkFree free) _,
    (received_reply ..).trans (left.received.trans fresh)⟩

/-- R175, section 11.7: the bytes behind the delimiter of a request frame are read as the request. -/
theorem scanFrame_request {tag code hi lo : Byte} {fields : List Byte} {i : Instr}
    (short : fields.length ≤ 512) (len : [hi, lo] = bytes2 (fields.length + 3))
    (carried : requestOf tag code fields = some i) :
    scanFrame ([hi, lo, 1#8, tag, code] ++ fields ++
      bytes2 (crc16 ([hi, lo, 1#8, tag, code] ++ fields)).toNat) = .request i [] := by
  let covered := [hi, lo, 1#8, tag, code] ++ fields
  have number : word2 hi lo = fields.length + 3 := by
    obtain ⟨rfl, rfl⟩ : hi = _ ∧ lo = _ := by simpa [bytes2] using len
    exact word2_bytes (by omega)
  have check : crc16 covered = BitVec.ofNat 16 (word2 (BitVec.ofNat 8 ((crc16 covered).toNat / 256))
      (BitVec.ofNat 8 (crc16 covered).toNat)) := by
    rw [word2_bytes (crc16 covered).isLt, BitVec.ofNat_toNat, BitVec.setWidth_eq]
  have scanned := scanFrame_whole (hi := hi) (lo := lo) (body := [1#8, tag, code] ++ fields)
    (x := BitVec.ofNat 8 ((crc16 covered).toNat / 256)) (y := BitVec.ofNat 8 (crc16 covered).toNat)
    (by omega) (by omega) (by simp [number])
  refine scanned.trans ((if_pos check).trans ?_)
  simp [scanBody, readRequest, carried]

end

end Sys2Proof.Machine

open Sys2Proof Sys2Proof.Machine

/-- Settles O11: where a frame is on the line and the slot is filled, the trunk can only queue or drop. -/
theorem requestWaitsOrIsDropped : Obligations.RequestWaitsOrIsDropped := by
  unfold Obligations.RequestWaitsOrIsDropped
  intro i a s f r ha line slot
  rw [exec_request s (by rw [ha]; rfl)]
  split
  · next room => rw [submit_waits ha line slot room]
  · next full =>
    rw [State.submit, enqueue_of_full ha full]
    exact congrArg _ (settleTrunk_waits (f := f) (r := r) line slot)

/-- Settles O12: RANGE for what cannot be read, and NOT_RUNNING before any other check. -/
theorem requestsRefusedAtOnce : Obligations.RequestsRefusedAtOnce := by
  unfold Obligations.RequestsRefusedAtOnce
  refine ⟨fun s tag code free outside => ?_, fun i a s ha low high setup free => ?_⟩
  · exact exec_of_act rfl free (reqUnknown_range outside) rfl
  · exact exec_of_act ha free (act_notRunning ha low high setup) rfl

/-- Settles O13: the bytes scan as the request, which leaves nothing for the rest of the command. -/
theorem requestFrameRunsItsRequest : Obligations.RequestFrameRunsItsRequest := by
  unfold Obligations.RequestFrameRunsItsRequest
  intro s tag code hi lo fields i free _ fresh short len carried
  obtain ⟨a, ha⟩ := Option.isSome_iff_exists.1 (asked_requestOf carried)
  obtain ⟨settled, left⟩ := submit_settled ha free fresh
  have received := receive_frame fresh (scanFrame_request short len carried)
  rw [State.afterScan, hunt_quiet _ [] _ List.not_mem_nil (Nat.zero_le _), keepBytes_nil left] at received
  rw [exec_request s (i := i) (by rw [ha]; rfl)]
  show Host.Outcome.next (s.receive _).settleTrunk = _
  exact congrArg Host.Outcome.next ((congrArg State.settleTrunk received).trans
    (settleTrunk_of_settled settled))

/-- Settles O14: the frame scans as bad, and nothing behind its delimiter is another. -/
theorem badFrameIsCountedAndDropped : Obligations.BadFrameIsCountedAndDropped := by
  unfold Obligations.BadFrameIsCountedAndDropped
  intro s hi lo body x y settled fresh quiet
  let bytes := hi :: lo :: (body ++ [x, y])
  refine ⟨fun outside => ?_, fun low high len differs => ?_, fun low high len holds other => ?_⟩
  · have scanned : scanFrame bytes = .badLength := scanFrame_badLength _ outside
    exact exec_droppedFrame (counted := s.countLength) quiet (receive_frame fresh scanned) fresh
      ⟨settled.line, settled.queue⟩
  · have scanned : scanFrame bytes = .badCrc := (scanFrame_whole low high len).trans (if_neg differs)
    exact exec_droppedFrame (counted := s.countCrc) quiet (receive_frame fresh scanned) fresh
      ⟨settled.line, settled.queue⟩
  · have scanned : scanFrame bytes = .badKind :=
      ((scanFrame_whole low high len).trans (if_pos holds)).trans (scanBody_badKind other)
    exact exec_droppedFrame (counted := s.countKind) quiet (receive_frame fresh scanned) fresh
      ⟨settled.line, settled.queue⟩

end

section
/-! SUPPORT. The frames the part sends, and which one goes next (O15): the bytes of a frame, the tariff
records among those of a READ_TARIFF response, and the transmitter at the end of a frame (R175 to R177). -/

namespace Sys2Proof.Machine

open Sys2Proof

/-! ## The bytes of a frame (section 11.7) -/

/-- Section 11.7: the response codes by their numbers. -/
theorem codeNumber_names (c : Code) :
    [Code.ok, .busy, .badState, .noLane, .notFound, .range, .structureFails, .full, .check, .condition,
      .notRunning][codeNumber c]? = some c := by cases c <;> rfl

theorem length_responseBytes (r : Response) : (responseBytes r).length ≤ 513 := by
  have data := length_replyBytes_le r.requestCode r.reply.data
  simp only [responseBytes, bytes1, List.length_cons, List.length_append, List.length_nil, dataCapacity]
    at data ⊢
  omega

/-! ## The records of READ_TARIFF (R148) -/

/-- The records of a copy of the tariff: its period entries, an EMPTY slot having none, its class defaults
and its special days. -/
def copyRecords (slots : List (Option Period)) (defaults : Vector ClassDefault 8) (days : List SpecialDay) :
    List (List Byte) :=
  (slots.map fun x => (x.map periodBytes).getD []) ++ defaults.toList.map classDefaultBytes ++
    days.map specialDayBytes

theorem tariffRecords_active (table : List Period) (defaults : Vector ClassDefault 8)
    (days : List SpecialDay) : tariffRecords (.active table defaults days) =
      copyRecords (table.map some) defaults days := by
  rw [copyRecords, List.map_map]
  rfl

section
variable {slots : List (Option Period)} {defaults : Vector ClassDefault 8} {days : List SpecialDay}

/-- Records of at most `k` bytes each. -/
theorem length_flatten_map_le {α : Type} {f : α → List Byte} {k : Nat} (h : ∀ x, (f x).length ≤ k)
    (xs : List α) : (xs.map f).flatten.length ≤ k * xs.length := by
  induction xs with
  | nil => exact Nat.zero_le _
  | cons x xs ih =>
    have := h x
    simp only [List.map_cons, List.flatten_cons, List.length_append, List.length_cons, Nat.mul_add_one]
    omega

/-- R148: the records of a whole copy fit a response: 240 + 56 + 48 bytes at most. -/
theorem length_copyRecords (few : slots.length ≤ 24) (room : days.length ≤ 16) :
    (copyRecords slots defaults days).flatten.length ≤ dataCapacity := by
  have periods := length_flatten_map_le (f := fun x : Option Period => (x.map periodBytes).getD []) (k := 10)
    (fun x => by cases x <;> simp [periodBytes, bytes2]) slots
  have classes := length_flatten_map_le (f := classDefaultBytes) (k := 7)
    (fun d => by simp [classDefaultBytes, bytes2, bytes1]) defaults.toList
  have special := length_flatten_map_le (f := specialDayBytes) (k := 3)
    (fun d => by simp [specialDayBytes, bytes1]) days
  rw [Vector.length_toList] at classes
  simp only [copyRecords, List.flatten_append, List.length_append, dataCapacity]
  omega

/-- R148: the records stand whole and in order in the data of the response. -/
theorem replyBytes_records {code : Byte} {reading : TariffReading} {version : BitVec 8} {once : Bool}
    {waiting : Option PendingCommit} (read : tariffRecords reading = copyRecords slots defaults days)
    (few : slots.length ≤ 24) (room : days.length ≤ 16) :
    ∃ before : Nat → List Byte, replyBytes code (.tariff reading version once waiting) =
      ((copyRecords slots defaults days).zipIdx.flatMap fun x => before x.2 ++ x.1) ++
        before (copyRecords slots defaults days).length := by
  have fit := length_copyRecords (defaults := defaults) few room
  rw [replyBytes_tariff (by rw [read]; exact fit), read]
  obtain ⟨before, laid⟩ := interleave_eq (Config.tariffFields (.tariff reading version once waiting)) 0
    (dataCapacity - (copyRecords slots defaults days).flatten.length) (copyRecords slots defaults days)
  exact ⟨before, by rw [laid, Nat.zero_add]⟩

end

/-! ## The end of a frame (R177) -/

/-- R177: the line becomes free. -/
def State.lineFree (s : State) : State := { s with trunk := { s.trunk with transmitting := none } }

section
variable {s : State}

theorem exec_transmitComplete (s : State) : exec .transmitComplete s = .next s.lineFree.settleTrunk := rfl

/-- R177: a response in the slot goes next, and the request behind it is then taken. -/
theorem settleTrunk_response {r : Response} (line : s.trunk.transmitting = none)
    (slot : s.trunk.response = some r) : s.settleTrunk = (s.sendResponse r).takeOldest := by
  have waits : s.takeOldest = s := by simp only [State.takeOldest, slot]
  simp only [State.settleTrunk, waits, State.transmit, line, slot]

/-- R176: the oldest request, taken into an empty slot. -/
theorem takeOldest_answers {i : Instr} {a : Asked} {rest : List Instr} (slot : s.trunk.response = none)
    (queue : s.trunk.requests = i :: rest) (ha : asked i = some a) :
    s.takeOldest = (s.dequeue rest).answer a := by
  simp only [State.takeOldest, slot, queue, ha]

/-- R177: `goesBefore` is the order in which notices are sent. -/
theorem not_goesBefore_iff {m n : Notice} : ¬ goesBefore m n = true ↔
    m.priority < n.priority ∨ (m.priority = n.priority ∧ (n.source < m.source ∨ (n.source = m.source ∧
      kindNumber (payloadKind n.payload) ≤ kindNumber (payloadKind m.payload)))) := by
  rw [goesBefore_iff]
  omega

end

end Sys2Proof.Machine

open Sys2Proof Sys2Proof.Machine

/-- Settles O15: the bytes of a frame by its two kinds, and the transmitter by what waits for it. -/
theorem transmitCompleteSendsNext : Obligations.TransmitCompleteSendsNext := by
  unfold Obligations.TransmitCompleteSendsNext
  refine ⟨fun f => ?_, fun s settled => ⟨?_, ?_, ?_, ?_⟩⟩
  · cases f with
    | response r =>
      have short := length_responseBytes r
      refine ⟨2, r.tag, responseBytes r, rfl, Nat.le_add_left 3 _, by omega, fun _ h => ?_,
        fun _ h => TxFrame.noConfusion h⟩
      obtain rfl := TxFrame.response.inj h
      refine ⟨rfl, rfl, codeNumber r.reply.code, replyBytes r.requestCode r.reply.data,
        codeNumber_names _, rfl, fun slots defaults days few room copy => ?_⟩
      have laid : ∃ before : Nat → List Byte, replyBytes r.requestCode r.reply.data =
          ((copyRecords slots defaults days).zipIdx.flatMap fun x => before x.2 ++ x.1) ++
            before (copyRecords slots defaults days).length := by
        rcases copy with ⟨table, version, once, waiting, rfl, data⟩ |
          ⟨staged, crc, version, once, waiting, rfl, data⟩
        · rw [data]
          exact replyBytes_records (tariffRecords_active ..) few room
        · rw [data]
          exact replyBytes_records rfl few room
      have periods : (slots.map fun x => (x.map periodBytes).getD []) = slots.map fun x => match x with
          | none => []
          | some p => [p.classes, p.weekdays.zeroExtend 8] ++ bytes2 p.startMinute ++
            bytes2 p.endMinute ++ bytes2 p.gamePrice ++ bytes2 p.hourlyRate :=
        List.map_congr_left fun x _ => by cases x <;> rfl
      rw [copyRecords, periods] at laid
      exact laid
    | notice n =>
      have short := length_noticeBytes n
      refine ⟨3, 0, noticeBytes n, rfl, Nat.le_add_left 3 _, by omega,
        fun _ h => TxFrame.noConfusion h, fun _ h => ?_⟩
      obtain rfl := TxFrame.notice.inj h
      exact ⟨rfl, rfl, (Config.noticeFields n.payload).take 509, rfl⟩
  · intro r slot none_
    rw [exec_transmitComplete, settleTrunk_response (s := s.lineFree) rfl slot]
    exact congrArg Host.Outcome.next (takeOldest_nothing (s := s.lineFree.sendResponse r) none_)
  · intro r i a rest slot queue ha
    rw [exec_transmitComplete, settleTrunk_response (s := s.lineFree) rfl slot]
    exact congrArg Host.Outcome.next (takeOldest_answers (s := s.lineFree.sendResponse r) rfl queue ha)
  · rintro slot ⟨x, hx, able⟩
    obtain ⟨n, hn, chosen, best, first⟩ := bestNotice_of_some hx (decide_eq_true able)
    refine ⟨n, hn, of_decide_eq_true chosen, fun m hm low => ?_, ?_⟩
    · exact not_goesBefore_iff.1 (first m hm (decide_eq_true low))
    · rw [exec_transmitComplete, settleTrunk_notice (s := s.lineFree) rfl ⟨slot, settled.queue slot⟩]
      simp only [State.lineFree, best]
      rfl
  · intro slot unable
    have nothing := bestNotice_of_none (ns := s.notices) fun n hn => by simp [eligible, unable n hn]
    rw [exec_transmitComplete, settleTrunk_notice (s := s.lineFree) rfl ⟨slot, settled.queue slot⟩]
    simp only [State.lineFree, nothing]

end

section
/-! SUPPORT. SET_NOTICE_PRIORITY (O19): which lists are accepted, and what loading the items of one makes of
the table and of each pending entry (R179). -/

namespace Sys2Proof.Machine

open Sys2Proof

/-! ## The checks of R179 -/

/-- The number of a kind is its place in the table of R179, from 1. -/
theorem noticeKindOf_eq_some {n : Nat} {k : NoticeKind} : noticeKindOf? n = some k ↔ n = kindNumber k := by
  constructor
  · intro h
    obtain ⟨nonzero, place⟩ := nth1_eq_some.1 h
    obtain ⟨inside, -⟩ := List.getElem?_eq_some_iff.1 place
    have bound : n ≤ 20 := by
      simp only [noticeKinds, List.length_cons, List.length_nil] at inside
      omega
    interval_cases n <;> cases h <;> rfl
  · rintro rfl
    cases k <;> rfl

/-- The numbers 1 to 20 name the kinds, and no other number names one. -/
theorem noticeKindOf_isSome {n : Nat} : (∃ k, noticeKindOf? n = some k) ↔ 1 ≤ n ∧ n ≤ 20 := by
  constructor
  · rintro ⟨k, h⟩
    have := (kindIndex k).isLt
    rw [noticeKindOf_eq_some, kindNumber] at h
    omega
  · rintro ⟨low, high⟩
    interval_cases n <;> exact ⟨_, rfl⟩

theorem kindNumber_inj {j k : NoticeKind} : kindNumber j = kindNumber k ↔ j = k := by
  refine ⟨fun h => ?_, congrArg kindNumber⟩
  have named := (noticeKindOf_eq_some (n := kindNumber j)).2 rfl
  rw [noticeKindOf_eq_some.2 h] at named
  exact (Option.some.inj named).symm

/-- R179: the checks of one item, by its numbers. -/
theorem priorityItemValid_iff (x : NoticePriorityItem) : priorityItemValid x = true ↔
    1 ≤ x.kind ∧ x.kind ≤ 20 ∧ x.kind ≠ 7 ∧ x.priority ≤ 15 := by
  have checks : priorityItemValid x = true ↔
      (∃ k, noticeKindOf? x.kind = some k ∧ k ≠ .faultRaised) ∧ x.priority ≤ 15 := by
    cases h : noticeKindOf? x.kind with
    | none => simp [priorityItemValid, h]
    | some k => simp [priorityItemValid, h]
  have named : (∃ k, noticeKindOf? x.kind = some k ∧ k ≠ .faultRaised) ↔
      (1 ≤ x.kind ∧ x.kind ≤ 20) ∧ x.kind ≠ 7 := by
    rw [← noticeKindOf_isSome]
    constructor
    · rintro ⟨k, h, other⟩
      refine ⟨⟨k, h⟩, fun seven => other (kindNumber_inj.1 ?_)⟩
      exact (noticeKindOf_eq_some.1 h).symm.trans seven
    · rintro ⟨⟨k, h⟩, other⟩
      refine ⟨k, h, ?_⟩
      rintro rfl
      exact other (noticeKindOf_eq_some.1 h)
  rw [checks, named]
  tauto

/-- R179: what an accepted list satisfies. -/
def PrioritiesValid (items : List NoticePriorityItem) : Prop :=
  items ≠ [] ∧ (items.map (·.kind)).Nodup ∧
    ∀ x ∈ items, 1 ≤ x.kind ∧ x.kind ≤ 20 ∧ x.kind ≠ 7 ∧ x.priority ≤ 15

theorem prioritiesRefused_iff (items : List NoticePriorityItem) :
    (items.isEmpty = true ∨ ¬ items.all priorityItemValid = true ∨
      ¬ distinct (items.map (·.kind)) = true) ↔ ¬ PrioritiesValid items := by
  simp only [PrioritiesValid, List.isEmpty_iff, List.all_eq_true, priorityItemValid_iff,
    distinct_iff_nodup]
  tauto

/-! ## The items loaded -/

/-- R179: the table with an item's priority in the place of its kind. -/
def prioritiesWith (t : Vector Nat 20) (x : NoticePriorityItem) : Vector Nat 20 :=
  match noticeKindOf? x.kind with
  | none => t
  | some k => t.set (kindIndex k) x.priority

/-- R179: a pending entry with the priority of the item that names its kind. -/
def retunedBy (n : Notice) (x : NoticePriorityItem) : Notice :=
  if kindNumber (payloadKind n.payload) = x.kind then { n with priority := x.priority } else n

/-- R179: one item changes the table and the pending entries of its kind. -/
theorem loadPriority_eq (s : State) (x : NoticePriorityItem) : s.loadPriority x =
    { s with
      priorities := prioritiesWith s.priorities x, notices := s.notices.map fun n => retunedBy n x } := by
  cases hk : noticeKindOf? x.kind with
  | none =>
    have nobody : ∀ n : Notice, retunedBy n x = n := fun n =>
      if_neg fun same => Option.some_ne_none _ ((noticeKindOf_eq_some.2 same.symm).symm.trans hk)
    simp only [State.loadPriority, prioritiesWith, hk, nobody, List.map_id']
  | some k =>
    have same : ∀ n : Notice, retune k x.priority n = retunedBy n x := fun n => by
      simp only [retune, retunedBy, noticeKindOf_eq_some.1 hk, kindNumber_inj]
    have tuned := List.map_congr_left (l := s.notices) fun n _ => same n
    simp only [State.loadPriority, prioritiesWith, hk, tuned]

/-- R179: the items of a list change the table and the pending entries alone. -/
theorem foldl_loadPriority (items : List NoticePriorityItem) (s : State) :
    items.foldl State.loadPriority s =
      { s with
        priorities := items.foldl prioritiesWith s.priorities
        notices := s.notices.map fun n => items.foldl retunedBy n } := by
  induction items generalizing s with
  | nil => simp only [List.foldl_nil, List.map_id']
  | cons x xs ih =>
    rw [List.foldl_cons, ih, loadPriority_eq]
    simp only [List.map_map, List.foldl_cons]
    rfl

section
variable {t : Vector Nat 20} {n : Notice} {x : NoticePriorityItem} {k : NoticeKind}
  {items : List NoticePriorityItem}

theorem prioritiesWith_named (hk : kindNumber k = x.kind) :
    (prioritiesWith t x)[kindIndex k] = x.priority := by
  simp [prioritiesWith, noticeKindOf_eq_some.2 hk.symm]

theorem prioritiesWith_other (other : kindNumber k ≠ x.kind) :
    (prioritiesWith t x)[kindIndex k] = t[kindIndex k] := by
  unfold prioritiesWith
  split
  · rfl
  · next j hj =>
    have places : (kindIndex j).val ≠ (kindIndex k).val := fun same => by
      refine other ?_
      rw [noticeKindOf_eq_some.1 hj, kindNumber, kindNumber, same]
    simp only [Fin.getElem_fin, Vector.getElem_set, if_neg places]

/-- A kind that no item names keeps its priority. -/
theorem foldl_prioritiesWith_other (other : kindNumber k ∉ items.map (·.kind)) :
    (items.foldl prioritiesWith t)[kindIndex k] = t[kindIndex k] := by
  induction items generalizing t with
  | nil => rfl
  | cons y ys ih =>
    obtain ⟨first, later⟩ := not_or.1 (mt List.mem_cons.2 other)
    rw [List.foldl_cons, ih later, prioritiesWith_other first]

/-- A kind that one item names takes the item's priority, which no later item replaces. -/
theorem foldl_prioritiesWith_named (once : (items.map (·.kind)).Nodup) (hx : x ∈ items)
    (hk : kindNumber k = x.kind) : (items.foldl prioritiesWith t)[kindIndex k] = x.priority := by
  induction items generalizing t with
  | nil => cases hx
  | cons y ys ih =>
    obtain ⟨new, rest⟩ := List.nodup_cons.1 once
    rw [List.foldl_cons]
    rcases List.mem_cons.1 hx with rfl | later
    · rw [foldl_prioritiesWith_other (hk ▸ new), prioritiesWith_named hk]
    · exact ih rest later

/-- An entry of a kind that no item names stands. -/
theorem foldl_retunedBy_other (other : kindNumber (payloadKind n.payload) ∉ items.map (·.kind)) :
    items.foldl retunedBy n = n := by
  induction items with
  | nil => rfl
  | cons y ys ih =>
    obtain ⟨first, later⟩ := not_or.1 (mt List.mem_cons.2 other)
    rw [List.foldl_cons, retunedBy, if_neg first, ih later]

/-- An entry of a kind that one item names takes the item's priority. -/
theorem foldl_retunedBy_named (once : (items.map (·.kind)).Nodup) (hx : x ∈ items)
    (hk : kindNumber (payloadKind n.payload) = x.kind) :
    items.foldl retunedBy n = { n with priority := x.priority } := by
  induction items with
  | nil => cases hx
  | cons y ys ih =>
    obtain ⟨new, rest⟩ := List.nodup_cons.1 once
    rw [List.foldl_cons]
    rcases List.mem_cons.1 hx with rfl | later
    · rw [retunedBy, if_pos hk]
      exact foldl_retunedBy_other (hk ▸ new)
    · have other : kindNumber (payloadKind n.payload) ≠ y.kind := fun same =>
        new (List.mem_map.2 ⟨x, later, hk.symm.trans same⟩)
      rw [retunedBy, if_neg other, ih rest later]

/-- R179: every pending entry of a kind named takes the priority that the table then holds. -/
theorem foldl_retunedBy (once : (items.map (·.kind)).Nodup) (n : Notice) : items.foldl retunedBy n =
    if kindNumber (payloadKind n.payload) ∈ items.map (·.kind) then
      { n with priority := (items.foldl prioritiesWith t)[kindIndex (payloadKind n.payload)] }
    else n := by
  split
  · next named =>
    obtain ⟨x, hx, hk⟩ := List.mem_map.1 named
    rw [foldl_retunedBy_named once hx hk.symm, foldl_prioritiesWith_named once hx hk.symm]
  · next other => exact foldl_retunedBy_other other

end

end Sys2Proof.Machine

open Sys2Proof Sys2Proof.Machine

/-- Settles O19: the list checked as a whole, then its items loaded one after another. -/
theorem setNoticePriorityReplacesPriorities : Obligations.SetNoticePriorityReplacesPriorities := by
  unfold Obligations.SetNoticePriorityReplacesPriorities
  intro s tag items free valid
  refine ⟨fun refused => ?_, fun accepted => ⟨items.foldl prioritiesWith s.priorities, ?_, ?_, ?_⟩⟩
  · have answer : reqSetNoticePriority items s = (s, refuse .range) :=
      if_pos ((prioritiesRefused_iff items).2 refused)
    exact exec_of_act rfl free answer rfl
  · have answer : reqSetNoticePriority items s = (items.foldl State.loadPriority s, accept) :=
      if_neg fun refused => (prioritiesRefused_iff items).1 refused accepted
    obtain ⟨-, once, -⟩ := accepted
    rw [foldl_loadPriority, funext (foldl_retunedBy (t := s.priorities) once)] at answer
    exact exec_of_act rfl free answer rfl
  · obtain ⟨-, once, -⟩ := accepted
    exact fun x hx k hk => foldl_prioritiesWith_named once hx hk
  · exact fun k other => foldl_prioritiesWith_other other

end

section
/-! SUPPORT. The device state (O2, O3, O33): the reset state, and the conditions of GO_RUN and RETURN_SETUP
(R180). -/

namespace Sys2Proof.Machine

open Sys2Proof

section
variable {s : State}

theorem shut_iff {x : LaneState} : shut x = true ↔ x = .closed ∨ x = .disabled := by
  cases x <;> simp [shut]

theorem atRest_iff {m : MachineState} : atRest m = true ↔ m = .off ∨ m = .parked ∨ m = .outOfService := by
  cases m <;> simp [atRest]

/-- R180, R181: every lane shut and every machine at rest. -/
theorem allAtRest_iff : s.allAtRest = true ↔
    ∀ l, ((s.entry l).state = .closed ∨ (s.entry l).state = .disabled) ∧
      ((s.supervisor l).machine = .off ∨ (s.supervisor l).machine = .parked ∨
        (s.supervisor l).machine = .outOfService) := by
  simp only [State.allAtRest, allLanes, List.all_eq_true, List.mem_finRange, true_imp_iff,
    Bool.and_eq_true, shut_iff, atRest_iff]

/-- R180: GO_RUN in SETUP names the first condition that fails. -/
theorem reqGoRun_fails {c : RunCondition} (setup : s.device = .setup) (fails : s.runCondition = some c) :
    reqGoRun s = (s, ⟨.badState, .runCondition c⟩) := by
  simp only [reqGoRun, setup, fails]

/-- R180: GO_RUN in SETUP with no condition failing. -/
theorem reqGoRun_goes (setup : s.device = .setup) (holds : s.runCondition = none) :
    reqGoRun s = ({ s with device := .run }, accept) := by
  simp only [reqGoRun, setup, holds]

/-- R180: RETURN_SETUP in RUN. -/
theorem reqReturnSetup_run (run : s.device = .run) : reqReturnSetup s =
    if s.allAtRest then ({ s with device := .setup }, accept) else (s, refuse .badState) := by
  simp only [reqReturnSetup, run]

end

/-! ## The reset state (R1, R6, R161, R181) -/

theorem lane_reset (l : LaneId) : State.reset.lane l = Initial.lane := by simp [State.lane, State.reset]

theorem session_reset (i : SessionId) : State.reset.session i = none := by
  simp [State.session, State.reset]

end Sys2Proof.Machine

open Sys2Proof Sys2Proof.Machine

/-- Settles O33: each request by the device state and its conditions. -/
theorem deviceStateRequests : Obligations.DeviceStateRequests := by
  unfold Obligations.DeviceStateRequests
  intro s tag free goes rests
  have condition : ∀ {c : RunCondition}, s.device = .setup → s.runCondition = some c →
      goes ⟨.badState, .runCondition c⟩ := fun setup fails =>
    exec_of_act rfl free (reqGoRun_fails setup fails) rfl
  refine ⟨fun run => ?_, fun setup map => ?_, fun setup map clock => ?_, fun setup map clock tariff => ?_,
    fun setup map clock tariff => ?_, fun setup => ?_, fun run rest => ?_, fun run busy => ?_⟩
  · exact exec_of_act rfl free (by simp only [reqGoRun, run]; rfl) rfl
  · exact condition setup (by simp [State.runCondition, map])
  · exact condition setup (by simp [State.runCondition, map, clock])
  · exact condition setup (by simp [State.runCondition, map, clock, tariff])
  · have holds : s.runCondition = none := by simp [State.runCondition, map, clock, tariff]
    exact exec_of_act rfl free (reqGoRun_goes setup holds) rfl
  · exact exec_of_act rfl free (by simp only [reqReturnSetup, setup]; rfl) rfl
  · exact exec_of_act rfl free ((reqReturnSetup_run run).trans (if_pos (allAtRest_iff.2 rest))) rfl
  · exact exec_of_act rfl free ((reqReturnSetup_run run).trans (if_neg (mt allAtRest_iff.1 busy))) rfl

/-- Settles O2: the reset state as `State.reset` gives it. -/
theorem powerOnResetState : Obligations.PowerOnResetState := by
  unfold Obligations.PowerOnResetState
  refine ⟨fun s => rfl, rfl, rfl, fun l => ?_, session_reset, rfl, rfl, rfl, rfl, fun l => ?_, rfl, rfl, rfl⟩
  · rw [State.entry, lane_reset]; rfl
  · rw [State.meter, lane_reset]; rfl

/-- Settles O3: each invariant at reset. -/
theorem resetIsSafe : Obligations.ResetIsSafe := by
  unfold Obligations.ResetIsSafe
  refine ⟨⟨noticesOk_nil, queueOk_of_empty rfl, StoresOk.reset, SettingsOk.reset, ?_⟩, ?_⟩
  · exact CalendarOk.stepInvariant.reset
  · exact trunkSettled_reset []

end

section
/-! SUPPORT. RESET_DEVICE (O32): the records it resets, and that the jam conditions it ends and the lifts it
decides afresh leave every lane of a device at rest (R181, R129, R127). -/

namespace Sys2Proof.Machine

open Sys2Proof

section
variable {s t : State} {l : LaneId} {p : PairId} {c : FaultClass}

/-! ## A lane at rest is told nothing -/

/-- Nothing goes on on a lane: its machine is not READY, its tracker not ARMED, and nobody holds it. -/
structure LaneIdle (x : Lane) : Prop where
  machine : x.supervisor.machine ≠ .ready
  play : x.tracker.play ≠ .armed
  holder : x.entry.holder = none

/-- R111: the fall of the effective action tells an idle lane nothing. -/
theorem tellFall_idle (h : LaneIdle (s.lane l)) : s.tellFall l = s := by
  rw [State.tellFall, runOwed_unready h.machine, armingCheck_unready (.inl h.machine) h.play,
    tellCredit_noHolder h.holder]

/-! ## The end of a pair's condition, with every lane idle (R114) -/

theorem filter_removeFault (c : FaultClass) (fs : List FaultEntry) :
    (removeFault c fs).filter (fun f => f.cls != c) = fs.filter fun f => f.cls != c := by
  rw [removeFault, List.filter_filter]
  simp only [Bool.and_self]

theorem filter_map_latch (c : FaultClass) (fs : List FaultEntry) :
    (fs.map (latch c)).filter (fun f => f.cls != c) = fs.filter fun f => f.cls != c := by
  induction fs with
  | nil => rfl
  | cons f fs ih =>
    by_cases same : f.cls = c
    · rw [List.map_cons, latch, if_pos same, List.filter_cons_of_neg (by simp [same]), ih,
        List.filter_cons_of_neg (by simp [same])]
    · rw [List.map_cons, latch, if_neg same, List.filter_cons_of_pos (by simp [same]), ih,
        List.filter_cons_of_pos (by simp [same])]

/-- R114: only the pair's entry of the class, and the notices, change. -/
theorem pairConditionEnds_idle (idle : ∀ l, LaneIdle (s.lane l)) (p : PairId) (c : FaultClass) :
    ∃ fs ns, s.pairConditionEnds p c = { s.setPairFaults p fs with notices := ns } ∧
      fs.filter (fun f => f.cls != c) = (s.pair p).faults.filter fun f => f.cls != c := by
  unfold State.pairConditionEnds
  split
  · exact ⟨(s.pair p).faults, s.notices, (setPair_pair (s := s)).symm, rfl⟩
  · next f found =>
    split
    · exact ⟨_, s.notices, rfl, filter_map_latch c _⟩
    · let u := (s.setPairFaults p (removeFault c (s.pair p).faults)).raisePairCleared p c .conditionEnded
      refine ⟨removeFault c (s.pair p).faults, u.notices, ?_, filter_removeFault c _⟩
      have told : ∀ l, u.tellFall l = u := fun l => tellFall_idle (s := u) (idle l)
      simp only [State.removePairFault, found]
      show (u.tellFall _).tellFall _ = _
      rw [told, told]
      rfl

/-- R129: the end of a jam condition changes the pair's RETURN_JAM and the notices, where it was there. -/
theorem jamEnds_idle (idle : ∀ l, LaneIdle (s.lane l)) (p : PairId) (before : BallReturn) :
    ∃ fs ns, s.jamEnds p before = { s.setPairFaults p fs with notices := ns } ∧
      fs.filter (fun f => f.cls != .returnJam) = (s.pair p).faults.filter (fun f => f.cls != .returnJam) ∧
      (jamCondition before = false → fs = (s.pair p).faults) := by
  unfold State.jamEnds
  split
  · next ended =>
    obtain ⟨fs, ns, e, others⟩ := pairConditionEnds_idle idle p .returnJam
    exact ⟨fs, ns, e, others, fun none_ => absurd ended.1 (by rw [none_]; nofun)⟩
  · exact ⟨(s.pair p).faults, s.notices, (setPair_pair (s := s)).symm, rfl, fun _ => rfl⟩

/-! ## The lift decided afresh (R127) -/

/-- R127: deciding the lift leaves of the lane I/O node all but its slot and its next serial. -/
theorem node_decideLift_laneIo (s : State) (p : PairId) : (s.decideLift p).node p laneIoAddr =
    { s.node p laneIoAddr with
      slot := ((s.decideLift p).node p laneIoAddr).slot
      nextSerial := ((s.decideLift p).node p laneIoAddr).nextSerial } := by
  obtain ⟨stands, moves⟩ := poller_decideLift s p
  have node : ∀ {t u : State}, t.poller p = u.poller p → t.node p laneIoAddr = u.node p laneIoAddr :=
    fun h => by simp only [State.node, h]
  by_cases h : liftWanted s p = (s.ballReturn p).liftOn ∨ (s.node p laneIoAddr).state ≠ .alive
  · rw [node (stands h)]
  · obtain ⟨changed, alive⟩ := not_or.1 h
    rw [node (moves changed (not_not.1 alive))]
    unfold State.place
    split
    · rw [node_modNode_self]
      rfl
    · rfl

/-! ## A pair reset (R64, R122, R129, R163) -/

/-- What a device reset leaves of a pair: `x` before, `y` after. -/
structure PairReset (x y : Pair) : Prop where
  faults : y.faults.filter (fun f => f.cls != .returnJam) = x.faults.filter fun f => f.cls != .returnJam
  unjammed : jamCondition x.ballReturn = false → y.faults = x.faults
  ballReturn : ∃ watch on use, y.ballReturn =
    { resetReturn x.ballReturn with watch := watch, liftOn := on, inUse := use }
  filter : y.filter = resetFilter x.filter
  poller : y.poller = { resetPoller x.poller with nodes := y.poller.nodes }
  nodes : ∀ a : NodeAddr, a ≠ laneIoAddr → y.poller.nodes[a] = resetNode x.poller.nodes[a]
  laneIo : ∃ slot serial, y.poller.nodes[laneIoAddr] =
    { resetNode x.poller.nodes[laneIoAddr] with slot := slot, nextSerial := serial }

namespace PairReset

variable {x y z : Pair}

theorem resetPair (x : Pair) : PairReset x (resetPair x) where
  faults := rfl
  unjammed := fun _ => rfl
  ballReturn := ⟨_, _, _, rfl⟩
  filter := rfl
  poller := rfl
  nodes := fun a _ => by simp [Machine.resetPair, resetPoller]
  laneIo := ⟨_, _, by simp only [Machine.resetPair, resetPoller, Fin.getElem_fin, Vector.getElem_map]; rfl⟩

/-- R129: the entry of RETURN_JAM changed. -/
theorem setFaults (h : PairReset x y) {fs : List FaultEntry}
    (others : fs.filter (fun f => f.cls != .returnJam) = y.faults.filter fun f => f.cls != .returnJam)
    (unjammed : jamCondition x.ballReturn = false → fs = y.faults) :
    PairReset x { y with faults := fs } :=
  { h with
    faults := others.trans h.faults
    unjammed := fun none_ => (unjammed none_).trans (h.unjammed none_) }

/-- R127: the lift decided. -/
theorem decideLift (h : PairReset x (s.pair p)) : PairReset x ((s.decideLift p).pair p) := by
  have onPair := (OnPair.refl p s).decideLift p rfl
  have faults := onPair.pairFaults p
  obtain ⟨watch, on, use, ret⟩ := h.ballReturn
  have before : s.poller p = { resetPoller x.poller with nodes := (s.poller p).nodes } := h.poller
  obtain ⟨slot, serial, laneIo⟩ := h.laneIo
  have outputs : s.node p laneIoAddr =
    { resetNode x.poller.nodes[laneIoAddr] with slot := slot, nextSerial := serial } := laneIo
  have decided := (liftDecided_decideLift s p).ballReturn
  have poller := (Decides.decideLift (p := p) (s := s) .refl).poller p
  have node := node_decideLift_laneIo s p
  exact
    { faults := by rw [faults]; exact h.faults
      unjammed := fun none_ => by rw [faults]; exact h.unjammed none_
      ballReturn := ⟨_, _, _, decided.trans (by rw [liftMoved, State.ballReturn, ret])⟩
      filter := (onPair.filter p).trans h.filter
      poller := poller.trans (by rw [before]; rfl)
      nodes := fun a ha => (node_decideLift s p ha p).trans (h.nodes a ha)
      laneIo := ⟨_, _, node.trans (by rw [outputs])⟩ }

end PairReset

/-! ## The records reset (R181) -/

/-- R181: every record of the device reset, before the jam conditions end and the lifts are decided. -/
def State.resetRecords (s : State) (discard : Bool) : State :=
  { s with
    lanes := s.lanes.map (resetLane discard)
    pairs := s.pairs.map resetPair
    sessions := Vector.replicate 32 none
    charges := if discard then ⟨[], false⟩ else s.charges }

theorem lane_resetRecords (s : State) (discard : Bool) (l : LaneId) :
    (s.resetRecords discard).lane l = resetLane discard (s.lane l) := by
  simp [State.lane, State.resetRecords]

theorem pair_resetRecords (s : State) (discard : Bool) (p : PairId) :
    (s.resetRecords discard).pair p = resetPair (s.pair p) := by
  simp [State.pair, State.resetRecords]

/-- R181: a lane of a device at rest is idle once it is reset. -/
theorem laneIdle_resetLane {x : Lane} (discard : Bool) (rest : atRest x.supervisor.machine = true) :
    LaneIdle (resetLane discard x) where
  machine := fun ready => by
    rw [show x.supervisor.machine = .ready from ready] at rest
    exact nomatch rest
  play := by nofun
  holder := rfl

/-- Only records of pairs, and the notices, differ. -/
def OnlyPairs (s t : State) : Prop := t = { s with pairs := t.pairs, notices := t.notices }

theorem OnlyPairs.trans {u : State} (h : OnlyPairs s t) (k : OnlyPairs t u) : OnlyPairs s u := by
  unfold OnlyPairs at h k ⊢
  rw [k, h]

theorem onlyPairs_decideLift (s : State) (p : PairId) : OnlyPairs s (s.decideLift p) :=
  ((OnPair.refl p s).decideLift p rfl).others.trans (by rw [lanes_decideLift])

/-- The records reset, with some of the pairs' jam conditions ended and lifts decided. -/
structure ResetUnderWay (s : State) (discard : Bool) (u : State) : Prop where
  others : OnlyPairs (s.resetRecords discard) u
  pairs : ∀ q, PairReset (s.pair q) (u.pair q)

theorem resetUnderWay_resetRecords (s : State) (discard : Bool) :
    ResetUnderWay s discard (s.resetRecords discard) :=
  ⟨rfl, fun q => by rw [pair_resetRecords]; exact PairReset.resetPair _⟩

/-- R122, R129: one pair's return. -/
theorem ResetUnderWay.resetReturnOf {discard : Bool} {u : State} (h : ResetUnderWay s discard u)
    (rest : ∀ l, atRest (s.supervisor l).machine = true) (p : PairId) :
    ResetUnderWay s discard (State.resetReturnOf s u p) := by
  have lanes : ∀ l, u.lane l = resetLane discard (s.lane l) := fun l => by
    rw [h.others]
    exact lane_resetRecords s discard l
  have idle : ∀ l, LaneIdle (u.lane l) := fun l => by
    rw [lanes]
    exact laneIdle_resetLane discard (rest l)
  obtain ⟨fs, ns, ended, others, unjammed⟩ := jamEnds_idle idle p (s.ballReturn p)
  let v : State := { u.setPairFaults p fs with notices := ns }
  have pairs : ∀ q, PairReset (s.pair q) (v.pair q) := fun q => by
    show PairReset _ ((u.setPairFaults p fs).pair q)
    rw [State.setPairFaults, pair_setPair]
    split
    · next here => subst here; exact (h.pairs _).setFaults others unjammed
    · exact h.pairs q
  have onPair := (OnPair.refl p v).decideLift p rfl
  rw [State.resetReturnOf, ended]
  refine ⟨?_, fun q => ?_⟩
  · have changed : OnlyPairs u v := rfl
    exact (h.others.trans changed).trans (onlyPairs_decideLift v p)
  · by_cases here : q = p
    · subst here; exact (pairs q).decideLift
    · rw [onPair.pairs q here]; exact pairs q

/-- R181: of the device's other records a reset changes none but the device state, the notices and the
trunk. -/
theorem resetBlocks_others {discard : Bool} {u : State} (h : OnlyPairs (s.resetRecords discard) u)
    (x : Trunk) : ({ u with device := .setup, notices := [], trunk := x } : State) =
      { s with
        device := .setup, notices := [], trunk := x, lanes := u.lanes, pairs := u.pairs
        sessions := u.sessions, charges := u.charges } := by
  unfold OnlyPairs at h
  rw [h]
  rfl

/-- R181: the records after the returns of all the pairs. -/
theorem resetUnderWay_foldl (rest : ∀ l, atRest (s.supervisor l).machine = true) (discard : Bool) :
    ResetUnderWay s discard (allPairs.foldl (State.resetReturnOf s) (s.resetRecords discard)) :=
  allPairs.foldlRecOn (motive := ResetUnderWay s discard) _ (resetUnderWay_resetRecords s discard)
    fun _ h p _ => h.resetReturnOf rest p

/-! ## The request (R181) -/

/-- R181: charges are owed where the Charge List holds a line or an unlisted total is not 0. -/
theorem owesCharges_iff : s.owesCharges = true ↔ s.charges.lines ≠ [] ∨
    ∃ l, (s.meter l).unlisted.amount ≠ 0 ∨ (s.meter l).unlisted.lines ≠ 0 := by
  simp only [State.owesCharges, Bool.or_eq_true, Bool.not_eq_true', ← Bool.not_eq_true, List.isEmpty_iff,
    List.eq_nil_iff_forall_not_mem (l := s.unlistedLanes), mem_unlistedLanes, not_forall, not_not]

theorem reqResetDevice_accepted {discard : Bool} (rest : s.allAtRest = true)
    (paid : s.owesCharges = true → discard = true) : reqResetDevice discard s =
      (s.resetBlocks discard, ⟨.ok, .resetDone s.trunk.requests.length
        (if discard then some s.discardedCharges else none)⟩) := by
  rw [reqResetDevice, if_neg (not_not.2 rest), if_neg fun h => h.2 (paid h.1)]

end

end Sys2Proof.Machine

open Sys2Proof Sys2Proof.Machine

/-- Settles O32: the records reset one after another, and the returns decided over lanes that all rest. -/
theorem resetDeviceClearsBlocks : Obligations.ResetDeviceClearsBlocks := by
  unfold Obligations.ResetDeviceClearsBlocks
  intro s tag discard free rests owes others cleared zeroed
  refine ⟨fun busy => ?_, fun rest owed keep => ?_, fun rest paid => ?_⟩
  · exact exec_of_act rfl free (if_pos (mt allAtRest_iff.1 busy)) rfl
  · subst keep
    refine exec_of_act rfl free ((if_neg (not_not.2 (allAtRest_iff.2 rest))).trans (if_pos ?_)) rfl
    exact ⟨owesCharges_iff.2 owed, nofun⟩
  · have answer := reqResetDevice_accepted (allAtRest_iff.2 rest) fun h => paid (owesCharges_iff.1 h)
    have still : ∀ l, atRest (s.supervisor l).machine = true := fun l => atRest_iff.2 (rest l).2
    have reset := resetUnderWay_foldl still discard
    let t := s.resetBlocks discard
    have lane : ∀ l, t.lane l = resetLane discard (s.lane l) := fun l => by
      show (allPairs.foldl (State.resetReturnOf s) (s.resetRecords discard)).lane l = _
      rw [reset.others]
      exact lane_resetRecords s discard l
    have result := exec_reply (i := .resetDevice tag discard) rfl free
      ((acted_resetDevice s discard).trunkFree free)
    simp only [answer, free.2] at result
    refine ⟨t, result, rfl, rfl, fun i => ?_, ?_, fun l => ?_, fun l => ?_, fun p => ?_, ?_, ?_, ?_⟩
    · show (allPairs.foldl (State.resetReturnOf s) (s.resetRecords discard)).session i = none
      rw [reset.others]
      simp [State.session, State.resetRecords]
    · refine (congrArg (clearedTrunk ∘ State.trunk) reset.others).trans ?_
      show clearedTrunk s.trunk = _
      simp only [clearedTrunk, free.2]
    · rw [State.entry, lane]; rfl
    · rw [State.tracker, State.supervisor, lane]
      exact ⟨rfl, rfl, rfl⟩
    · have pair := reset.pairs p
      obtain ⟨watch, on, use, ret⟩ := pair.ballReturn
      obtain ⟨slot, serial, laneIo⟩ := pair.laneIo
      refine ⟨pair.faults, fun expired overflow => pair.unjammed (Bool.or_eq_false_iff.2 ⟨expired, overflow⟩),
        ⟨watch, on, use, ret⟩, pair.filter, pair.poller, fun a => ⟨pair.nodes a, ?_⟩⟩
      by_cases here : a = laneIoAddr
      · subst here
        have outputs : t.node p laneIoAddr = _ := laneIo
        rw [outputs]
        rfl
      · have other : t.node p a = _ := pair.nodes a here
        rw [other]
        rfl
    · rintro rfl
      exact ⟨congrArg State.charges reset.others, fun l => by rw [State.meter, lane]; rfl⟩
    · rintro rfl
      exact (congrArg State.charges reset.others).trans rfl
    · exact resetBlocks_others reset.others _

end
